-- ==== Sys2Proof/Word.lean ====
section
/-! DEFINITION. The byte of the links and the index types of the controller's tables (00_scope.md, Table 3).
An index type holds exactly the numbers the table has, so a number outside it cannot stand in the state. -/

namespace Sys2Proof

/-- One byte of a frame, a slot or a table entry (chapter 11). -/
abbrev Byte := BitVec 8

/-- Doors 0..15. -/
abbrev DoorId := Fin 16

/-- Zones 0..11; zone 0 is OUTSIDE. -/
abbrev ZoneId := Fin 12

/-- Suppression channels 0..5. -/
abbrev ChannelId := Fin 6

/-- Schedules 0..31; schedule 0 is ALWAYS. -/
abbrev SchedId := Fin 32

/-- General inputs GI0..GI7. -/
abbrev GiId := Fin 8

/-- Index of the device table: index n stands for loop address n + 1 (R4). -/
abbrev DevIx := Fin 63

end Sys2Proof
end

