-- ==== Sys2Proof/Syntax.lean ====
section
/-! DEFINITION. The commands: one constructor for each row of spec/opcode_table.json, with the operands the rule of
the row gives it. Every constructor names its row and rule. -/

namespace Sys2Proof

/-- The two ends of the field loop (R1). -/
inductive LoopEnd where
  | endA
  | endB
deriving DecidableEq, Repr

/-- The local input lines (R157, R182): three per channel and eight general inputs. -/
inductive InputLine where
  | abort (channel : ChannelId)
  | valveConfirm (channel : ChannelId)
  | manualRelease (channel : ChannelId)
  | general (input : GiId)
deriving DecidableEq, Repr

/-- The commands the controller takes. A command that the station sends carries `seq`, the low four bits of its frame's
SEQ, which its reply repeats (R199, R200). -/
inductive Instr where
  /-- POWER_ON_RESET (R212); the operand says whether crystal edges run without a 4 ms gap from the reset (R47). -/
  | powerOnReset (crystalRuns : Bool)
  /-- LOOP_FRAME_RECEIVED (R1): the bytes from the first one after the last idle line up to the idle line, the end they
  came in at, and the millisecond part of uptime (R28). -/
  | loopFrameReceived (arrival : LoopEnd) (ms : Nat) (bytes : List Byte)
  /-- LOOP_FRAME_SENT (R17). -/
  | loopFrameSent
  /-- SWEEP_DUE (R20). -/
  | sweepDue
  /-- SWEEP_UNRETURNED (R21). -/
  | sweepUnreturned
  /-- SILENCE_TIMER_EXPIRY (R22). -/
  | silenceTimerExpiry
  /-- DEVICE_MISSING (R24). -/
  | deviceMissing (device : DevIx)
  /-- TIMEBASE_DEGRADED (R30). -/
  | timebaseDegraded
  /-- TIMEBASE_RESTORED (R31). -/
  | timebaseRestored
  /-- CLOCK_ADVANCE (R33): the second tick. -/
  | clockAdvance
  /-- STATION_FRAME_RECEIVED (R198): the bytes taken by the station receiver. -/
  | stationFrameReceived (bytes : List Byte)
  /-- STATION_FRAME_GAP (R198): the byte that ends the gap. -/
  | stationFrameGap (next : Byte)
  /-- LOOP_BOUND_STATION_FRAME (R13). -/
  | loopBoundStationFrame (seq : BitVec 4) (dst kind : Byte) (payload : List Byte)
  /-- TABLE_POINT (R203). -/
  | tablePoint (seq : BitVec 4) (table index : Byte)
  /-- TABLE_READ (R204). -/
  | tableRead (seq : BitVec 4) (count : Byte)
  /-- TABLE_WRITE (R205): the payload after the command code. -/
  | tableWrite (seq : BitVec 4) (entries : List Byte)
  /-- CRED_PUT (R61): slot bytes 0..14. -/
  | credPut (seq : BitVec 4) (slot : List Byte)
  /-- CRED_DROP (R61). -/
  | credDrop (seq : BitVec 4) (number : BitVec 24)
  /-- CRED_LOOK (R68). -/
  | credLook (seq : BitVec 4) (number : BitVec 24)
  /-- HOLIDAY_ADD (R38). -/
  | holidayAdd (seq : BitVec 4) (day : BitVec 16)
  /-- HOLIDAY_DROP (R39). -/
  | holidayDrop (seq : BitVec 4) (day : BitVec 16)
  /-- CLOCK_SET (R35). -/
  | clockSet (seq : BitVec 4) (day : BitVec 16) (weekday : Byte) (second : BitVec 24)
  /-- ZONE_VERIFY_CLEAR (R148). -/
  | zoneVerifyClear (seq : BitVec 4) (zone : Byte)
  /-- ZONE_VERIFY_KEEP (R149). -/
  | zoneVerifyKeep (seq : BitVec 4) (zone : Byte)
  /-- ZONE_UNKNOWN (R147). -/
  | zoneUnknown (seq : BitVec 4) (zone : Byte)
  /-- CHANNEL_RESET (R173). -/
  | channelReset (seq : BitVec 4) (channel : Byte)
  /-- CHANNEL_LOCKOUT (R174). -/
  | channelLockout (seq : BitVec 4) (channel : Byte)
  /-- CHANNEL_RESTORE (R175). -/
  | channelRestore (seq : BitVec 4) (channel : Byte)
  /-- ALARM_ACK (R188). -/
  | alarmAck (seq : BitVec 4) (number : Byte)
  /-- ALARM_CLEAR (R188). -/
  | alarmClear (seq : BitVec 4) (number : Byte)
  /-- ALARM_CLEAR_ZONE (R189). -/
  | alarmClearZone (seq : BitVec 4) (zone : Byte)
  /-- DOOR_GRANT (R112). -/
  | doorGrant (seq : BitVec 4) (door : Byte)
  /-- STRONGROOM_CANCEL (R130). -/
  | strongroomCancel (seq : BitVec 4) (door : Byte)
  /-- STATUS (R210). -/
  | status (seq : BitVec 4)
  /-- RESTART (R211). -/
  | restart (seq : BitVec 4)
  /-- STATION_FRAME_SENT (R209). -/
  | stationFrameSent
  /-- BUCKET_READ_COMPLETE (R52): slots 0..3 as the store gave them. -/
  | bucketReadComplete (slots : List (List Byte))
  /-- SLOT_WRITE_COMPLETE (R64). -/
  | slotWriteComplete
  /-- SLOT_WRITE_TIMEOUT (R64). -/
  | slotWriteTimeout
  /-- READ_BACK_COMPLETE (R65): the slot as the store gave it. -/
  | readBackComplete (slot : List Byte)
  /-- READ_BACK_TIMEOUT (R65). -/
  | readBackTimeout
  /-- UNLOCK_TIMER_EXPIRY (R103). -/
  | unlockTimerExpiry (door : DoorId)
  /-- HELD_OPEN_TIMER_EXPIRY (R104, R126). -/
  | heldOpenTimerExpiry (door : DoorId)
  /-- PAIRING_TIMER_EXPIRY (R111). -/
  | pairingTimerExpiry (door : DoorId)
  /-- CUSTODY_PAIRING_EXPIRY (R121). -/
  | custodyPairingExpiry (door : DoorId)
  /-- DISPLAY_TIMER_EXPIRY (R122). -/
  | displayTimerExpiry (door : DoorId)
  /-- DELAY_TIMER_EXPIRY (R123). -/
  | delayTimerExpiry (door : DoorId)
  /-- CONFIRM_TIMER_EXPIRY (R124). -/
  | confirmTimerExpiry (door : DoorId)
  /-- STRONGROOM_UNLOCK_EXPIRY (R125). -/
  | strongroomUnlockExpiry (door : DoorId)
  /-- BOLT_SETTLE_EXPIRY (R132). -/
  | boltSettleExpiry (door : DoorId)
  /-- COUNTDOWN_EXPIRY (R166). -/
  | countdownExpiry (channel : ChannelId)
  /-- DRIVE_TIMER_EXPIRY (R171). -/
  | driveTimerExpiry (channel : ChannelId)
  /-- VALVE_CONFIRM_TIMEOUT (R170). -/
  | valveConfirmTimeout (channel : ChannelId)
  /-- SOAK_TIMER_EXPIRY (R172). -/
  | soakTimerExpiry (channel : ChannelId)
  /-- TONE_REFRESH (R177). -/
  | toneRefresh (channel : ChannelId)
  /-- DRIVE_FAULT (R169). -/
  | driveFault (channel : ChannelId)
  /-- DRIVE_FAULT_CLEARED (R169). -/
  | driveFaultCleared (channel : ChannelId)
  /-- LEVEL_LINE_CHANGE (R180): the new raw level. -/
  | levelLineChange (line : InputLine) (active : Bool)
  /-- SETTLE_TIMER_EXPIRY (R180). -/
  | settleTimerExpiry (line : InputLine)
  /-- PULSE_LINE_CHANGE (R181): the new raw level. -/
  | pulseLineChange (line : InputLine) (active : Bool)
  /-- PRESS_TIMER_EXPIRY (R181). -/
  | pressTimerExpiry (line : InputLine)
  /-- RECOVERY_TIMER_EXPIRY (R181). -/
  | recoveryTimerExpiry (line : InputLine)
  /-- INTERVAL_TIMER_EXPIRY (R193). -/
  | intervalTimerExpiry (zone : ZoneId)
  /-- PROMPT_REPEAT (R193). -/
  | promptRepeat (zone : ZoneId)
  /-- GRACE_TIMER_EXPIRY (R193). -/
  | graceTimerExpiry (zone : ZoneId)
  /-- BUCKET_READ_TIMEOUT (R52). -/
  | bucketReadTimeout
  /-- CRYSTAL_GAP_WHILE_DEGRADED (R31). -/
  | crystalGapWhileDegraded
  /-- DRIVE_READBACK_CHANGE (R169): the new level of the readback pin. -/
  | driveReadbackChange (channel : ChannelId) (active : Bool)
  /-- STATION_LEN_OVER_40 (R198): the LEN byte. -/
  | stationLenOver40 (len : Byte)
deriving DecidableEq, Repr

end Sys2Proof
end

