-- ==== Sys2Proof/Decode.lean ====
section
/-! DEFINITION. Words of the command table. spec/opcode_table.json gives no row any bits (`"fields": []` in every row),
so no word spells a command; commands reach the controller as the operands their rules name. -/

namespace Sys2Proof

/-- The command that `nbits` bits of the table spell: none, since no row has bits. -/
def decodeTableWord (nbits w : Nat) : Option Instr :=
  match nbits, w with
  | _, _ => none

end Sys2Proof
end

