-- ==== Sys2Proof/Machine/Types.lean ====
section
/-! DEFINITION. The records of the ten blocks (00_scope.md Table 1; chapters 1 to 10), as plain data. Each enumeration
lists its values in the order its chapter lists them. -/

namespace Sys2Proof.Machine

/-- A timer counted in second ticks (R29): `none` while stopped, else the tick at which its count reaches its length.
The ticks never saturate, so the count left is this number less the present tick (log 2). -/
abbrev Timer := Option Nat

/-! ## Frames -/

/-- A frame without SYNC, LEN and CHECK, which follow from it (Table 11-1). `seqByte` is the whole SEQ byte. -/
structure Frame where
  dst : Byte
  src : Byte
  kind : Byte
  seqByte : Byte
  payload : List Byte
deriving DecidableEq, Repr

/-! ## RM: ring monitor and loop transmit queue (chapter 1) -/

/-- R20 to R22. -/
inductive RingState where
  | closed
  | split
  | dead
deriving DecidableEq, Repr

/-- R17: who made a queued frame. -/
inductive Origin where
  | originated
  | forwarded
deriving DecidableEq, Repr

/-- R17: an entry of the loop transmit queue. A DRIVE frame's destination and output code are read from the frame. -/
structure LoopEntry where
  frame : Frame
  origin : Origin
deriving DecidableEq, Repr

/-- R23: the end or ends a frame leaves by. -/
inductive Ends where
  | endA
  | endB
  | both
deriving DecidableEq, Repr

/-- R17: the loop transmitter. `entry` sends the head of the queue; `sweep` sends the sweep of that number, which is
held as pending once sent unless a RESTART came first (R26). -/
inductive LoopTx where
  | idle
  | entry (ends : Ends)
  | sweep (number : Byte) (frameCount : Nat) (live : Bool)
deriving DecidableEq, Repr

/-- The state of RM. `loopSeqCount` is the model's own counter of originated frames (log 7). -/
structure Rm where
  ring : RingState
  missCount : Nat
  returnCount : Nat
  queue : List LoopEntry
  tx : LoopTx
  sweepWaiting : Bool
  pendingSweep : Option Byte
  nextSweep : Byte
  sweepTimer : Timer
  silence : Timer
  loopSeqCount : Nat
deriving DecidableEq, Repr

/-! ## FC: device table (chapter 1) -/

/-- The side of a door a reader serves (00_scope.md 3.4). -/
inductive Side where
  | entry
  | exit
deriving DecidableEq, Repr

/-- Detector groups (R158). -/
inductive Group where
  | groupA
  | groupB
deriving DecidableEq, Repr

/-- A device kind with its binding (Table 1-1); `noDevice` is kind NONE. -/
inductive DevRole where
  | noDevice
  | reader (door : DoorId) (side : Side)
  | doorUnit (door : DoorId)
  | detector (channel : ChannelId) (group : Group)
  | abortStation (channel : ChannelId)
  | releaseStation (channel : ChannelId)
  | pendantReceiver (zone : ZoneId)
  | sounderFree
  | sounderChannel (channel : ChannelId)
  | sounderZone (zone : ZoneId)
  | display
  | other
deriving DecidableEq, Repr

/-- R24. -/
inductive Presence where
  | unseen
  | present
  | missing
deriving DecidableEq, Repr

/-- A device table entry: loaded part (R4) and runtime part (R6). `acceptMs` is uptime in milliseconds (R28) and is read only
beside a `lastSeq`. `acceptTick` and `since` are the second ticks from which the 2000 ms of R8 and the 30 s of R24 are counted,
also when uptime has saturated (R29). -/
structure Device where
  role : DevRole
  report : Bool
  supervised : Bool
  lastHeard : Option Nat
  lastSeq : Option (BitVec 4)
  acceptMs : Nat
  acceptTick : Nat
  reach : Option LoopEnd
  presence : Presence
  watchStart : Nat
  since : Nat
  foreign : Bool
  health : Byte
deriving DecidableEq, Repr

/-- The state of FC. -/
structure Fc where
  devices : Vector Device 63
deriving DecidableEq, Repr

/-! ## CSU: clock, timebase, schedules (chapter 2) -/

/-- Table 2-1. -/
inductive ClockState where
  | unset
  | set
deriving DecidableEq, Repr

/-- R30. -/
inductive Timebase where
  | normal
  | degraded
deriving DecidableEq, Repr

/-- A schedule slot that is not empty (R36): day-type mask, start minute, length in minutes. -/
structure SchedSlot where
  mask : Byte
  start : Nat
  length : Nat
deriving DecidableEq, Repr

/-- The four slots of a schedule; `none` is an empty slot (R36). -/
abbrev Schedule := Vector (Option SchedSlot) 4

/-- The remainder of a schedule (2.5): UNBOUNDED, or seconds; 0 when the schedule does not cover. -/
inductive Remainder where
  | unbounded
  | bounded (seconds : Nat)
deriving DecidableEq, Repr

/-- R32: the stamp of an event. -/
inductive Stamp where
  | clock (day second : Nat) (drift : Bool)
  | uptime (seconds : Nat) (drift : Bool)
deriving DecidableEq, Repr

/-- The state of CSU. `ticks` counts second ticks since power-on without saturating; uptime is its view (R28). -/
structure Csu where
  ticks : Nat
  ms : Nat
  day : Nat
  weekday : Nat
  second : Nat
  clock : ClockState
  epochEnd : Bool
  timebase : Timebase
  crystalWatch : Timer
  schedules : Vector Schedule 32
  holidays : List Nat
  afterHours : Vector Bool 12
deriving DecidableEq, Repr

/-! ## CSC: credential store and cache (chapter 3) -/

/-- Table 3-1. -/
inductive CredStatus where
  | active
  | suspended
  | lost
deriving DecidableEq, Repr

/-- Table 3-1. -/
inductive CredClass where
  | staff
  | custodian
  | contractor
  | visitor
deriving DecidableEq, Repr

/-- A credential record as the blocks use it (R48). -/
structure CredRecord where
  number : Nat
  status : CredStatus
  cls : CredClass
  doorMask : BitVec 16
  schedule : SchedId
  pin : Option Nat
  expiry : Nat
  escortRequired : Bool
  passbackExempt : Bool
  duressEnabled : Bool
  issue : Nat
  checkIn : Nat
deriving DecidableEq, Repr

/-- R54: VALID holds the 16 slot bytes as read. -/
inductive CacheState where
  | valid (slot : List Byte)
  | negative
  | fetching
deriving DecidableEq, Repr

/-- R54. The bucket of an entry is the home bucket of its number. -/
structure CacheEntry where
  number : Nat
  state : CacheState
deriving DecidableEq, Repr

/-- R57: who waits on a fetch. -/
inductive Requester where
  | reader (device : DevIx)
  | station
deriving DecidableEq, Repr

/-- R57. -/
structure Waiter where
  requester : Requester
  number : Nat
deriving DecidableEq, Repr

/-- R57. `firstNumber` is the number of the first waiter the request had (R60). -/
structure FetchRequest where
  bucket : Nat
  waiters : List Waiter
  attempt : Nat
  inCycle : Bool
  firstNumber : Nat
deriving DecidableEq, Repr

/-- R61. -/
inductive WriteOp where
  | put
  | drop
deriving DecidableEq, Repr

/-- R61 to R65: the stage of the credential write, with the attempt of its bucket read or its target slot. -/
inductive WriteStage where
  | waiting
  | read (attempt : Nat)
  | slotWrite (target : Nat)
  | readBack (target : Nat)
deriving DecidableEq, Repr

/-- R61: the write record. `bytes` are the 16 bytes to be written. -/
structure WriteRecord where
  op : WriteOp
  number : Nat
  bytes : List Byte
  clamped : Bool
  stage : WriteStage
deriving DecidableEq, Repr

/-- R51: what holds the store port. `orphan` is a bucket read that a RESTART left running (R70). -/
inductive Port where
  | idle
  | fetch
  | write
  | orphan (attempt : Nat) (firstNumber : Nat)
deriving DecidableEq, Repr

/-- R56, R58: the answer to a lookup. -/
inductive Answer where
  | found (slot : List Byte)
  | notEnrolled
  | storeFault
  | busy
  | wait
deriving DecidableEq, Repr

/-- The state of CSC. -/
structure Csc where
  cache : List CacheEntry
  queue : List FetchRequest
  write : Option WriteRecord
  port : Port
  look : Option Nat
deriving DecidableEq, Repr

/-! ## PE: presentations (chapter 4) -/

/-- R71: a presentation. Those in the pending list are in state WAIT_STORE (R74). -/
structure Presentation where
  reader : DevIx
  door : DoorId
  side : Side
  number : Nat
  issue : Nat
  pin : Option Nat
  arrival : Nat
deriving DecidableEq, Repr

/-- The state of PE. -/
structure Pe where
  waiting : List Presentation
deriving DecidableEq, Repr

/-! ## DC: doors (chapters 5 and 6) -/

/-- Table 5-1. -/
inductive DoorKind where
  | noDoor
  | plain
  | strongroom
deriving DecidableEq, Repr

/-- Table 5-1. -/
inductive PinMode where
  | never
  | always
  | afterHours
deriving DecidableEq, Repr

/-- Table 5-1. -/
inductive PassbackMode where
  | noCheck
  | soft
  | strict
deriving DecidableEq, Repr

/-- The loaded fields of a door (Table 5-1). -/
structure DoorEntry where
  kind : DoorKind
  outer : ZoneId
  inner : ZoneId
  entryReader : Option DevIx
  exitReader : Option DevIx
  unit : Option DevIx
  schedule : SchedId
  unlockWindow : Nat
  heldLimit : Nat
  pinMode : PinMode
  passback : PassbackMode
  pairing : Nat
  timeDelay : Nat
  confirmWindow : Nat
deriving DecidableEq, Repr

/-- The states of a door: LOCKED to FAULT as Table 5-2 lists them for a PLAIN door, and those that Table 6-1 adds for a
STRONGROOM door, which shares OPEN, HELD_OPEN, FORCED and FAULT. -/
inductive DoorState where
  | locked
  | unlocked
  | opened
  | heldOpen
  | forced
  | fault
  | secured
  | custodyWait
  | delay
  | confirmWait
  | unbolted
deriving DecidableEq, Repr

/-- R97. -/
inductive Contact where
  | closed
  | opened
  | unknown
deriving DecidableEq, Repr

/-- R97, R117. -/
inductive Bolt where
  | thrown
  | withdrawn
deriving DecidableEq, Repr

/-- R99. -/
inductive Direction where
  | entry
  | exit
  | station
deriving DecidableEq, Repr

/-- R99: one entry of a passage list. -/
structure PassageCred where
  number : Nat
  cls : CredClass
deriving DecidableEq, Repr

/-- R99: a passage record. The source and destination follow from the direction and the door's two zones. -/
structure Passage where
  direction : Direction
  outer : ZoneId
  inner : ZoneId
  list : List PassageCred
  custodian : Bool
deriving DecidableEq, Repr

/-- R107: the escort in a pairing slot. -/
structure Escort where
  reader : DevIx
  number : Nat
  cls : CredClass
deriving DecidableEq, Repr

/-- Table 6-2: a custodian. -/
structure Custodian where
  number : Nat
  schedule : SchedId
  duress : Bool
deriving DecidableEq, Repr

/-- R45: effective delay D′ and confirm window C′. -/
structure Budget where
  delay : Nat
  window : Int
deriving DecidableEq, Repr

/-- A door: loaded entry (R95) and runtime record (R97 to R107, R116). The pairing timer is the escort's at a PLAIN door
and the custodians' at a STRONGROOM door. -/
structure Door where
  entry : DoorEntry
  state : DoorState
  contact : Contact
  bolt : Option Bolt
  passage : Option Passage
  slot : Option Escort
  custodyA : Option Custodian
  custodyB : Option Custodian
  budget : Option Budget
  confirmOpening : Option Nat
  boltCommand : Bolt
  mismatch : Bool
  unlock : Timer
  held : Timer
  pairing : Timer
  delay : Timer
  display : Timer
  confirm : Timer
  settle : Timer
deriving DecidableEq, Repr

/-- The state of DC. -/
structure Dc where
  doors : Vector Door 16
deriving DecidableEq, Repr

/-! ## RU: rosters (chapter 7) -/

/-- R137: a roster entry; its zone is that of the list it stands in. -/
structure RosterEntry where
  number : Nat
  cls : CredClass
  entered : Nat
  custodian : Bool
deriving DecidableEq, Repr

/-- R142. -/
inductive ZoneStatus where
  | known
  | unknown
deriving DecidableEq, Repr

/-- The loaded fields of a zone (Table 7-1), less the channel, which is the channel table's binding (R139). -/
structure ZoneEntry where
  limit : Nat
  staffed : SchedId
  checkIn : Nat
  grace : Nat
deriving DecidableEq, Repr

/-- The state of RU: the ordered list, the status and the entry of every zone. Zone 0's list stays empty. -/
structure Ru where
  rosters : Vector (List RosterEntry) 12
  status : Vector ZoneStatus 12
  zones : Vector ZoneEntry 12
deriving DecidableEq, Repr

/-! ## SC: suppression channels (chapter 8) -/

/-- Table 8-1. -/
inductive AbortMode where
  | pause
  | restart
deriving DecidableEq, Repr

/-- Table 8-3. -/
inductive ChannelState where
  | unused
  | normal
  | firstAlarm
  | preDischarge
  | held
  | releasing
  | discharged
  | lockedOut
deriving DecidableEq, Repr

/-- Table 8-2: a hold-cause set. -/
structure HoldSet where
  abort : Bool
  occupied : Bool
  unknown : Bool
  alarm : Bool
  enclosure : Bool
deriving DecidableEq, Repr

/-- Table 8-4. -/
structure FaultFlags where
  detectorMissing : Bool
  abortMissing : Bool
  confirmFailed : Bool
  driveFault : Bool
deriving DecidableEq, Repr

/-- R170: the confirmation of the present release. -/
inductive ConfirmPhase where
  | idle
  | waiting
  | confirmed
  | failed
deriving DecidableEq, Repr

/-- R169: the 50 ms count of the drive readback. -/
inductive ReadCount where
  | stopped
  | disagreeing
  | agreeing
deriving DecidableEq, Repr

/-- Table 11-3: the patterns of TONE. -/
inductive Tone where
  | off
  | preDischarge
  | held
  | release
  | prompt
deriving DecidableEq, Repr

/-- A channel: loaded entry (Table 8-1) and runtime record (R155). `countdownDue` is the tick of R166 that would bring
the countdown to 0 and has not been applied. -/
structure Channel where
  zone : Option ZoneId
  countdownLength : Nat
  abortMode : AbortMode
  coincidence : Bool
  driveTime : Nat
  confirmTimeout : Nat
  soakTime : Nat
  state : ChannelState
  countdown : Nat
  countdownDue : Bool
  hold : HoldSet
  flags : FaultFlags
  soakComplete : Bool
  stationLockout : Bool
  abortSeen : Bool
  abortLine : Bool
  valveLine : Bool
  driveOn : Bool
  readback : Bool
  readCount : ReadCount
  phase : ConfirmPhase
  drive : Timer
  confirm : Timer
  soak : Timer
  refresh : Timer
deriving DecidableEq, Repr

/-- R158. -/
inductive DetectorLevel where
  | normal
  | alarm
  | fault
deriving DecidableEq, Repr

/-- What SC keeps per device address: a detector's last level and latch (R158), an abort station's state (R159), a release
station's last reported state, `some true` being OPERATED (R163). -/
structure ScDevice where
  level : Option DetectorLevel
  latch : Bool
  abortHeld : Bool
  release : Option Bool
deriving DecidableEq, Repr

/-- R161: SC's copy of a zone's values. -/
structure ZoneView where
  status : ZoneStatus
  count : Nat
  alarm : Bool
deriving DecidableEq, Repr

/-- R161: SC's copy of a bounding door. -/
structure DoorView where
  outer : ZoneId
  inner : ZoneId
  contact : Contact
deriving DecidableEq, Repr

/-- The state of SC. `keys` holds, per general input, the channel whose LOCKOUT KEY it last reported active. -/
structure Sc where
  channels : Vector Channel 6
  devs : Vector ScDevice 63
  zoneViews : Vector ZoneView 12
  doorViews : Vector (Option DoorView) 16
  keys : Vector (Option ChannelId) 8
deriving DecidableEq, Repr

/-! ## SAU: lines, alarms, lone workers (chapter 9) -/

/-- R181. -/
inductive PulseState where
  | ready
  | pressed
  | spent
deriving DecidableEq, Repr

/-- The qualifier of a line: none (an UNUSED general input, R182), LEVEL with its settle timer (R180), or PULSE with its
recovery timer of 1 s (R181, R29). The press timer runs exactly in PRESSED. -/
inductive Qualifier where
  | unqualified
  | level (active : Bool) (settling : Bool)
  | pulse (state : PulseState) (recovery : Timer)
deriving DecidableEq, Repr

/-- A local input line: raw level and qualifier. -/
structure Line where
  raw : Bool
  qualifier : Qualifier
deriving DecidableEq, Repr

/-- R183: the function of a general input with its binding. -/
inductive LineFunction where
  | unused
  | staffButton (zone : ZoneId)
  | zoneClearKey (zone : ZoneId)
  | lockoutKey (channel : ChannelId)
deriving DecidableEq, Repr

/-- R184: the kind of a staff alarm with what identifies it. -/
inductive AlarmIdentity where
  | duress (number : Nat)
  | personal (pendant : Nat)
  | manDown (pendant : Nat)
  | button (input : GiId)
  | overdue (number : Nat)
deriving DecidableEq, Repr

/-- R184: a staff alarm record; it is ACKNOWLEDGED when it has an acknowledge stamp and OPEN otherwise. -/
structure AlarmRecord where
  number : Nat
  identity : AlarmIdentity
  zone : ZoneId
  door : Option DoorId
  raised : Stamp
  acked : Option Stamp
deriving DecidableEq, Repr

/-- R190. -/
inductive LoneState where
  | idle
  | running
  | prompt
  | overdue
deriving DecidableEq, Repr

/-- R190 to R193: SAU's copies for a zone, and its lone-worker timer. -/
structure Lone where
  count : Nat
  sole : Option Nat
  afterHours : Bool
  state : LoneState
  interval : Nat
  intervalTimer : Timer
  graceTimer : Timer
  repeatTimer : Timer
  prompts : Nat
deriving DecidableEq, Repr

/-- The state of SAU. -/
structure Sau where
  abortLines : Vector Line 6
  valveLines : Vector Line 6
  manualLines : Vector Line 6
  generalLines : Vector Line 8
  table : Vector LineFunction 8
  alarms : List AlarmRecord
  nextNumber : Nat
  overflow : Vector Bool 12
  lone : Vector Lone 12
  tones : Vector Tone 12
deriving DecidableEq, Repr

/-! ## SP: station port (chapter 10) -/

/-- Table 11-10. -/
inductive EventKind where
  | ringSplit | ringClosed | ringDead | ringAlive | foreignDevice | deviceMissing | deviceReturned | deviceTrouble
  | deviceTroubleCleared | transmitDisplaced
  | timebaseDegraded | timebaseRestored | clockEpochEnd | clockSet
  | storeFault | credChanged
  | deny | lostCardPresented | rosterFull | grant | passbackSoft
  | passage | grantUnused | unattributedEgress | doorForced | doorHeldOpen | doorClosedAfterHeld | doorClosedAfterForced
  | doorFault | doorFaultCleared | escortWaiting | stationGrant | custodyStarted | delayStarted | confirmOpen
  | strongroomUnbolted | strongroomCancelled | boltMismatch | boltMismatchCleared
  | zoneUnknown | rosterOverflow | zoneVerified | zoneVerifyRefused
  | detectorAlarm | detectorFault | detectorNormal | manualRelease | channelFirstAlarm | channelPreDischarge
  | channelHeld | holdChanged | channelResumed | channelRelease | releaseConfirmed | releaseConfirmFailed
  | valveUncommanded | holdAfterRelease | soakComplete | channelReset | channelLockedOut | channelRestored
  | driveFault | driveFaultCleared
  | staffAlarmRaised | staffAlarmRepeat | staffAlarmAcked | staffAlarmCleared | alarmTableFull | alarmOverflowCleared
  | loneWorkerPrompt | loneWorkerCheckedIn
  | powerOn | restarted
deriving DecidableEq, Repr

/-- R206. -/
inductive EventClass where
  | routine
  | alarm
deriving DecidableEq, Repr

/-- Table 11-9: what the credential field of an event holds. -/
inductive Subject where
  | credential (number : Nat)
  | pendant (id : Nat)
  | device (device : DevIx)
deriving DecidableEq, Repr

/-- R206: an event record; its class follows from its kind. -/
structure EventRecord where
  kind : EventKind
  stamp : Stamp
  door : Option DoorId
  zone : Option ZoneId
  channel : Option ChannelId
  subject : Option Subject
  reason : Option Nat
deriving DecidableEq, Repr

/-- R200: the commands whose reply is deferred. -/
inductive ReplyOwner where
  | write
  | look
  | restart
deriving DecidableEq, Repr

/-- R200: a place of the reply list. A payload begins with the command code and the reply code. -/
inductive ReplyBody where
  | reserved (owner : ReplyOwner) (code : Byte)
  | ready (payload : List Byte)
  | sending (payload : List Byte)
deriving DecidableEq, Repr

/-- R200. -/
structure ReplyPlace where
  seq : BitVec 4
  body : ReplyBody
deriving DecidableEq, Repr

/-- Table 10-2. -/
inductive ReplyCode where
  | accept
  | acceptClamped
  | busy
  | badTable
  | badIndex
  | badValue
  | notFound
  | bucketFull
  | tableFull
  | storeFault
  | refusedState
  | ownedOutput
  | loopBusy
deriving DecidableEq, Repr

/-- Table 10-3. -/
inductive TableId where
  | device
  | door
  | zone
  | channel
  | schedule
  | line
  | holiday
  | roster
  | alarm
deriving DecidableEq, Repr

/-- R210. -/
inductive RestartCause where
  | powerOn
  | restartCommand
deriving DecidableEq, Repr

/-- R209: the station transmitter: a reply (the place marked as sending), the head of the event queue or the head of the
forward queue; these two carry the value of the station sequence counter (R206, R208), which advances when the frame leaves the
transmitter (log 13). -/
inductive StationTx where
  | idle
  | reply
  | event
  | forward
deriving DecidableEq, Repr

/-- R208: a forwarded copy: the frame as received and the end it came in at. -/
structure ForwardCopy where
  frame : Frame
  arrival : LoopEnd
deriving DecidableEq, Repr

/-- The state of SP. `rx` holds the bytes of the frame being assembled; `intake` the valid frame that SP is taking and the one that
waits for it meanwhile (R198, log 6). -/
structure Sp where
  cursorTable : TableId
  cursorIndex : Nat
  replies : List ReplyPlace
  events : List EventRecord
  overflow : Bool
  forwards : List ForwardCopy
  seq : BitVec 4
  cause : RestartCause
  tx : StationTx
  rx : List Byte
  intake : List Frame
  restartWaiting : Bool
deriving DecidableEq, Repr

/-! ## Outputs and named reasons (chapters 4, 5, 6, 11) -/

/-- Table 4-4: the reason class a reader shows with DENIED. -/
inductive ReasonClass where
  | card
  | door
  | access
  | pin
  | zone
  | escort
deriving DecidableEq, Repr

/-- 11.2: the messages of DRIVE DISPLAY. -/
inductive Message where
  | granted
  | denied (cls : ReasonClass)
  | wait
  | pinPrompt
  | escortWait
  | custodyWait
  | delay (seconds : Nat)
  | confirm
  | windowClosed
deriving DecidableEq, Repr

/-- Table 11-3: the outputs of a DRIVE frame. -/
inductive Output where
  | unlock (seconds : Nat)
  | lock
  | boltWithdraw
  | boltThrow
  | tone (pattern : Tone)
  | display (message : Message)
deriving DecidableEq, Repr

/-- Table 4-4: deny reasons. -/
inductive DenyReason where
  | listFull
  | doorFault
  | notEnrolled
  | storeFault
  | storeBusy
  | status
  | issue
  | expired
  | noRight
  | schedule
  | pinRequired
  | pin
  | passback
  | suppression
  | rosterFull
  | doorBusy
  | escort
  | custody
  | windowTooShort
deriving DecidableEq, Repr

/-- Table 6-3: why a strongroom sequence is cancelled. -/
inductive CancelReason where
  | pairing
  | windowClosed
  | confirm
  | egress
  | opened
  | fault
  | station
  | suppression
deriving DecidableEq, Repr

/-- Table 5-3: reasons of GRANT_UNUSED. -/
inductive UnusedReason where
  | timeout
  | fault
deriving DecidableEq, Repr

/-- Table 5-3: reasons of UNATTRIBUTED_EGRESS. -/
inductive EgressReason where
  | handle
  | contact
  | fault
deriving DecidableEq, Repr

/-- Table 3-2: reasons of STORE_FAULT. -/
inductive StoreReason where
  | fetch
  | writeTimeout
  | readBack
deriving DecidableEq, Repr

/-- R144, R92: which limit left no room. -/
inductive RoomReason where
  | zone
  | pool
deriving DecidableEq, Repr

/-- R142: why a zone became UNKNOWN. -/
inductive UnknownReason where
  | unattributed
  | capacity
  | station
deriving DecidableEq, Repr

/-- R148 to R150: how a zone was verified. -/
inductive VerifyReason where
  | clear
  | keep
  | key
deriving DecidableEq, Repr

/-- R174, R175: whose lockout demand. -/
inductive LockoutReason where
  | station
  | key
deriving DecidableEq, Repr

end Sys2Proof.Machine
end

