-- ==== Sys2Proof/Machine/Bytes.lean ====
section
/-! DEFINITION. Bytes: the byte order of multi-byte fields, the two check sequences, and the frame on the wire
(chapter 11). -/

namespace Sys2Proof.Machine

/-- A one-byte field. -/
def bytes1 (n : Nat) : List Byte := [BitVec.ofNat 8 n]

/-- A two-byte field, most significant byte first (00_scope.md 3.1). -/
def bytes2 (n : Nat) : List Byte := BitVec.ofNat 8 (n / 256) :: bytes1 n

/-- A three-byte field. -/
def bytes3 (n : Nat) : List Byte := BitVec.ofNat 8 (n / 65536) :: bytes2 n

/-- A four-byte field. -/
def bytes4 (n : Nat) : List Byte := BitVec.ofNat 8 (n / 16777216) :: bytes3 n

/-- An eight-byte field. -/
def bytes8 (n : Nat) : List Byte := bytes4 (n / 4294967296) ++ bytes4 n

/-- The number that bytes spell, most significant byte first. -/
def numberOf (l : List Byte) : Nat := l.foldl (fun a b => a * 256 + b.toNat) 0

/-- `count` bytes from an offset. -/
def slice (l : List Byte) (offset count : Nat) : List Byte := (l.drop offset).take count

/-- The number in a field of `count` bytes at an offset. -/
def field (l : List Byte) (offset count : Nat) : Nat := numberOf (slice l offset count)

/-- The byte at an offset. -/
def byteAt (l : List Byte) (offset : Nat) : Byte := l.getD offset 0

/-- R213: one bit of the frame CRC-16. -/
def crc16Bit (c : BitVec 16) : BitVec 16 := if c.msb then (c <<< 1) ^^^ 0x1021#16 else c <<< 1

/-- R213: one byte of the frame CRC-16, most significant bit first. -/
def crc16Byte (c : BitVec 16) (b : Byte) : BitVec 16 :=
  let c0 := c ^^^ (b.setWidth 16 <<< 8)
  crc16Bit (crc16Bit (crc16Bit (crc16Bit (crc16Bit (crc16Bit (crc16Bit (crc16Bit c0)))))))

/-- R213: the frame CRC-16. -/
def crc16 (l : List Byte) : BitVec 16 := l.foldl crc16Byte 0xFFFF#16

/-- R213: one bit of the slot CRC-8. -/
def crc8Bit (c : Byte) : Byte := if c.msb then (c <<< 1) ^^^ 0x07#8 else c <<< 1

/-- R213: one byte of the slot CRC-8. -/
def crc8Byte (c b : Byte) : Byte :=
  crc8Bit (crc8Bit (crc8Bit (crc8Bit (crc8Bit (crc8Bit (crc8Bit (crc8Bit (c ^^^ b))))))))

/-- R213: the slot CRC-8. -/
def crc8 (l : List Byte) : Byte := l.foldl crc8Byte 0

/-- The SYNC value (R1). -/
def sync : Byte := 0xD5

/-- The loop address of a device (R4). -/
def addressOf (d : DevIx) : Nat := d.val + 1

/-- The device of an address 1..63. -/
def deviceAt (address : Nat) : Option DevIx :=
  if h : 1 ≤ address ∧ address ≤ 63 then some ⟨address - 1, by omega⟩ else none

/-- The sequence number of a frame: the low four bits of its SEQ byte (R2, R199). -/
def Frame.seq (f : Frame) : BitVec 4 := f.seqByte.setWidth 4

/-- The bytes of a frame from LEN to the end of its payload (Table 11-1). -/
def Frame.fromLen (f : Frame) : List Byte :=
  BitVec.ofNat 8 f.payload.length :: f.dst :: f.src :: f.kind :: f.seqByte :: f.payload

/-- The frame on the wire, with SYNC and CHECK (Table 11-1, R213). -/
def Frame.wire (f : Frame) : List Byte := sync :: f.fromLen ++ bytes2 (crc16 f.fromLen).toNat

/-- The frame that the bytes from LEN through CHECK spell: their number must be LEN + 7 and the CRC-16 must agree
(R1, R2, R198). -/
def frameOf (l : List Byte) : Option Frame :=
  match l with
  | len :: dst :: src :: kind :: seqByte :: rest =>
    let payload := rest.take len.toNat
    if rest.length = len.toNat + 2
        ∧ (crc16 (len :: dst :: src :: kind :: seqByte :: payload)).toNat = numberOf (rest.drop len.toNat) then
      some { dst, src, kind, seqByte, payload }
    else none
  | _ => none

/-- R1, R2: what a loop end's receiver makes of the bytes up to the idle line: a valid frame, or nothing. -/
def loopReceive (l : List Byte) : Option Frame :=
  match l.dropWhile (fun b => b != sync) with
  | _ :: len :: rest => if 40 < len.toNat then none else frameOf (len :: rest)
  | _ => none

end Sys2Proof.Machine
end

