-- ==== Sys2Proof/Machine/Codes.lean ====
section
/-! DEFINITION. Code values (chapter 11): "Enumerated values are coded from 0 in the order given, unless a table gives
other codes", and "Named reasons are coded from 1 in the order their rule lists them". Where the order is read from a
chapter's table, log 10 and log 11 say so (DEDUCED). -/

namespace Sys2Proof.Machine

/-! ## Loop frames (Tables 11-2, 11-3) -/

def kindBadge : Byte := 0x01
def kindDoorStatus : Byte := 0x02
def kindDetector : Byte := 0x03
def kindAbortStation : Byte := 0x04
def kindReleaseStation : Byte := 0x05
def kindPendant : Byte := 0x06
def kindHeartbeat : Byte := 0x07
def kindDrive : Byte := 0x10
def kindSweep : Byte := 0x11
def kindCommand : Byte := 0x20
def kindReply : Byte := 0x21
def kindEvent : Byte := 0x22
def kindForwarded : Byte := 0x23

/-- The station's address (Table 7). -/
def stationAddress : Byte := 0x40

/-- The address of all loop devices (Table 7). -/
def allDevices : Byte := 0x7F

def Tone.code : Tone → Nat
  | .off => 0
  | .preDischarge => 1
  | .held => 2
  | .release => 3
  | .prompt => 4

def ReasonClass.code : ReasonClass → Nat
  | .card => 1
  | .door => 2
  | .access => 3
  | .pin => 4
  | .zone => 5
  | .escort => 6

/-- 11.2: the message code, then the value where the message has one. -/
def Message.bytes : Message → List Byte
  | .granted => bytes1 1
  | .denied c => bytes1 2 ++ bytes2 c.code
  | .wait => bytes1 3
  | .pinPrompt => bytes1 4
  | .escortWait => bytes1 5
  | .custodyWait => bytes1 6
  | .delay n => bytes1 7 ++ bytes2 n
  | .confirm => bytes1 8
  | .windowClosed => bytes1 9

/-- Table 11-3: the output code. -/
def Output.code : Output → Nat
  | .unlock _ => 1
  | .lock => 2
  | .boltWithdraw => 3
  | .boltThrow => 4
  | .tone _ => 5
  | .display _ => 6

/-- Table 11-3: the argument. -/
def Output.argument : Output → List Byte
  | .unlock n => bytes2 n
  | .lock => []
  | .boltWithdraw => []
  | .boltThrow => []
  | .tone t => bytes2 t.code
  | .display m => m.bytes

/-- The payload of a DRIVE frame (Table 11-2). -/
def Output.payload (o : Output) : List Byte := bytes1 o.code ++ o.argument

/-- R17: the output code of a DRIVE frame. -/
def Frame.outputCode (f : Frame) : Option Nat :=
  if f.kind = kindDrive then f.payload.head?.map BitVec.toNat else none

def endCode : LoopEnd → Nat
  | .endA => 0
  | .endB => 1

/-! ## Replies and commands (Tables 11-2, 11-4) -/

def ReplyCode.code : ReplyCode → Nat
  | .accept => 0
  | .acceptClamped => 1
  | .busy => 2
  | .badTable => 3
  | .badIndex => 4
  | .badValue => 5
  | .notFound => 6
  | .bucketFull => 7
  | .tableFull => 8
  | .storeFault => 9
  | .refusedState => 10
  | .ownedOutput => 11
  | .loopBusy => 12

def codeTablePoint : Byte := 0x01
def codeTableRead : Byte := 0x02
def codeTableWrite : Byte := 0x03
def codeCredPut : Byte := 0x10
def codeCredDrop : Byte := 0x11
def codeCredLook : Byte := 0x12
def codeHolidayAdd : Byte := 0x18
def codeHolidayDrop : Byte := 0x19
def codeClockSet : Byte := 0x1A
def codeZoneVerifyClear : Byte := 0x20
def codeZoneVerifyKeep : Byte := 0x21
def codeZoneUnknown : Byte := 0x22
def codeChannelReset : Byte := 0x28
def codeChannelLockout : Byte := 0x29
def codeChannelRestore : Byte := 0x2A
def codeAlarmAck : Byte := 0x30
def codeAlarmClear : Byte := 0x31
def codeAlarmClearZone : Byte := 0x32
def codeDoorGrant : Byte := 0x38
def codeStrongroomCancel : Byte := 0x39
def codeStatus : Byte := 0x3E
def codeRestart : Byte := 0x3F
def codeLoopBound : Byte := 0x00

def TableId.code : TableId → Nat
  | .device => 1
  | .door => 2
  | .zone => 3
  | .channel => 4
  | .schedule => 5
  | .line => 6
  | .holiday => 7
  | .roster => 8
  | .alarm => 9

/-- R203: the table a code names. -/
def tableOf (code : Byte) : Option TableId :=
  [TableId.device, .door, .zone, .channel, .schedule, .line, .holiday, .roster, .alarm].find?
    (fun t => t.code == code.toNat)

/-- Table 10-3: the number of entries. -/
def TableId.entries : TableId → Nat
  | .device => 63
  | .door => 16
  | .zone => 12
  | .channel => 6
  | .schedule => 32
  | .line => 8
  | .holiday => 32
  | .roster => 240
  | .alarm => 16

/-- Table 11-6: bytes of the write form; none for a read-only table. -/
def TableId.writeSize : TableId → Option Nat
  | .device => some 4
  | .door => some 17
  | .zone => some 6
  | .channel => some 8
  | .schedule => some 20
  | .line => some 2
  | .holiday => none
  | .roster => none
  | .alarm => none

/-- Table 11-6: entries in one TABLE READ reply. -/
def TableId.perReply : TableId → Nat
  | .device => 2
  | .door => 1
  | .zone => 3
  | .channel => 1
  | .schedule => 1
  | .line => 4
  | .holiday => 4
  | .roster => 3
  | .alarm => 1

/-! ## States and enumerations of the tables (11.5) -/

def RingState.code : RingState → Nat
  | .closed => 0
  | .split => 1
  | .dead => 2

def ClockState.code : ClockState → Nat
  | .unset => 0
  | .set => 1

def Timebase.code : Timebase → Nat
  | .normal => 0
  | .degraded => 1

def RestartCause.code : RestartCause → Nat
  | .powerOn => 0
  | .restartCommand => 1

def Presence.code : Presence → Nat
  | .unseen => 0
  | .present => 1
  | .missing => 2

def reachCode : Option LoopEnd → Nat
  | none => 0
  | some .endA => 1
  | some .endB => 2

def Side.code : Side → Nat
  | .entry => 0
  | .exit => 1

def Group.code : Group → Nat
  | .groupA => 0
  | .groupB => 1

/-- Table 1-1, in its order. -/
def DevRole.kindCode : DevRole → Nat
  | .noDevice => 0
  | .reader _ _ => 1
  | .doorUnit _ => 2
  | .detector _ _ => 3
  | .abortStation _ => 4
  | .releaseStation _ => 5
  | .pendantReceiver _ => 6
  | .sounderFree => 7
  | .sounderChannel _ => 7
  | .sounderZone _ => 7
  | .display => 8
  | .other => 9

/-- Table 11-6: binding a; 0 where the kind has none (R214). -/
def DevRole.bindingA : DevRole → Nat
  | .noDevice => 0
  | .reader d _ => d.val
  | .doorUnit d => d.val
  | .detector c _ => c.val
  | .abortStation c => c.val
  | .releaseStation c => c.val
  | .pendantReceiver z => z.val
  | .sounderFree => 0
  | .sounderChannel c => c.val
  | .sounderZone z => z.val
  | .display => 0
  | .other => 0

/-- Table 11-6: binding b. -/
def DevRole.bindingB : DevRole → Nat
  | .noDevice => 0
  | .reader _ s => s.code
  | .doorUnit _ => 0
  | .detector _ g => g.code
  | .abortStation _ => 0
  | .releaseStation _ => 0
  | .pendantReceiver _ => 0
  | .sounderFree => 0
  | .sounderChannel _ => 1
  | .sounderZone _ => 2
  | .display => 0
  | .other => 0

def DoorKind.code : DoorKind → Nat
  | .noDoor => 0
  | .plain => 1
  | .strongroom => 2

def PinMode.code : PinMode → Nat
  | .never => 0
  | .always => 1
  | .afterHours => 2

def PassbackMode.code : PassbackMode → Nat
  | .noCheck => 0
  | .soft => 1
  | .strict => 2

/-- A door's state as Table 6-1 lists it for a STRONGROOM and Table 5-2 for any other kind. -/
def doorStateCode (kind : DoorKind) (state : DoorState) : Nat :=
  match kind with
  | .strongroom =>
    match state with
    | .secured => 0
    | .custodyWait => 1
    | .delay => 2
    | .confirmWait => 3
    | .unbolted => 4
    | .opened => 5
    | .heldOpen => 6
    | .forced => 7
    | .fault => 8
    | .locked => 0
    | .unlocked => 4
  | .noDoor | .plain =>
    match state with
    | .locked => 0
    | .unlocked => 1
    | .opened => 2
    | .heldOpen => 3
    | .forced => 4
    | .fault => 5
    | .secured | .custodyWait | .delay | .confirmWait => 0
    | .unbolted => 1

def Contact.code : Contact → Nat
  | .closed => 0
  | .opened => 1
  | .unknown => 2

def Bolt.code : Bolt → Nat
  | .thrown => 0
  | .withdrawn => 1

/-- R97: THROWN, WITHDRAWN or none. -/
def boltReportCode : Option Bolt → Nat
  | some b => b.code
  | none => 2

/-- Table 11-6: 0 none, 1 ENTRY, 2 EXIT, 3 STATION; also the reason codes of GRANT and PASSAGE. -/
def Direction.code : Direction → Nat
  | .entry => 1
  | .exit => 2
  | .station => 3

def CredClass.code : CredClass → Nat
  | .staff => 0
  | .custodian => 1
  | .contractor => 2
  | .visitor => 3

def ZoneStatus.code : ZoneStatus → Nat
  | .known => 0
  | .unknown => 1

def AbortMode.code : AbortMode → Nat
  | .pause => 0
  | .restart => 1

/-- Table 8-1 lists yes, then no. -/
def coincidenceCode (required : Bool) : Nat := if required then 0 else 1

def ChannelState.code : ChannelState → Nat
  | .unused => 0
  | .normal => 1
  | .firstAlarm => 2
  | .preDischarge => 3
  | .held => 4
  | .releasing => 5
  | .discharged => 6
  | .lockedOut => 7

def LineFunction.code : LineFunction → Nat
  | .unused => 0
  | .staffButton _ => 1
  | .zoneClearKey _ => 2
  | .lockoutKey _ => 3

def LineFunction.binding : LineFunction → Nat
  | .unused => 0
  | .staffButton z => z.val
  | .zoneClearKey z => z.val
  | .lockoutKey c => c.val

def PulseState.code : PulseState → Nat
  | .ready => 0
  | .pressed => 1
  | .spent => 2

def boolCode (b : Bool) : Nat := if b then 1 else 0

/-- Table 11-6: the qualifier byte of a LINE entry. The table codes a PULSE line READY 0, PRESSED 1, SPENT 2 and a LEVEL line
'level 0/1' without saying which level is 1; that ACTIVE is 1 and INACTIVE 0 is the model's: DESIGN CHOICE, log 48. -/
def Qualifier.code : Qualifier → Nat
  | .unqualified => 0
  | .level active _ => boolCode active
  | .pulse state _ => state.code

/-- R184 lists the kinds DURESS to OVERDUE; coded from 0 in the ALARM table. -/
def AlarmIdentity.kindCode : AlarmIdentity → Nat
  | .duress _ => 0
  | .personal _ => 1
  | .manDown _ => 2
  | .button _ => 3
  | .overdue _ => 4

/-! ## Events (Tables 11-9, 11-10) -/

/-- Table 11-10: the block's base plus the position in its list. -/
def EventKind.code : EventKind → Nat
  | .ringSplit => 0x01
  | .ringClosed => 0x02
  | .ringDead => 0x03
  | .ringAlive => 0x04
  | .foreignDevice => 0x05
  | .deviceMissing => 0x06
  | .deviceReturned => 0x07
  | .deviceTrouble => 0x08
  | .deviceTroubleCleared => 0x09
  | .transmitDisplaced => 0x0A
  | .timebaseDegraded => 0x10
  | .timebaseRestored => 0x11
  | .clockEpochEnd => 0x12
  | .clockSet => 0x13
  | .storeFault => 0x18
  | .credChanged => 0x19
  | .deny => 0x20
  | .lostCardPresented => 0x21
  | .rosterFull => 0x22
  | .grant => 0x23
  | .passbackSoft => 0x24
  | .passage => 0x30
  | .grantUnused => 0x31
  | .unattributedEgress => 0x32
  | .doorForced => 0x33
  | .doorHeldOpen => 0x34
  | .doorClosedAfterHeld => 0x35
  | .doorClosedAfterForced => 0x36
  | .doorFault => 0x37
  | .doorFaultCleared => 0x38
  | .escortWaiting => 0x39
  | .stationGrant => 0x3A
  | .custodyStarted => 0x3B
  | .delayStarted => 0x3C
  | .confirmOpen => 0x3D
  | .strongroomUnbolted => 0x3E
  | .strongroomCancelled => 0x3F
  | .boltMismatch => 0x40
  | .boltMismatchCleared => 0x41
  | .zoneUnknown => 0x48
  | .rosterOverflow => 0x49
  | .zoneVerified => 0x4A
  | .zoneVerifyRefused => 0x4B
  | .detectorAlarm => 0x50
  | .detectorFault => 0x51
  | .detectorNormal => 0x52
  | .manualRelease => 0x53
  | .channelFirstAlarm => 0x54
  | .channelPreDischarge => 0x55
  | .channelHeld => 0x56
  | .holdChanged => 0x57
  | .channelResumed => 0x58
  | .channelRelease => 0x59
  | .releaseConfirmed => 0x5A
  | .releaseConfirmFailed => 0x5B
  | .valveUncommanded => 0x5C
  | .holdAfterRelease => 0x5D
  | .soakComplete => 0x5E
  | .channelReset => 0x5F
  | .channelLockedOut => 0x60
  | .channelRestored => 0x61
  | .driveFault => 0x62
  | .driveFaultCleared => 0x63
  | .staffAlarmRaised => 0x70
  | .staffAlarmRepeat => 0x71
  | .staffAlarmAcked => 0x72
  | .staffAlarmCleared => 0x73
  | .alarmTableFull => 0x74
  | .alarmOverflowCleared => 0x75
  | .loneWorkerPrompt => 0x76
  | .loneWorkerCheckedIn => 0x77
  | .powerOn => 0x7E
  | .restarted => 0x7F

/-- Table 11-10: the kinds marked * are ALARM class. -/
def EventKind.cls : EventKind → EventClass
  | .ringSplit | .ringDead | .deviceMissing | .timebaseDegraded | .clockEpochEnd | .storeFault | .lostCardPresented
  | .doorForced | .doorHeldOpen | .doorFault | .boltMismatch | .detectorAlarm | .detectorFault | .manualRelease
  | .channelFirstAlarm | .channelPreDischarge | .channelHeld | .channelResumed | .channelRelease
  | .releaseConfirmFailed | .valveUncommanded | .holdAfterRelease | .driveFault | .staffAlarmRaised
  | .staffAlarmRepeat | .alarmTableFull | .powerOn | .restarted => .alarm
  | .ringClosed | .ringAlive | .foreignDevice | .deviceReturned | .deviceTrouble | .deviceTroubleCleared
  | .transmitDisplaced | .timebaseRestored | .clockSet | .credChanged | .deny | .rosterFull | .grant | .passbackSoft
  | .passage | .grantUnused | .unattributedEgress | .doorClosedAfterHeld | .doorClosedAfterForced | .doorFaultCleared
  | .escortWaiting | .stationGrant | .custodyStarted | .delayStarted | .confirmOpen | .strongroomUnbolted
  | .strongroomCancelled | .boltMismatchCleared | .zoneUnknown | .rosterOverflow | .zoneVerified | .zoneVerifyRefused
  | .detectorNormal | .holdChanged | .releaseConfirmed | .soakComplete | .channelReset | .channelLockedOut
  | .channelRestored | .driveFaultCleared | .staffAlarmAcked | .staffAlarmCleared | .alarmOverflowCleared
  | .loneWorkerPrompt | .loneWorkerCheckedIn => .routine

def EventClass.code : EventClass → Nat
  | .routine => 0
  | .alarm => 1

/-- Table 4-4, from 1, STATUS counted once (11.6). -/
def DenyReason.code : DenyReason → Nat
  | .listFull => 1
  | .doorFault => 2
  | .notEnrolled => 3
  | .storeFault => 4
  | .storeBusy => 5
  | .status => 6
  | .issue => 7
  | .expired => 8
  | .noRight => 9
  | .schedule => 10
  | .pinRequired => 11
  | .pin => 12
  | .passback => 13
  | .suppression => 14
  | .rosterFull => 15
  | .doorBusy => 16
  | .escort => 17
  | .custody => 18
  | .windowTooShort => 19

/-- Table 6-3, from 1 (11.6). -/
def CancelReason.code : CancelReason → Nat
  | .pairing => 1
  | .windowClosed => 2
  | .confirm => 3
  | .egress => 4
  | .opened => 5
  | .fault => 6
  | .station => 7
  | .suppression => 8

def UnusedReason.code : UnusedReason → Nat
  | .timeout => 1
  | .fault => 2

def EgressReason.code : EgressReason → Nat
  | .handle => 1
  | .contact => 2
  | .fault => 3

def StoreReason.code : StoreReason → Nat
  | .fetch => 1
  | .writeTimeout => 2
  | .readBack => 3

/-- CRED_CHANGED: PUT, DROP (Table 3-2). -/
def WriteOp.code : WriteOp → Nat
  | .put => 1
  | .drop => 2

def RoomReason.code : RoomReason → Nat
  | .zone => 1
  | .pool => 2

def UnknownReason.code : UnknownReason → Nat
  | .unattributed => 1
  | .capacity => 2
  | .station => 3

def VerifyReason.code : VerifyReason → Nat
  | .clear => 1
  | .keep => 2
  | .key => 3

def LockoutReason.code : LockoutReason → Nat
  | .station => 1
  | .key => 2

/-- 11.6: a named reason paired with a value: the name in the high byte. -/
def paired (name value : Nat) : Nat := name * 256 + value % 256

/-- 11.6: staff alarm events: the kind, DURESS = 1 to OVERDUE = 5, with the alarm number. -/
def AlarmIdentity.reason (i : AlarmIdentity) (number : Nat) : Nat := paired (i.kindCode + 1) number

/-- 11.6: the hold-cause set as bits. -/
def HoldSet.code (h : HoldSet) : Nat :=
  boolCode h.abort + 2 * boolCode h.occupied + 4 * boolCode h.unknown + 8 * boolCode h.alarm
    + 16 * boolCode h.enclosure

/-- Table 8-4 as bits, in its order (log 9, DEDUCED). -/
def FaultFlags.code (f : FaultFlags) : Nat :=
  boolCode f.detectorMissing + 2 * boolCode f.abortMissing + 4 * boolCode f.confirmFailed + 8 * boolCode f.driveFault

/-- R214: a stamp's six bytes. -/
def Stamp.bytes : Stamp → List Byte
  | .clock day second drift => bytes1 (2 * boolCode drift) ++ bytes2 day ++ bytes3 second
  | .uptime seconds drift => bytes1 (1 + 2 * boolCode drift) ++ bytes1 0 ++ bytes4 seconds

/-- Table 11-9, bytes 12 to 14. -/
def Subject.value : Subject → Nat
  | .credential n => n
  | .pendant n => n
  | .device d => addressOf d

/-- Table 11-9, bits 3, 5 and 6 of the presence byte. -/
def Subject.presence : Subject → Nat
  | .credential _ => 8
  | .pendant _ => 8 + 32
  | .device _ => 8 + 64

/-- Table 11-9: the presence byte. -/
def EventRecord.presence (e : EventRecord) : Nat :=
  boolCode e.door.isSome + 2 * boolCode e.zone.isSome + 4 * boolCode e.channel.isSome
    + (match e.subject with | some x => x.presence | none => 0) + 16 * boolCode e.reason.isSome

/-- Table 11-9: the seventeen bytes of an event record; an absent field is 0 (R214). -/
def EventRecord.bytes (e : EventRecord) : List Byte :=
  bytes1 e.kind.code ++ bytes1 e.kind.cls.code ++ e.stamp.bytes ++ bytes1 e.presence
    ++ bytes1 (match e.door with | some d => d.val | none => 0)
    ++ bytes1 (match e.zone with | some z => z.val | none => 0)
    ++ bytes1 (match e.channel with | some c => c.val | none => 0)
    ++ bytes3 (match e.subject with | some x => x.value | none => 0)
    ++ bytes2 (e.reason.getD 0)

/-- R214, R208: the payload of a FORWARDED frame: the copied frame from LEN, cut to 34 payload bytes with LEN kept, then
the arrival end. -/
def ForwardCopy.payload (c : ForwardCopy) : List Byte := c.frame.fromLen.take 39 ++ bytes1 (endCode c.arrival)

end Sys2Proof.Machine
end

