-- ==== Sys2Proof/Machine/Operands.lean ====
section
/-! DEFINITION. The forms in which values arrive: a credential slot and its record (R48 to R50, Table 11-5), the payloads
of loop frames (Table 11-2), and the slot bytes of a CRED PUT (R61). -/

namespace Sys2Proof.Machine

/-! ## Credential slots -/

/-- R49: the four outcomes of the slot test. -/
inductive SlotClass where
  | erased
  | faulted
  | empty
  | occupied (number : Nat)
deriving DecidableEq, Repr

/-- R48, R61: a credential number that may be enrolled. -/
def enrollable (number : Nat) : Bool := number != 0 && number != 16777215

/-- Table 3-1: a PIN field that is a number or the mark of absence. -/
def pinFieldGood (pin : Nat) : Bool := decide (pin ≤ 9999) || pin == 65535

/-- R49, test 4, less the number: a field outside its set. -/
def slotFieldsGood (b : List Byte) : Bool :=
  decide (field b 3 1 ≤ 2) && decide (field b 4 1 ≤ 3) && decide (field b 7 1 ≤ 31) && pinFieldGood (field b 8 2)
    && decide (field b 14 1 ≤ 120)

/-- R49: the slot test, in its order. -/
def classifySlot (b : List Byte) : SlotClass :=
  if b.all (fun x => x == 0xFF) then .erased
  else if crc8 (b.take 15) ≠ byteAt b 15 then .faulted
  else if field b 0 3 = 0 then .empty
  else if field b 0 3 = 16777215 ∨ ¬ slotFieldsGood b then .faulted
  else .occupied (field b 0 3)

def SlotClass.isFaulted : SlotClass → Bool
  | .faulted => true
  | .erased | .empty | .occupied _ => false

/-- R63: a slot that counts as empty. -/
def SlotClass.isEmpty : SlotClass → Bool
  | .erased | .empty => true
  | .faulted | .occupied _ => false

/-- Table 11-5: status codes. -/
def statusOf : Nat → CredStatus
  | 0 => .active
  | 1 => .suspended
  | _ => .lost

/-- Table 11-5: class codes. -/
def classOf : Nat → CredClass
  | 0 => .staff
  | 1 => .custodian
  | 2 => .contractor
  | _ => .visitor

/-- R48: the record in an occupied slot. -/
def recordOf (b : List Byte) : CredRecord :=
  { number := field b 0 3
    status := statusOf (field b 3 1)
    cls := classOf (field b 4 1)
    doorMask := BitVec.ofNat 16 (field b 5 2)
    schedule := Fin.ofNat 32 (field b 7 1)
    pin := if field b 8 2 = 65535 then none else some (field b 8 2)
    expiry := field b 10 2
    escortRequired := (byteAt b 12).getLsbD 0
    passbackExempt := (byteAt b 12).getLsbD 1
    duressEnabled := (byteAt b 12).getLsbD 2
    issue := field b 13 1
    checkIn := field b 14 1 }

/-- R50: the home bucket of a credential number. -/
def homeBucket (number : Nat) : Nat := number % 2048

/-- R50: the byte address in the serial memory of slot `slot` of bucket `bucket`. -/
def slotAddress (bucket slot : Nat) : Nat := 64 * bucket + 16 * slot

/-- R50, R52: the byte addresses of the four slots of a bucket, in the order a bucket read takes them. -/
def bucketAddresses (bucket : Nat) : List Nat := (List.range 4).map (slotAddress bucket)

/-- R52: what the slots of bucket `bucket` give for a number: the lowest slot occupied by it. A number is never matched
outside its home bucket (R50). -/
def slotOf (slots : List (List Byte)) (bucket number : Nat) : Option (List Byte) :=
  if homeBucket number = bucket then slots.find? (fun b => classifySlot b == .occupied number) else none

/-- R52: a completed bucket read is faulted when a slot is. -/
def readFaulted (slots : List (List Byte)) : Bool := slots.any (fun b => (classifySlot b).isFaulted)

/-- R61: the parameters of a CRED PUT lie in their sets. -/
def putGood (b : List Byte) : Bool :=
  decide (field b 3 1 ≤ 2) && decide (field b 4 1 ≤ 3) && decide (field b 7 1 ≤ 31) && pinFieldGood (field b 8 2)

/-- R61: the check-in interval is brought into range. -/
def putClamped (b : List Byte) : Bool := decide (120 < field b 14 1)

/-- R61: the sixteen bytes that a CRED PUT prepares from bytes 0 to 14. -/
def putBytes (b : List Byte) : List Byte :=
  let first := b.take 12 ++ [byteAt b 12 &&& 0x07, byteAt b 13] ++ bytes1 (min (field b 14 1) 120)
  first ++ [crc8 first]

/-- R64: what a CRED DROP writes. -/
def dropBytes : List Byte := List.replicate 16 0

/-- R63: the first slot, of those at and after `k`, that satisfies a test. -/
def slotIndex (p : SlotClass → Bool) (slots : List (List Byte)) : Option Nat :=
  slots.findIdx? (fun b => p (classifySlot b))

/-- R63: the target slot of a write. -/
def targetSlot (op : WriteOp) (number : Nat) (slots : List (List Byte)) : Option Nat :=
  match slotIndex (fun c => c == .occupied number) slots with
  | some k => some k
  | none =>
    match op with
    | .put => slotIndex SlotClass.isEmpty slots
    | .drop => none

/-! ## Payloads of loop frames -/

/-- Table 11-2: PENDANT kinds. -/
inductive PendantKind where
  | alarm
  | manDown
  | checkIn
deriving DecidableEq, Repr

/-- R9, R10: what an accepted frame of a fitting kind hands to its block. -/
inductive Report where
  | badge (door : DoorId) (side : Side) (number issue : Nat) (pin : Option Nat)
  | doorStatus (door : DoorId) (contact : Contact) (bolt : Bolt) (handle : Bool)
  | detector (channel : ChannelId) (group : Group) (level : DetectorLevel)
  | abortStation (channel : ChannelId) (held : Bool)
  | releaseStation (channel : ChannelId) (operated : Bool)
  | pendant (zone : ZoneId) (id : Nat) (kind : PendantKind)
  | heartbeat (health : Byte)
deriving DecidableEq, Repr

/-- A coded field of two values. -/
def codedBool (b : Byte) : Option Bool :=
  if b = 0 then some false else if b = 1 then some true else none

/-- Table 11-2: the level of a DETECTOR frame. -/
def codedLevel (b : Byte) : Option DetectorLevel :=
  if b = 0 then some .normal else if b = 1 then some .alarm else if b = 2 then some .fault else none

/-- Table 11-2: the kind of a PENDANT frame. -/
def codedPendant (b : Byte) : Option PendantKind :=
  if b = 0 then some .alarm else if b = 1 then some .manDown else if b = 2 then some .checkIn else none

def contactOf (opened : Bool) : Contact := if opened then .opened else .closed
def boltOf (withdrawn : Bool) : Bolt := if withdrawn then .withdrawn else .thrown

/-- R9, Table 1-3, Table 11-2: the report an accepted frame carries, given the role of the sending device; none when R9
treats it as a HEARTBEAT without a health byte. -/
def reportOf (role : DevRole) (f : Frame) : Option Report :=
  let p := f.payload
  if f.kind = kindHeartbeat then
    match p with
    | [h] => some (.heartbeat h)
    | _ => none
  else
    match role with
    | .reader d side =>
      if f.kind = kindBadge ∧ p.length = 4 then some (.badge d side (field p 0 3) (field p 3 1) none)
      else if f.kind = kindBadge ∧ p.length = 6 then
        some (.badge d side (field p 0 3) (field p 3 1) (some (field p 4 2)))
      else none
    | .doorUnit d =>
      if f.kind = kindDoorStatus then
        match p with
        | [a, b, c] =>
          match codedBool a, codedBool b, codedBool c with
          | some contact, some bolt, some handle => some (.doorStatus d (contactOf contact) (boltOf bolt) handle)
          | _, _, _ => none
        | _ => none
      else none
    | .detector c g =>
      if f.kind = kindDetector then
        match p with
        | [a] => (codedLevel a).map (Report.detector c g)
        | _ => none
      else none
    | .abortStation c =>
      if f.kind = kindAbortStation then
        match p with
        | [a] => (codedBool a).map (Report.abortStation c)
        | _ => none
      else none
    | .releaseStation c =>
      if f.kind = kindReleaseStation then
        match p with
        | [a] => (codedBool a).map (Report.releaseStation c)
        | _ => none
      else none
    | .pendantReceiver z =>
      if f.kind = kindPendant then
        match p with
        | [a, b, c] => (codedPendant c).map (Report.pendant z (numberOf [a, b]))
        | _ => none
      else none
    | .noDevice | .sounderFree | .sounderChannel _ | .sounderZone _ | .display | .other => none

end Sys2Proof.Machine
end

