-- ==== Sys2Proof/Config.lean ====
section
/-! DEFINITION. Free values: what the spec leaves unstated while the controller goes on. They have no body, so
nothing can be proved of the value. -/

namespace Sys2Proof.Config

/-- DESIGN CHOICE (log 7): the sequence number of the n-th frame the controller originates toward the loop (a DRIVE or
a SWEEP). R2 fixes only the high four bits of the SEQ byte as zero; no rule states the low four. -/
opaque loopSeq : Nat → BitVec 4

/-- DESIGN CHOICE (log 8): the presence byte of an ALARM table entry as a function of which of credential, pendant id,
line, door and acknowledge stamp the record carries. Table 11-6 names the byte and gives its bits nowhere. -/
opaque alarmPresence : Bool → Bool → Bool → Bool → Bool → Byte

end Sys2Proof.Config
end

