-- ==== Sys2Proof/Machine/State.lean ====
section
/-! DEFINITION. The machine's state: the ten blocks and the queue of waiting commands; why a step could stop; and the
state right after power-on (R26, R27, R47, R69, R93, R114, R135, R153, R178, R196, R212). -/

namespace Sys2Proof.Machine

/-- The state: what each block of 00_scope.md Table 1 holds, and the commands that wait, first in first out. -/
structure State where
  pending : List Instr
  rm : Rm
  fc : Fc
  csu : Csu
  csc : Csc
  pe : Pe
  dc : Dc
  ru : Ru
  sc : Sc
  sau : Sau
  sp : Sp
deriving DecidableEq, Repr

/-- No rule of the spec stops the controller, so no command faults: the type has no constructor (safe: nothing can be
claimed of a fault that never comes). -/
inductive Fault where
deriving DecidableEq, Repr

/-- Why a command would have no meaning. -/
inductive Refusal where
  /-- Raised by `exec` for a row that has no meaning yet; no row is left so. Safe: the step stops. -/
  | notModelled (mnemonic : String)
deriving DecidableEq, Repr

/-- R27: a device table entry after power-on. -/
def Device.powerOn : Device :=
  { role := .noDevice, report := false, supervised := false, lastHeard := none, lastSeq := none, acceptMs := 0, acceptTick := 0,
    reach := none, presence := .unseen, watchStart := 0, since := 0, foreign := false, health := 0 }

/-- Table 5-1: the loaded fields of a door after power-on. -/
def DoorEntry.powerOn : DoorEntry :=
  { kind := .noDoor, outer := 0, inner := 0, entryReader := none, exitReader := none, unit := none, schedule := 0,
    unlockWindow := 8, heldLimit := 60, pinMode := .never, passback := .noCheck, pairing := 30, timeDelay := 300,
    confirmWindow := 120 }

/-- R114, R135: a door after power-on. -/
def Door.powerOn : Door :=
  { entry := .powerOn, state := .locked, contact := .unknown, bolt := none, passage := none, slot := none,
    custodyA := none, custodyB := none, budget := none, confirmOpening := none, boltCommand := .thrown,
    mismatch := false, unlock := none, held := none, pairing := none, delay := none, display := none,
    confirm := none, settle := none }

/-- Table 7-1: a zone's loaded fields after power-on; also the fixed entry 0 (R139). -/
def ZoneEntry.powerOn : ZoneEntry := { limit := 64, staffed := 0, checkIn := 30, grace := 120 }

/-- The empty hold-cause set. -/
def HoldSet.empty : HoldSet :=
  { abort := false, occupied := false, unknown := false, alarm := false, enclosure := false }

/-- Table 8-1, R178: a channel after power-on. -/
def Channel.powerOn : Channel :=
  { zone := none, countdownLength := 30, abortMode := .pause, coincidence := true, driveTime := 30,
    confirmTimeout := 10, soakTime := 1800, state := .unused, countdown := 0, countdownDue := false,
    hold := .empty,
    flags := { detectorMissing := false, abortMissing := false, confirmFailed := false, driveFault := false },
    soakComplete := false, stationLockout := false, abortSeen := false, abortLine := false, valveLine := false,
    driveOn := false, readback := false, readCount := .stopped, phase := .idle, drive := none, confirm := none,
    soak := none, refresh := none }

/-- R178: what SC keeps of a device after power-on. -/
def ScDevice.powerOn : ScDevice := { level := none, latch := false, abortHeld := false, release := none }

/-- R196: a zone's lone-worker timer after power-on. That the interval and the prompt count of an IDLE timer are 0 is the model's:
DESIGN CHOICE, log 35. -/
def Lone.powerOn : Lone :=
  { count := 0, sole := none, afterHours := false, state := .idle, interval := 0, intervalTimer := none,
    graceTimer := none, repeatTimer := none, prompts := 0 }

/-- R212: the POWER_ON record, stamped with uptime 0 and the UNSET flag. -/
def EventRecord.powerOn : EventRecord :=
  { kind := .powerOn, stamp := .uptime 0 false, door := none, zone := none, channel := none, subject := none,
    reason := none }

/-- The state right after power-on with every pin inactive and a running crystal (log 14). The free station transmitter has taken
POWER_ON (R209): its EVENT frame is under way with SEQ 0, the value of the sequence counter (R212), which advances when that frame
leaves the transmitter (R206, log 13). -/
def State.reset : State :=
  { pending := [],
    rm := { ring := .split, missCount := 0, returnCount := 0, queue := [], tx := .idle, sweepWaiting := false,
            pendingSweep := none, nextSweep := 0, sweepTimer := some 2, silence := some 10, loopSeqCount := 0 },
    fc := { devices := Vector.replicate 63 Device.powerOn },
    csu := { ticks := 0, ms := 0, day := 0, weekday := 0, second := 0, clock := .unset, epochEnd := false,
             timebase := .normal, crystalWatch := none,
             schedules := Vector.replicate 32 (Vector.replicate 4 none), holidays := [],
             afterHours := Vector.replicate 12 false },
    csc := { cache := [], queue := [], write := none, port := .idle, look := none },
    pe := { waiting := [] },
    dc := { doors := Vector.replicate 16 Door.powerOn },
    ru := { rosters := Vector.replicate 12 [],
            status := (Vector.replicate 12 ZoneStatus.unknown).set 0 .known,
            zones := Vector.replicate 12 ZoneEntry.powerOn },
    sc := { channels := Vector.replicate 6 Channel.powerOn, devs := Vector.replicate 63 ScDevice.powerOn,
            zoneViews := Vector.replicate 12 { status := .unknown, count := 0, alarm := false },
            doorViews := Vector.replicate 16 none, keys := Vector.replicate 8 none },
    sau := { abortLines := Vector.replicate 6 { raw := false, qualifier := .level false false },
             valveLines := Vector.replicate 6 { raw := false, qualifier := .level false false },
             manualLines := Vector.replicate 6 { raw := false, qualifier := .pulse .ready none },
             generalLines := Vector.replicate 8 { raw := false, qualifier := .unqualified },
             table := Vector.replicate 8 .unused, alarms := [], nextNumber := 1,
             overflow := Vector.replicate 12 false, lone := Vector.replicate 12 Lone.powerOn,
             tones := Vector.replicate 12 .off },
    sp := { cursorTable := .device, cursorIndex := 0, replies := [], events := [EventRecord.powerOn],
            overflow := false, forwards := [], seq := 0, cause := .powerOn, tx := .event, rx := [], intake := [],
            restartWaiting := false } }

end Sys2Proof.Machine
end

