-- ==== Sys2Proof/Machine/Ops.lean ====
section
/-! DEFINITION. The operations every block shares: reading and writing one record of a table, timers, posting an event
(R206, R207), the reply list (R200), the loop transmit queue (R17 to R19), the forward queue (R208), and what the two
transmitters take when they are free (R17, R23, R209). -/

namespace Sys2Proof.Machine

/-! ## Records of the tables -/

def allDevices63 : List DevIx := List.finRange 63
def allDoors : List DoorId := List.finRange 16
def allZones : List ZoneId := List.finRange 12
def allChannels : List ChannelId := List.finRange 6
def allInputs : List GiId := List.finRange 8

/-- The tracked zones 1..11 (00_scope.md 3.4). -/
def trackedZones : List ZoneId := allZones.filter (fun z => z != 0)

def State.device (s : State) (d : DevIx) : Device := s.fc.devices.get d
def State.setDevice (s : State) (d : DevIx) (x : Device) : State :=
  { s with fc := { s.fc with devices := s.fc.devices.set d x d.isLt } }

def State.door (s : State) (d : DoorId) : Door := s.dc.doors.get d
def State.setDoor (s : State) (d : DoorId) (x : Door) : State :=
  { s with dc := { s.dc with doors := s.dc.doors.set d x d.isLt } }

def State.channel (s : State) (c : ChannelId) : Channel := s.sc.channels.get c
def State.setChannel (s : State) (c : ChannelId) (x : Channel) : State :=
  { s with sc := { s.sc with channels := s.sc.channels.set c x c.isLt } }

def State.scDev (s : State) (d : DevIx) : ScDevice := s.sc.devs.get d
def State.setScDev (s : State) (d : DevIx) (x : ScDevice) : State :=
  { s with sc := { s.sc with devs := s.sc.devs.set d x d.isLt } }

def State.zoneView (s : State) (z : ZoneId) : ZoneView := s.sc.zoneViews.get z
def State.setZoneView (s : State) (z : ZoneId) (x : ZoneView) : State :=
  { s with sc := { s.sc with zoneViews := s.sc.zoneViews.set z x z.isLt } }

def State.doorView (s : State) (d : DoorId) : Option DoorView := s.sc.doorViews.get d
def State.setDoorView (s : State) (d : DoorId) (x : Option DoorView) : State :=
  { s with sc := { s.sc with doorViews := s.sc.doorViews.set d x d.isLt } }

def State.key (s : State) (g : GiId) : Option ChannelId := s.sc.keys.get g
def State.setKey (s : State) (g : GiId) (x : Option ChannelId) : State :=
  { s with sc := { s.sc with keys := s.sc.keys.set g x g.isLt } }

def State.roster (s : State) (z : ZoneId) : List RosterEntry := s.ru.rosters.get z
def State.setRoster (s : State) (z : ZoneId) (x : List RosterEntry) : State :=
  { s with ru := { s.ru with rosters := s.ru.rosters.set z x z.isLt } }

def State.zoneStatus (s : State) (z : ZoneId) : ZoneStatus := s.ru.status.get z
def State.setZoneStatus (s : State) (z : ZoneId) (x : ZoneStatus) : State :=
  { s with ru := { s.ru with status := s.ru.status.set z x z.isLt } }

def State.zone (s : State) (z : ZoneId) : ZoneEntry := s.ru.zones.get z
def State.setZone (s : State) (z : ZoneId) (x : ZoneEntry) : State :=
  { s with ru := { s.ru with zones := s.ru.zones.set z x z.isLt } }

def State.lone (s : State) (z : ZoneId) : Lone := s.sau.lone.get z
def State.setLone (s : State) (z : ZoneId) (x : Lone) : State :=
  { s with sau := { s.sau with lone := s.sau.lone.set z x z.isLt } }

def State.zoneTone (s : State) (z : ZoneId) : Tone := s.sau.tones.get z
def State.setZoneTone (s : State) (z : ZoneId) (x : Tone) : State :=
  { s with sau := { s.sau with tones := s.sau.tones.set z x z.isLt } }

def State.alarmOverflow (s : State) (z : ZoneId) : Bool := s.sau.overflow.get z
def State.setAlarmOverflow (s : State) (z : ZoneId) (x : Bool) : State :=
  { s with sau := { s.sau with overflow := s.sau.overflow.set z x z.isLt } }

def State.setAlarms (s : State) (l : List AlarmRecord) : State := { s with sau := { s.sau with alarms := l } }

def State.lineFunction (s : State) (g : GiId) : LineFunction := s.sau.table.get g
def State.setLineFunction (s : State) (g : GiId) (x : LineFunction) : State :=
  { s with sau := { s.sau with table := s.sau.table.set g x g.isLt } }

/-- The line of a terminal. -/
def State.line (s : State) : InputLine → Line
  | .abort c => s.sau.abortLines.get c
  | .valveConfirm c => s.sau.valveLines.get c
  | .manualRelease c => s.sau.manualLines.get c
  | .general g => s.sau.generalLines.get g

def State.setLine (s : State) (l : InputLine) (x : Line) : State :=
  match l with
  | .abort c => { s with sau := { s.sau with abortLines := s.sau.abortLines.set c x c.isLt } }
  | .valveConfirm c => { s with sau := { s.sau with valveLines := s.sau.valveLines.set c x c.isLt } }
  | .manualRelease c => { s with sau := { s.sau with manualLines := s.sau.manualLines.set c x c.isLt } }
  | .general g => { s with sau := { s.sau with generalLines := s.sau.generalLines.set g x g.isLt } }

def State.afterHours (s : State) (z : ZoneId) : Bool := s.csu.afterHours.get z
def State.setAfterHours (s : State) (z : ZoneId) (x : Bool) : State :=
  { s with csu := { s.csu with afterHours := s.csu.afterHours.set z x z.isLt } }

/-! ## Time -/

/-- R28: uptime, a 32-bit count of seconds that stays at its largest value. -/
def Csu.uptime (c : Csu) : Nat := min c.ticks 4294967295
def State.uptime (s : State) : Nat := s.csu.uptime

/-- R29: a timer of `n` seconds started now. -/
def State.after (s : State) (n : Nat) : Timer := some (s.csu.ticks + n)

/-- R29: the timer runs and its count has reached its length. -/
def State.due (s : State) : Timer → Bool
  | none => false
  | some t => decide (t ≤ s.csu.ticks)

/-- Whole seconds until a timer expires, counted on its ticks (R122). -/
def State.left (s : State) : Timer → Nat
  | none => 0
  | some t => t - s.csu.ticks

/-- R28: uptime held to the millisecond, the acceptance time recorded now: its second part is uptime, also when it has
saturated. -/
def State.uptimeMs (s : State) : Nat := s.uptime * 1000 + s.csu.ms

/-- R8, R29: the milliseconds since the acceptance that entry `x` records, counted on the ticks, which never saturate. -/
def State.msSinceAccepted (s : State) (x : Device) : Nat :=
  s.csu.ticks * 1000 + s.csu.ms - (x.acceptTick * 1000 + x.acceptMs % 1000)

/-! ## Events -/

/-- R32: the stamp of an event posted now. -/
def Csu.stamp (c : Csu) : Stamp :=
  match c.clock with
  | .set => .clock c.day c.second (c.timebase == .degraded)
  | .unset => .uptime c.uptime (c.timebase == .degraded)
def State.stamp (s : State) : Stamp := s.csu.stamp

/-- The transmitter sends the head event. -/
def StationTx.sendsEvent : StationTx → Bool
  | .event => true
  | .idle | .reply | .forward => false

/-- R207: the event queue takes a record by its class and the queue's length. A record in transmission that is removed
leaves the transmitter free, and its frame has used its sequence number (R206). That the counter moves past the number of a frame
cut short is the model's reading of R206's 'then': DEDUCED, log 13. -/
def Sp.enqueue (p : Sp) (r : EventRecord) : Sp :=
  if p.events.length < 64 then { p with events := p.events ++ [r] }
  else
    match r.kind.cls with
    | .routine => { p with overflow := true }
    | .alarm =>
      let i := (p.events.findIdx? (fun e => e.kind.cls == .routine)).getD 0
      let cut := i = 0 && p.tx.sendsEvent
      { p with
        events := p.events.eraseIdx i ++ [r]
        overflow := true
        seq := if cut then p.seq + 1 else p.seq
        tx := if cut then .idle else p.tx }

/-- R206: a block posts an event. -/
def State.post (s : State) (kind : EventKind) (door : Option DoorId := none) (zone : Option ZoneId := none)
    (channel : Option ChannelId := none) (subject : Option Subject := none) (reason : Option Nat := none) : State :=
  { s with sp := s.sp.enqueue { kind, stamp := s.stamp, door, zone, channel, subject, reason } }

/-- R207, R200: something for the station was lost. -/
def State.markLoss (s : State) : State := { s with sp := { s.sp with overflow := true } }

/-! ## Replies -/

/-- R200: the payload of a reply. -/
def replyPayload (code : Byte) (reply : ReplyCode) (data : List Byte) : List Byte :=
  code :: BitVec.ofNat 8 reply.code :: data

/-- R200: a place is free. -/
def State.replyFree (s : State) : Bool := decide (s.sp.replies.length < 4)

/-- R200: the frame just taken gets its place at the end of the list. -/
def State.addReply (s : State) (seq : BitVec 4) (body : ReplyBody) : State :=
  { s with sp := { s.sp with replies := s.sp.replies ++ [{ seq, body }] } }

/-- R200: the owning block completes a deferred command: its reserved place becomes ready. -/
def ReplyPlace.complete (owner : ReplyOwner) (reply : ReplyCode) (data : List Byte) (p : ReplyPlace) : ReplyPlace :=
  match p.body with
  | .reserved o code => if o = owner then { p with body := .ready (replyPayload code reply data) } else p
  | .ready _ => p
  | .sending _ => p

def State.completeReply (s : State) (owner : ReplyOwner) (reply : ReplyCode) (data : List Byte) : State :=
  { s with sp := { s.sp with replies := s.sp.replies.map (ReplyPlace.complete owner reply data) } }

/-! ## The loop transmit queue -/

/-- Is the device a READER? -/
def DevRole.isReader : DevRole → Bool
  | .reader _ _ => true
  | .noDevice | .doorUnit _ | .detector _ _ | .abortStation _ | .releaseStation _ | .pendantReceiver _
  | .sounderFree | .sounderChannel _ | .sounderZone _ | .display | .other => false

def Output.isDisplay : Output → Bool
  | .display _ => true
  | .unlock _ | .lock | .boltWithdraw | .boltThrow | .tone _ => false

/-- The number of entries at the head of the queue that are in transmission: 0 or 1 (R17). -/
def Rm.inTransmission (r : Rm) : Nat :=
  match r.tx with
  | .entry _ => 1
  | .idle | .sweep _ _ _ => 0

/-- The device a queued frame is addressed to. -/
def LoopEntry.device (e : LoopEntry) : Option DevIx := deviceAt e.frame.dst.toNat

/-- R18: an originated DRIVE with this destination and output code. -/
def LoopEntry.supersededBy (e : LoopEntry) (f : Frame) : Bool :=
  e.origin == .originated && e.frame.outputCode.isSome && e.frame.dst == f.dst
    && e.frame.outputCode == f.outputCode

/-- R19: an originated DISPLAY to a READER, or a forwarded entry. -/
def State.displaceable (s : State) (e : LoopEntry) : Bool :=
  match e.origin with
  | .forwarded => true
  | .originated =>
    e.frame.outputCode == some 6 && (match e.device with | some d => (s.device d).role.isReader | none => false)

/-- R18: where the entry that the frame replaces stands, if one does. -/
def Rm.supersedeIndex (r : Rm) (f : Frame) : Option Nat :=
  ((r.queue.drop r.inTransmission).findIdx? (fun e => e.supersededBy f)).map (fun i => i + r.inTransmission)

/-- R19: where the entry that is removed from a full queue stands. -/
def State.displaceIndex (s : State) : Nat :=
  ((s.rm.queue.drop s.rm.inTransmission).findIdx? s.displaceable).getD 0 + s.rm.inTransmission

def State.setLoopQueue (s : State) (q : List LoopEntry) : State := { s with rm := { s.rm with queue := q } }

/-- R18, R19: an originated frame replaces a queued one, is appended, or displaces one from a full queue. -/
def State.placeOriginated (s : State) (f : Frame) : State :=
  let e : LoopEntry := { frame := f, origin := .originated }
  match s.rm.supersedeIndex f with
  | some i => s.setLoopQueue (s.rm.queue.set i e)
  | none =>
    if s.rm.queue.length < 32 then s.setLoopQueue (s.rm.queue ++ [e])
    else
      let i := s.displaceIndex
      let s' := s.setLoopQueue (s.rm.queue.eraseIdx i ++ [e])
      match s.rm.queue[i]? with
      | some old =>
        s'.post .transmitDisplaced (subject := old.device.map Subject.device) (reason := old.frame.outputCode)
      | none => s'

/-- A frame the controller originates toward a device; its SEQ is a free value (log 7). -/
def driveFrame (count : Nat) (dst : DevIx) (o : Output) : Frame :=
  { dst := BitVec.ofNat 8 (addressOf dst), src := 0, kind := kindDrive,
    seqByte := (Config.loopSeq count).setWidth 8, payload := o.payload }

/-- R18, R25: a block originates a DRIVE frame; a DISPLAY to a MISSING READER is discarded. -/
def State.drive (s : State) (dst : DevIx) (o : Output) : State :=
  if o.isDisplay && (s.device dst).role.isReader && (s.device dst).presence == .missing then s
  else
    let f := driveFrame s.rm.loopSeqCount dst o
    { s with rm := { s.rm with loopSeqCount := s.rm.loopSeqCount + 1 } }.placeOriginated f

/-- A DRIVE toward an address a door entry names; none where it names none. -/
def State.driveOpt (s : State) (dst : Option DevIx) (o : Output) : State :=
  match dst with
  | some d => s.drive d o
  | none => s

/-- R91, R113: a display toward a reader. -/
def State.display (s : State) (reader : DevIx) (m : Message) : State := s.drive reader (.display m)

/-- R177, R195: a tone toward every SOUNDER of the given roles. That the frames are originated in ascending address order is the
model's: DESIGN CHOICE, log 15. -/
def State.toneTo (s : State) (p : DevRole → Bool) (t : Tone) : State :=
  allDevices63.foldl (fun s d => if p (s.device d).role then s.drive d (.tone t) else s) s

/-! ## The forward queue -/

/-- R208: FC offers a forwarded copy. -/
def State.forward (s : State) (c : ForwardCopy) : State :=
  if s.sp.forwards.length < 16 then { s with sp := { s.sp with forwards := s.sp.forwards ++ [c] } }
  else s.markLoss

/-! ## The transmitters -/

/-- R23: the end or ends by which a frame leaves, decided as it leaves the queue. -/
def State.endsFor (s : State) (e : LoopEntry) : Ends :=
  match s.rm.ring with
  | .closed => .endA
  | .split | .dead =>
    match e.device with
    | none => .both
    | some d =>
      match (s.device d).reach with
      | none => .both
      | some .endA => .endA
      | some .endB => .endB

/-- R17, R20: the loop transmitter, when free, takes a waiting sweep, else the head of the queue. -/
def State.takeLoop (s : State) : State :=
  match s.rm.tx with
  | .entry _ => s
  | .sweep _ _ _ => s
  | .idle =>
    if s.rm.sweepWaiting then
      { s with rm := { s.rm with
          tx := .sweep s.rm.nextSweep s.rm.loopSeqCount true
          sweepWaiting := false
          nextSweep := s.rm.nextSweep + 1
          loopSeqCount := s.rm.loopSeqCount + 1 } }
    else
      match s.rm.queue with
      | [] => s
      | e :: _ => { s with rm := { s.rm with tx := .entry (s.endsFor e) } }

/-- Is the reply of this place waiting for the transmitter? -/
def ReplyPlace.isReady (p : ReplyPlace) : Bool :=
  match p.body with
  | .ready _ => true
  | .reserved _ _ => false
  | .sending _ => false

/-- R209: the place's reply is taken by the transmitter. -/
def ReplyPlace.send (p : ReplyPlace) : ReplyPlace :=
  match p.body with
  | .ready payload => { p with body := .sending payload }
  | .reserved _ _ => p
  | .sending _ => p

/-- R209: the station transmitter, when free, takes the oldest ready reply, else the head event, else the head forwarded
frame; an event or a copy goes with the sequence counter's value (R206, R208). Of a reply made ready and a record appended by one row, which
R209 lets be taken in either order, the reply is taken first: DESIGN CHOICE, log 13. -/
def Sp.take (p : Sp) : Sp :=
  match p.tx with
  | .reply => p
  | .event => p
  | .forward => p
  | .idle =>
    match p.replies.findIdx? ReplyPlace.isReady with
    | some i => { p with replies := p.replies.modify i ReplyPlace.send, tx := .reply }
    | none =>
      if p.events.isEmpty then
        if p.forwards.isEmpty then p else { p with tx := .forward }
      else { p with tx := .event }

/-- Both transmitters take what is next. Every command ends with this (log 13). -/
def State.settle (s : State) : State :=
  let s := s.takeLoop
  { s with sp := s.sp.take }

/-- A command's effect, then the transmitters. No command faults or is refused. -/
def State.done (s : State) : Host.Outcome State Fault Refusal := .next s.settle

/-- The frame on the loop, if one is being sent (R17, R20). -/
def State.loopFrame (s : State) : Option (Frame × Ends) :=
  match s.rm.tx with
  | .idle => none
  | .entry ends => s.rm.queue.head?.map (fun e => (e.frame, ends))
  | .sweep number count _ =>
    some ({ dst := 0, src := 0, kind := kindSweep, seqByte := (Config.loopSeq count).setWidth 8,
            payload := [number] }, .endA)

/-- The frame on the station link, if one is being sent (R200, R206, R208). -/
def State.stationFrame (s : State) : Option Frame :=
  let frame (kind : Byte) (seq : BitVec 4) (payload : List Byte) : Frame :=
    { dst := stationAddress, src := 0, kind, seqByte := seq.setWidth 8, payload }
  match s.sp.tx with
  | .idle => none
  | .reply => (s.sp.replies.findSome? fun p =>
      match p.body with
      | .sending payload => some (frame kindReply p.seq payload)
      | .ready _ => none
      | .reserved _ _ => none)
  | .event => s.sp.events.head?.map (fun e => frame kindEvent s.sp.seq e.bytes)
  | .forward => s.sp.forwards.head?.map (fun c => frame kindForwarded s.sp.seq c.payload)

end Sys2Proof.Machine
end

