-- ==== Sys2Proof/Machine/Clock.lean ====
section
/-! DEFINITION. CSU's arithmetic (chapter 2): the instant, day types, slot cover, schedule cover and remainder (R40 to
R43), the strongroom budget (R44, R45), the advance of the clock (R33, R34) and the holiday list (R38, R39). -/

namespace Sys2Proof.Machine

/-- R40: the day type of day `d` whose weekday is `w`: 7 for a holiday. -/
def Csu.dayType (c : Csu) (d w : Nat) : Nat := if c.holidays.contains d then 7 else w

/-- R36: the slot opens on days of this type. -/
def SchedSlot.opensOn (sl : SchedSlot) (dayType : Nat) : Bool := sl.mask.getLsbD dayType

/-- R41: seconds left of the today instance, 0 when it does not cover. -/
def SchedSlot.todayLeft (sl : SchedSlot) (dayType second : Nat) : Nat :=
  let m := second / 60
  if sl.opensOn dayType && decide (sl.start ≤ m) && decide (m < sl.start + sl.length) then
    (sl.start + sl.length) * 60 - second
  else 0

/-- R42: seconds left of the yesterday instance, 0 when it does not cover. -/
def SchedSlot.yesterdayLeft (sl : SchedSlot) (dayType second : Nat) : Nat :=
  let m := second / 60
  if sl.opensOn dayType && decide (1440 < sl.start + sl.length) && decide (m < sl.start + sl.length - 1440) then
    (sl.start + sl.length - 1440) * 60 - second
  else 0

/-- R41, R42: the larger remainder of a slot's two instances; at day 0 there is no yesterday. -/
def Csu.slotLeft (c : Csu) (sl : SchedSlot) : Nat :=
  let today := sl.todayLeft (c.dayType c.day c.weekday) c.second
  if c.day = 0 then today
  else max today (sl.yesterdayLeft (c.dayType (c.day - 1) ((c.weekday + 6) % 7)) c.second)

/-- R43: the remainder of a schedule now; bounded 0 when it does not cover. -/
def Csu.remainder (c : Csu) (n : SchedId) : Remainder :=
  if n = 0 then .unbounded
  else
    match c.clock with
    | .unset => .bounded 0
    | .set =>
      .bounded ((c.schedules.get n).toList.foldl
        (fun r slot => match slot with | some sl => max r (c.slotLeft sl) | none => r) 0)

/-- R43: a schedule covers when its remainder is not 0. -/
def Remainder.covers : Remainder → Bool
  | .unbounded => true
  | .bounded n => decide (0 < n)

/-- R44: the smaller of two remainders; UNBOUNDED is greater than every bounded one. -/
def Remainder.min : Remainder → Remainder → Remainder
  | .unbounded, r => r
  | .bounded n, .unbounded => .bounded n
  | .bounded n, .bounded m => .bounded (Nat.min n m)

/-- R43: does the schedule cover now? -/
def Csu.covers (c : Csu) (n : SchedId) : Bool := (c.remainder n).covers

/-- R45: the effective delay. -/
def effectiveDelay (delay : Nat) (duress : Bool) : Nat := if duress then min (2 * delay) 7200 else delay

/-- R44, R45: the budget from the budget remainder; none when the window test refuses. -/
def budgetOf (left : Remainder) (delay window : Nat) (duress : Bool) : Option Budget :=
  let d := effectiveDelay delay duress
  match left with
  | .unbounded => some { delay := d, window := window }
  | .bounded r => if r ≤ delay then none else some { delay := d, window := min (window : Int) ((r : Int) - d) }

/-- R44: the budget of an opening, its three schedules evaluated at one instant. -/
def Csu.budget (c : Csu) (door a b : SchedId) (delay window : Nat) (duress : Bool) : Option Budget :=
  budgetOf (((c.remainder door).min (c.remainder a)).min (c.remainder b)) delay window duress

/-- R33, R34: the clock fields after one second of a SET clock, and whether the epoch's end is reached for the first
time. -/
def Csu.advanceClock (c : Csu) : Csu × Bool :=
  match c.clock with
  | .unset => (c, false)
  | .set =>
    if c.second + 1 < 86400 then ({ c with second := c.second + 1 }, false)
    else
      let c' := { c with second := 0, weekday := (c.weekday + 1) % 7 }
      if c.day < 65535 then ({ c' with day := c.day + 1 }, false)
      else ({ c' with epochEnd := true }, !c.epochEnd)

/-- R38: a day's place in ascending order. -/
def insertDay (d : Nat) : List Nat → List Nat
  | [] => [d]
  | x :: l => if d < x then d :: x :: l else x :: insertDay d l

/-- A number brought to the nearest end of its range (R202). -/
def clamp (low high n : Nat) : Nat := if n < low then low else if high < n then high else n

end Sys2Proof.Machine
end

