-- ==== Sys2Proof/Machine/Bolt.lean ====
section
/-! DEFINITION. The bolt of a strongroom and the end of its sequence (chapter 6): the bolt command (R117), cancelling a
sequence (R118), re-bolting an UNBOLTED entry (R130, R131), and what DC does when SC reports that a channel entered the
lockout set (R131). -/

namespace Sys2Proof.Machine

/-- R117: the bolt command is set: the settle timer restarts and the mismatch mark clears. -/
def State.setBolt (s : State) (d : DoorId) (b : Bolt) : State :=
  s.setDoor d { s.door d with boltCommand := b, mismatch := false, settle := s.after 5 }

def Bolt.output : Bolt → Output
  | .thrown => .boltThrow
  | .withdrawn => .boltWithdraw

/-- R117: DC originates the bolt drive and records it as the bolt command. -/
def State.driveBolt (s : State) (d : DoorId) (b : Bolt) : State :=
  (s.setBolt d b).driveOpt (s.door d).entry.unit b.output

/-- Table 6-3: what the entry reader shows. -/
def CancelReason.message : CancelReason → Message
  | .pairing => .denied .access
  | .windowClosed => .windowClosed
  | .confirm => .denied .access
  | .egress => .denied .door
  | .opened => .denied .door
  | .fault => .denied .door
  | .station => .denied .access
  | .suppression => .denied .zone

/-- R118: a sequence is CUSTODY_WAIT, DELAY or CONFIRM_WAIT. -/
def DoorState.inSequence : DoorState → Bool
  | .custodyWait | .delay | .confirmWait => true
  | .locked | .unlocked | .opened | .heldOpen | .forced | .fault | .secured | .unbolted => false

/-- R118 steps 1 and 2, and the state: the sequence's timers stop, its record clears, the door is SECURED. -/
def Door.endSequence (x : Door) : Door :=
  { x with
    pairing := none, delay := none, display := none, confirm := none
    custodyA := none, custodyB := none, budget := none, state := .secured }

/-- R118: a sequence is cancelled. With reason FAULT the BOLT_THROW is not originated (R129). -/
def State.cancelSequence (s : State) (d : DoorId) (r : CancelReason) : State :=
  let x := s.door d
  let s := s.setDoor d x.endSequence
  let s := if r = .fault then s.setBolt d .thrown else s.driveBolt d .thrown
  let s := s.driveOpt x.entry.entryReader (.display r.message)
  s.post .strongroomCancelled (door := some d) (zone := some x.entry.inner)
    (subject := x.custodyA.map (fun a => .credential a.number)) (reason := some r.code)

/-- The first credential of a passage list (R99). -/
def Passage.first (p : Passage) : Option Subject := p.list.head?.map (fun c => Subject.credential c.number)

/-- R130 case 4, R131: an UNBOLTED entry is bolted again; its passage is discarded without GRANT_UNUSED. -/
def State.rebolt (s : State) (d : DoorId) (r : CancelReason) : State :=
  let x := s.door d
  let s := s.setDoor d { x with unlock := none, passage := none, state := .secured }
  let s := s.driveBolt d .thrown
  let s := s.driveOpt x.entry.entryReader (.display r.message)
  s.post .strongroomCancelled (door := some d) (zone := some x.entry.inner)
    (subject := x.passage.bind Passage.first) (reason := some r.code)

/-- The door is UNBOLTED with an ENTRY passage. -/
def Door.unboltedForEntry (x : Door) : Bool :=
  x.state == .unbolted && (match x.passage with | some p => p.direction == .entry | none => false)

/-- R131: at every strongroom whose inner zone is the channel's zone. -/
def State.lockoutDoor (z : ZoneId) (s : State) (d : DoorId) : State :=
  let x := s.door d
  if x.entry.kind = .strongroom ∧ x.entry.inner = z then
    if x.state.inSequence then s.cancelSequence d .suppression
    else if x.unboltedForEntry then s.rebolt d .suppression
    else s
  else s

/-- R131: SC tells DC that the channel of zone `z` entered the lockout set. Several strongrooms are taken in ascending door order:
DESIGN CHOICE, log 15. -/
def State.lockoutEntered (s : State) (z : ZoneId) : State := allDoors.foldl (State.lockoutDoor z) s

end Sys2Proof.Machine
end

