-- ==== Sys2Proof/Machine/Flags.lean ====
section
/-! DEFINITION. Computed conditions: the hold-cause set (R160), the abort (R159), groups in alarm (R158), the key demand
(R174), the fault flags of missing devices (R176), the channel of a zone (R139), tone patterns (Table 8-3), the lone
condition (R190) and the alarm condition (R187). -/

namespace Sys2Proof.Machine

/-- R155, R139: the channel bound to a zone. -/
def State.channelOf (s : State) (z : ZoneId) : Option ChannelId :=
  allChannels.find? (fun c => (s.channel c).zone == some z)

/-- R85, R131: the lockout set of check 10. -/
def ChannelState.inLockoutSet : ChannelState → Bool
  | .firstAlarm | .preDischarge | .held | .releasing | .discharged => true
  | .unused | .normal | .lockedOut => false

/-- R85: the zone's channel is in the lockout set. -/
def State.zoneLockedOut (s : State) (z : ZoneId) : Bool :=
  match s.channelOf z with
  | some c => (s.channel c).state.inLockoutSet
  | none => false

/-- R5, R156, R211: UNUSED, NORMAL or LOCKED_OUT. -/
def ChannelState.isQuiet : ChannelState → Bool
  | .unused | .normal | .lockedOut => true
  | .firstAlarm | .preDischarge | .held | .releasing | .discharged => false

/-- R159: the channel's abort is present. -/
def State.abortPresent (s : State) (c : ChannelId) : Bool :=
  (s.channel c).abortLine
    || allDevices63.any (fun d => (s.device d).role == .abortStation c && (s.scDev d).abortHeld)

/-- R160: the door gives its zones ENCLOSURE. -/
def DoorView.encloses (z : ZoneId) (v : DoorView) : Bool :=
  (v.outer == z || v.inner == z) && v.contact != .closed

/-- R160: a bounding door's contact is other than CLOSED. -/
def State.enclosureOpen (s : State) (z : ZoneId) : Bool :=
  allDoors.any (fun d => match s.doorView d with | some v => v.encloses z | none => false)

/-- R160: the hold-cause set from SC's copies; empty for a channel with zone NONE. -/
def State.holdCauses (s : State) (c : ChannelId) : HoldSet :=
  match (s.channel c).zone with
  | none => .empty
  | some z =>
    { abort := s.abortPresent c
      occupied := decide ((s.zoneView z).count ≠ 0)
      unknown := (s.zoneView z).status == .unknown
      alarm := (s.zoneView z).alarm
      enclosure := s.enclosureOpen z }

/-- The set holds no cause. -/
def HoldSet.isEmpty (h : HoldSet) : Bool := !(h.abort || h.occupied || h.unknown || h.alarm || h.enclosure)

/-- R158: a group is in alarm. -/
def State.groupInAlarm (s : State) (c : ChannelId) (g : Group) : Bool :=
  allDevices63.any (fun d => (s.device d).role == .detector c g && (s.scDev d).latch)

/-- R174: the key demand. -/
def State.keyDemand (s : State) (c : ChannelId) : Bool := allInputs.any (fun g => s.key g == some c)

/-- A detector of the channel. -/
def DevRole.isDetectorOf (c : ChannelId) (r : DevRole) : Bool := r == .detector c .groupA || r == .detector c .groupB

/-- R176: DETECTOR_MISSING and ABORT_MISSING recomputed. -/
def State.refreshMissing (s : State) (c : ChannelId) : State :=
  let missing (p : DevRole → Bool) : Bool :=
    allDevices63.any (fun d => p (s.device d).role && (s.device d).presence == .missing)
  let ch := s.channel c
  s.setChannel c { ch with flags := { ch.flags with
    detectorMissing := missing (DevRole.isDetectorOf c)
    abortMissing := missing (fun r => r == .abortStation c) } }

/-- Table 8-3: the tone pattern of a state. -/
def ChannelState.tone : ChannelState → Tone
  | .unused | .normal | .firstAlarm | .lockedOut => .off
  | .preDischarge => .preDischarge
  | .held => .held
  | .releasing | .discharged => .release

/-- R190: the lone condition, naming the sole credential. -/
def Lone.condition (l : Lone) : Option Nat := if l.count = 1 ∧ l.afterHours then l.sole else none

/-- R187: the zone's alarm condition. -/
def State.alarmCondition (s : State) (z : ZoneId) : Bool :=
  s.sau.alarms.any (fun r => r.zone == z) || s.alarmOverflow z

/-- The whole roster pool's size (R137). -/
def State.poolCount (s : State) : Nat := (allZones.map (fun z => (s.roster z).length)).sum

/-- R151: where a credential stands. -/
def State.standsIn (s : State) (number : Nat) : Option ZoneId :=
  allZones.find? (fun z => (s.roster z).any (fun e => e.number == number))

/-- R152: the sole entry's credential, when the count is 1. -/
def soleOf : List RosterEntry → Option Nat
  | [e] => some e.number
  | _ => none

end Sys2Proof.Machine
end

