-- ==== Sys2Proof/Machine/Tones.lean ====
section
/-! DEFINITION. SAU's tones (R195): what SAU originates toward the zone sounders and what it does at a tone notice. -/

namespace Sys2Proof.Machine

/-- R195: SAU originates a tone to the zone sounders only while the zone's channel pattern is OFF. -/
def State.sauTone (s : State) (z : ZoneId) (t : Tone) : State :=
  if s.zoneTone z = .off then s.toneTo (fun r => r == .sounderZone z) t else s

/-- R177, R195: SC hands SAU a tone notice; a return to OFF in PROMPT resumes the prompt. -/
def State.toneNotice (s : State) (z : ZoneId) (pattern : Tone) : State :=
  let s := s.setZoneTone z pattern
  if pattern = .off ∧ (s.lone z).state = .prompt then s.sauTone z .prompt else s

end Sys2Proof.Machine
end

