-- ==== Sys2Proof/Machine/Suppression.lean ====
section
/-! DEFINITION. SC, the suppression channels (chapter 8): tones, the hold-cause set and what it acts on, detection, manual
release, the countdown, release and its confirmation, lockout, and the notices SC takes from its neighbours. The station's
commands stand in Machine/Station.lean, the timers in Machine/ChannelTimers.lean. -/

namespace Sys2Proof.Machine

/-! ## Events and tones -/

/-- 8.10: each event of SC names the channel and, when the channel has one, the zone. -/
def State.postSc (s : State) (kind : EventKind) (c : ChannelId) (reason : Option Nat := none) : State :=
  s.post kind (zone := (s.channel c).zone) (channel := some c) (reason := reason)

/-- R177: the SOUNDERs a channel's tones go to. -/
def DevRole.soundsFor (c : ChannelId) (zone : Option ZoneId) (r : DevRole) : Bool :=
  r == .sounderChannel c || (match zone with | some z => r == .sounderZone z | none => false)

/-- R177: SC originates a pattern toward the channel's sounders. -/
def State.sendTone (s : State) (c : ChannelId) (t : Tone) : State :=
  s.toneTo (DevRole.soundsFor c (s.channel c).zone) t

/-- R177: SC hands SAU a tone notice for a channel with a zone. -/
def State.notifyTone (s : State) (c : ChannelId) (t : Tone) : State :=
  match (s.channel c).zone with
  | some z => s.toneNotice z t
  | none => s

/-- R177: the refresh of the present pattern, counted from its last change. -/
def State.restartRefresh (s : State) (c : ChannelId) (t : Tone) : State :=
  s.setChannel c { s.channel c with refresh := if t = .off then none else s.after 30 }

/-- R177: the channel has left a state of pattern `old`; a changed pattern is originated and SAU is told. -/
def State.changeTone (s : State) (c : ChannelId) (old : Tone) : State :=
  let t := (s.channel c).state.tone
  if t = old then s else ((s.restartRefresh c t).sendTone c t).notifyTone c t

/-- R173, R174: the OFF pattern is originated; SAU is told when the pattern changed (log 17). -/
def State.toneOff (s : State) (c : ChannelId) (old : Tone) : State :=
  if old = .off then s.sendTone c .off else s.changeTone c old

/-! ## The hold-cause set -/

/-- R171: the causes of a set that another does not hold, each alone. That they are reported in the order of Table 8-2 is the
model's: DESIGN CHOICE, log 15. -/
def HoldSet.joining (new old : HoldSet) : List HoldSet :=
  (if new.abort && !old.abort then [{ HoldSet.empty with abort := true }] else [])
    ++ (if new.occupied && !old.occupied then [{ HoldSet.empty with occupied := true }] else [])
    ++ (if new.unknown && !old.unknown then [{ HoldSet.empty with unknown := true }] else [])
    ++ (if new.alarm && !old.alarm then [{ HoldSet.empty with alarm := true }] else [])
    ++ (if new.enclosure && !old.enclosure then [{ HoldSet.empty with enclosure := true }] else [])

/-- R171: HOLD_AFTER_RELEASE for each cause that joins. -/
def State.postJoining (s : State) (c : ChannelId) (new old : HoldSet) : State :=
  (new.joining old).foldl (fun s h => s.postSc .holdAfterRelease c (some h.code)) s

/-- R166: a hold cause stops the countdown. -/
def State.holdCountdown (s : State) (c : ChannelId) : State :=
  let ch := s.channel c
  let s := s.setChannel c { ch with state := .held, countdownDue := false, abortSeen := ch.abortSeen || ch.hold.abort }
  (s.changeTone c ch.state.tone).postSc .channelHeld c (some ch.hold.code)

/-- R167: RELOADED is 1 and FROZEN 2. -/
def resumeReason (reloaded : Bool) (countdown : Nat) : Nat := paired (if reloaded then 1 else 2) countdown

/-- R167: the countdown resumes. -/
def State.resumeCountdown (s : State) (c : ChannelId) : State :=
  let ch := s.channel c
  let reload := decide (ch.abortMode = .restart) && ch.abortSeen
  let n := if reload then ch.countdownLength else ch.countdown
  let s := s.setChannel c
    { ch with state := .preDischarge, countdown := n, countdownDue := false, abortSeen := false }
  (s.changeTone c ch.state.tone).postSc .channelResumed c (some (resumeReason reload n))

/-- R160: the set is recomputed and acts by the channel's state (R166, R167, R171). -/
def State.recompute (s : State) (c : ChannelId) : State :=
  let ch := s.channel c
  let new := s.holdCauses c
  let s := s.setChannel c { ch with hold := new }
  match ch.state with
  | .preDischarge => if new.isEmpty then s else s.holdCountdown c
  | .held =>
    if new.isEmpty then s.resumeCountdown c
    else
      let s := s.setChannel c { s.channel c with abortSeen := ch.abortSeen || new.abort }
      if new = ch.hold then s else s.postSc .holdChanged c (some new.code)
  | .releasing => s.postJoining c new ch.hold
  | .discharged => if ch.soakComplete then s else s.postJoining c new ch.hold
  | .unused | .normal | .firstAlarm | .lockedOut => s

/-- R160: the channel of a zone is recomputed. -/
def State.recomputeZone (s : State) (z : ZoneId) : State :=
  match s.channelOf z with
  | some c => s.recompute c
  | none => s

/-- R160: the channels of the zones that satisfy a test are recomputed. That the zones ascend, whichever is a door's outer one, is the
model's: DESIGN CHOICE, log 15. -/
def State.recomputeZones (s : State) (p : ZoneId → Bool) : State :=
  allZones.foldl (fun s z => if p z then s.recomputeZone z else s) s

/-! ## The countdown -/

/-- R162, R165: SC tells DC that the channel entered the lockout set. -/
def State.notifyLockout (s : State) (c : ChannelId) : State :=
  match (s.channel c).zone with
  | some z => s.lockoutEntered z
  | none => s

/-- R165: a channel starts the countdown, from NORMAL or FIRST_ALARM. -/
def State.startCountdown (s : State) (c : ChannelId) : State :=
  let ch := s.channel c
  let held := !ch.hold.isEmpty
  let s := s.setChannel c
    { ch with
      state := if held then .held else .preDischarge
      countdown := ch.countdownLength, countdownDue := false, abortSeen := ch.hold.abort }
  let s :=
    if held then s.postSc .channelHeld c (some ch.hold.code)
    else s.postSc .channelPreDischarge c (some ch.countdownLength)
  let s := s.changeTone c ch.state.tone
  if ch.state = .normal then s.notifyLockout c else s

/-- R162: FIRST_ALARM is entered from NORMAL. -/
def State.firstAlarm (s : State) (c : ChannelId) (g : Group) : State :=
  let s := s.setChannel c { s.channel c with state := .firstAlarm }
  (s.postSc .channelFirstAlarm c (some g.code)).notifyLockout c

/-- R158 step 3: a latch just set is offered to detection (R162, R164). -/
def State.offerLatch (s : State) (c : ChannelId) (g : Group) : State :=
  let both := s.groupInAlarm c .groupA && s.groupInAlarm c .groupB
  match (s.channel c).state with
  | .normal => if !(s.channel c).coincidence || both then s.startCountdown c else s.firstAlarm c g
  | .firstAlarm => if both then s.startCountdown c else s
  | .unused | .preDischarge | .held | .releasing | .discharged | .lockedOut => s

/-- R158: the event of a change to a level. -/
def DetectorLevel.event : DetectorLevel → EventKind
  | .normal => .detectorNormal
  | .alarm => .detectorAlarm
  | .fault => .detectorFault

/-- R158: a state in which a detector's report sets its latch. -/
def ChannelState.latches : ChannelState → Bool
  | .unused | .lockedOut => false
  | .normal | .firstAlarm | .preDischarge | .held | .releasing | .discharged => true

/-- R158: a DETECTOR frame. -/
def State.detectorReport (s : State) (d : DevIx) (c : ChannelId) (g : Group) (level : DetectorLevel) : State :=
  let s :=
    if (s.scDev d).level = some level then s
    else (s.postSc level.event c (some (addressOf d))).setScDev d { s.scDev d with level := some level }
  if level = .alarm ∧ (s.channel c).state.latches then
    (s.setScDev d { s.scDev d with latch := true }).offerLatch c g
  else s

/-- R163: what gave a manual release: a station's address, or LINE (11.6). -/
def manualSource : Option DevIx → Nat
  | some d => addressOf d
  | none => 0x0100

/-- R163: a manual release. -/
def State.manualRelease (s : State) (c : ChannelId) (source : Option DevIx) : State :=
  let s := s.postSc .manualRelease c (some (manualSource source))
  match (s.channel c).state with
  | .normal | .firstAlarm => s.startCountdown c
  | .unused | .preDischarge | .held | .releasing | .discharged | .lockedOut => s

/-- R163: a RELEASE_STATION frame. -/
def State.releaseStationReport (s : State) (d : DevIx) (c : ChannelId) (operated : Bool) : State :=
  let last := (s.scDev d).release
  let s := s.setScDev d { s.scDev d with release := some operated }
  if operated ∧ last ≠ some true then s.manualRelease c (some d) else s

/-- R159: an abort station's state is set and the set recomputed. -/
def State.setAbortStation (s : State) (d : DevIx) (c : ChannelId) (held : Bool) : State :=
  (s.setScDev d { s.scDev d with abortHeld := held }).recompute c

/-! ## Release -/

/-- R169: the 50 ms count that the driven and the read level ask for (log 29). -/
def Channel.recount (ch : Channel) : Channel :=
  { ch with readCount :=
      if ch.driveOn ≠ ch.readback then (if ch.flags.driveFault then .stopped else .disagreeing)
      else (if ch.flags.driveFault then .agreeing else .stopped) }

/-- R170: the release is confirmed, or confirmed LATE (reason 1). -/
def State.confirmRelease (s : State) (c : ChannelId) (late : Bool) : State :=
  let s := s.setChannel c { s.channel c with phase := .confirmed, confirm := none }
  s.postSc .releaseConfirmed c (if late then some 1 else none)

/-- R170: the confirmation fails. -/
def State.failConfirm (s : State) (c : ChannelId) : State :=
  let ch := s.channel c
  let s := s.setChannel c { ch with phase := .failed, confirm := none, flags := { ch.flags with confirmFailed := true } }
  s.postSc .releaseConfirmFailed c

/-- R168: entry to RELEASING. -/
def State.release (s : State) (c : ChannelId) : State :=
  let ch := s.channel c
  let s := s.setChannel c (Channel.recount
    { ch with
      state := .releasing, countdown := 0, countdownDue := false, driveOn := true, drive := s.after ch.driveTime
      phase := .waiting, confirm := s.after ch.confirmTimeout })
  let s := if ch.valveLine then s.confirmRelease c false else s
  (s.changeTone c ch.state.tone).postSc .channelRelease c

/-- R170: a line notice of VALVE CONFIRM. -/
def State.valveNotice (s : State) (c : ChannelId) (active : Bool) : State :=
  let ch := s.channel c
  let s := s.setChannel c { ch with valveLine := active }
  if active then
    if ch.state = .releasing then
      match ch.phase with
      | .waiting => s.confirmRelease c false
      | .failed => s.confirmRelease c true
      | .idle | .confirmed => s
    else s.postSc .valveUncommanded c
  else s

/-- R171: the drive timer expires in RELEASING. -/
def State.endRelease (s : State) (c : ChannelId) : State :=
  let s := s.setChannel c (Channel.recount { s.channel c with driveOn := false, drive := none })
  let s := if (s.channel c).phase = .waiting then s.failConfirm c else s
  let ch := s.channel c
  s.setChannel c
    { ch with
      state := .discharged, confirm := none, phase := .idle, soak := s.after ch.soakTime, soakComplete := false }

/-! ## Lockout -/

/-- R174: the states a lockout demand ends. -/
def ChannelState.locksOut : ChannelState → Bool
  | .unused | .normal | .firstAlarm | .preDischarge | .held => true
  | .releasing | .discharged | .lockedOut => false

/-- R174: a demand became present. -/
def State.lockOut (s : State) (c : ChannelId) (r : LockoutReason) : State :=
  let ch := s.channel c
  if ch.state.locksOut then
    let s := s.setChannel c { ch with state := .lockedOut, countdown := 0, countdownDue := false, abortSeen := false }
    (s.toneOff c ch.state.tone).postSc .channelLockedOut c (some r.code)
  else s

/-- R158: every latch of the channel is cleared. -/
def State.clearLatches (s : State) (c : ChannelId) : State :=
  allDevices63.foldl
    (fun s d => if (s.device d).role.isDetectorOf c then s.setScDev d { s.scDev d with latch := false } else s) s

/-- R156, R175: the quiet state of a channel by its zone. -/
def Channel.restState (ch : Channel) : ChannelState := if ch.zone.isSome then .normal else .unused

/-- R175: a channel leaves LOCKED_OUT when no demand is left. -/
def State.leaveLockout (s : State) (c : ChannelId) (r : LockoutReason) : State :=
  if (s.channel c).state = .lockedOut ∧ ¬ (s.channel c).stationLockout ∧ ¬ s.keyDemand c then
    let s := s.clearLatches c
    let ch := s.channel c
    (s.setChannel c { ch with state := ch.restState, abortSeen := false }).postSc .channelRestored c (some r.code)
  else s

/-- R174, R175: a line notice of a LOCKOUT KEY. -/
def State.keyNotice (s : State) (g : GiId) (c : ChannelId) (active : Bool) : State :=
  if active then (s.setKey g (some c)).lockOut c .key
  else (s.setKey g none).leaveLockout c .key

/-! ## Notices -/

/-- R159: a line notice of ABORT. -/
def State.abortLineNotice (s : State) (c : ChannelId) (active : Bool) : State :=
  (s.setChannel c { s.channel c with abortLine := active }).recompute c

/-- R161: a zone notice of RU. -/
def State.scZoneNotice (s : State) (z : ZoneId) (status : ZoneStatus) (count : Nat) : State :=
  (s.setZoneView z { s.zoneView z with status := status, count := count }).recomputeZone z

/-- R161, R187: an alarm notice of SAU. -/
def State.scAlarmNotice (s : State) (z : ZoneId) (present : Bool) : State :=
  (s.setZoneView z { s.zoneView z with alarm := present }).recomputeZone z

/-- The door view bounds the zone. -/
def DoorView.bounds (z : ZoneId) : Option DoorView → Bool
  | some v => v.outer == z || v.inner == z
  | none => false

/-- R161, R96: DC reports a door's zones and contact; none for a door of kind NONE. -/
def State.scDoorNotice (s : State) (d : DoorId) (v : Option DoorView) : State :=
  let old := s.doorView d
  (s.setDoorView d v).recomputeZones (fun z => DoorView.bounds z old || DoorView.bounds z v)

/-- R25, R159, R176: SC is told that a detector's or abort station's presence changed. -/
def State.scPresence (s : State) (d : DevIx) (r : DevRole) : State :=
  match r with
  | .detector c _ => s.refreshMissing c
  | .abortStation c => (s.refreshMissing c).setAbortStation d c false
  | .noDevice | .reader _ _ | .doorUnit _ | .releaseStation _ | .pendantReceiver _ | .sounderFree | .sounderChannel _
  | .sounderZone _ | .display | .other => s

end Sys2Proof.Machine
end

