-- ==== Sys2Proof/Machine/LoneWorker.lean ====
section
/-! DEFINITION. The lone-worker timers (R190 to R195): how a timer starts and ends, what SAU does when a zone's values
change, and check-ins. The expiry of their timers stands in Machine/Alarms.lean, which raises the OVERDUE alarm. -/

namespace Sys2Proof.Machine

/-- R191: the cache entry of a credential, read without a lookup. -/
def Csc.cached (c : Csc) (number : Nat) : Option (List Byte) :=
  match c.cache.find? (fun e => e.number == number) with
  | some e =>
    match e.state with
    | .valid slot => some slot
    | .negative => none
    | .fetching => none
  | none => none

/-- R191: the interval in minutes of a running period. -/
def State.checkInInterval (s : State) (z : ZoneId) (number : Nat) : Nat :=
  let own := match s.csc.cached number with | some slot => (recordOf slot).checkIn | none => 0
  if 1 ≤ own ∧ own ≤ 120 then own else (s.zone z).checkIn

/-- R191: the timer starts RUNNING for the sole credential. Its prompt count of 0, which R191 does not name, is the model's: DESIGN
CHOICE, log 35. -/
def State.startRunning (s : State) (z : ZoneId) (number : Nat) : State :=
  let seconds := s.checkInInterval z number * 60
  s.setLone z
    { s.lone z with
      state := .running, interval := seconds, intervalTimer := s.after seconds
      graceTimer := none, repeatTimer := none, prompts := 0 }

/-- R190: a timer in IDLE. Its interval of 0 and prompt count of 0 are the model's: DESIGN CHOICE, log 35. -/
def Lone.toIdle (l : Lone) : Lone :=
  { l with state := .idle, interval := 0, intervalTimer := none, graceTimer := none, repeatTimer := none, prompts := 0 }

/-- R190: the timer becomes IDLE; from PROMPT the zone sounders are turned off. -/
def State.goIdle (s : State) (z : ZoneId) : State :=
  let l := s.lone z
  let s := s.setLone z l.toIdle
  if l.state = .prompt then s.sauTone z .off else s

/-- R190: a zone's values have changed from those of `old`; the lone condition begins, ends, or changes its credential. -/
def State.loneChanged (s : State) (z : ZoneId) (old : Option Nat) : State :=
  let new := (s.lone z).condition
  if new = old then s
  else
    match new with
    | none => s.goIdle z
    | some n => (s.goIdle z).startRunning z n

/-- R152, R190: a zone notice of RU. -/
def State.loneZoneNotice (s : State) (z : ZoneId) (count : Nat) (sole : Option Nat) : State :=
  let old := (s.lone z).condition
  (s.setLone z { s.lone z with count, sole }).loneChanged z old

/-- R46, R190: a change notice of CSU. -/
def State.loneAfterHours (s : State) (z : ZoneId) (flag : Bool) : State :=
  let old := (s.lone z).condition
  (s.setLone z { s.lone z with afterHours := flag }).loneChanged z old

/-- R194: the timer leaves OVERDUE. -/
def State.leaveOverdue (s : State) (z : ZoneId) : State :=
  if (s.lone z).state = .overdue then
    match (s.lone z).condition with
    | some n => s.startRunning z n
    | none => s.goIdle z
  else s

/-- R192: a check-in of a zone. -/
def State.checkIn (s : State) (z : ZoneId) : State :=
  let l := s.lone z
  match l.state with
  | .running => s.setLone z { l with intervalTimer := s.after l.interval }
  | .prompt =>
    let s := s.setLone z { l with graceTimer := none, repeatTimer := none }
    let s := s.sauTone z .off
    match l.condition with
    | some n =>
      (s.post .loneWorkerCheckedIn (zone := some z) (subject := some (.credential n))).startRunning z n
    | none => s
  | .idle | .overdue => s

/-- R192: a door of kind PLAIN or STRONGROOM that bounds the zone. -/
def Door.boundsZone (x : Door) (z : ZoneId) : Bool :=
  x.entry.kind != .noDoor && (x.entry.outer == z || x.entry.inner == z)

/-- R72, R192: PE's check-in notice. -/
def State.badgeCheckIn (s : State) (door : DoorId) (number : Nat) : State :=
  trackedZones.foldl
    (fun s z => if (s.lone z).condition = some number ∧ (s.door door).boundsZone z then s.checkIn z else s) s

/-- R193: the prompt numbered `n`. That its TONE frames are originated before LONE_WORKER_PROMPT is posted, so that a
TRANSMIT_DISPLACED of theirs (R19) comes first, is the model's: DESIGN CHOICE, log 15. -/
def State.issuePrompt (s : State) (z : ZoneId) (n : Nat) : State :=
  (s.sauTone z .prompt).post .loneWorkerPrompt (zone := some z)
    (subject := (s.lone z).condition.map Subject.credential) (reason := some n)

/-- R193: the repeat that falls due at a tick, unless the grace ends by then. -/
def repeatAt (tick : Nat) (grace : Timer) : Timer :=
  match grace with
  | some g => if tick < g then some tick else none
  | none => none

/-- R193: the interval timer expires in RUNNING. -/
def State.enterPrompt (s : State) (z : ZoneId) : State :=
  let grace := s.after (s.zone z).grace
  (s.setLone z
    { s.lone z with
      state := .prompt, intervalTimer := none, graceTimer := grace
      repeatTimer := repeatAt (s.csu.ticks + 30) grace, prompts := 1 }).issuePrompt z 1

/-- R193: a repeat falls due. -/
def State.repeatPrompt (s : State) (z : ZoneId) : State :=
  let l := s.lone z
  let n := l.prompts + 1
  (s.setLone z
    { l with
      prompts := n
      repeatTimer := l.repeatTimer.bind (fun t => repeatAt (t + 30) l.graceTimer) }).issuePrompt z n

/-- R46: the flags are recomputed from one reading of the clock, and SAU is told of each change. -/
def State.refreshAfterHours (s : State) : State :=
  allZones.foldl
    (fun t z =>
      let flag := !s.csu.covers (s.zone z).staffed
      if t.afterHours z = flag then t else (t.setAfterHours z flag).loneAfterHours z flag) s

end Sys2Proof.Machine
end

