-- ==== Sys2Proof/Machine/Alarms.lean ====
section
/-! DEFINITION. The alarm table (R184 to R189): numbering, raise requests, the alarm notices SAU gives SC, acknowledging
and clearing, and the OVERDUE alarm of a lone worker (R193, R194). -/

namespace Sys2Proof.Machine

/-- R184: numbers run 1..255. -/
def followingNumber (n : Nat) : Nat := if n = 255 then 1 else n + 1

/-- R184: the first number from `n` on that no record holds, within `fuel` tries. -/
def freeNumber (used : List Nat) : Nat → Nat → Nat
  | 0, n => n
  | fuel + 1, n => if used.contains n then freeNumber used fuel (followingNumber n) else n

/-- R184, R186: what identifies an alarm, as its events name it (a BUTTON names its line nowhere in an event). -/
def AlarmIdentity.subject : AlarmIdentity → Option Subject
  | .duress n => some (.credential n)
  | .personal p => some (.pendant p)
  | .manDown p => some (.pendant p)
  | .button _ => none
  | .overdue n => some (.credential n)

/-- R186: a staff alarm event. -/
def State.postAlarm (s : State) (kind : EventKind) (i : AlarmIdentity) (number : Nat) (z : ZoneId)
    (door : Option DoorId) : State :=
  s.post kind (door := door) (zone := some z) (subject := i.subject) (reason := some (i.reason number))

/-- R186 case 2: a record is added at the tail. -/
def State.addAlarm (s : State) (i : AlarmIdentity) (z : ZoneId) (door : Option DoorId) : State :=
  let n := freeNumber (s.sau.alarms.map AlarmRecord.number) 255 s.sau.nextNumber
  let r : AlarmRecord := { number := n, identity := i, zone := z, door, raised := s.stamp, acked := none }
  { s with sau := { s.sau with alarms := s.sau.alarms ++ [r], nextNumber := followingNumber n } }.postAlarm
    .staffAlarmRaised i n z door

/-- R194: a record has left the table; the timer that an OVERDUE record held leaves OVERDUE. -/
def State.recordGone (s : State) (r : AlarmRecord) : State :=
  match r.identity with
  | .overdue n =>
    trackedZones.foldl (fun s z => if (s.lone z).condition = some n then s.leaveOverdue z else s) s
  | .duress _ | .personal _ | .manDown _ | .button _ => s

/-- R186, R188: a record is removed, for reason DISPLACED (1) or STATION (2). -/
def State.removeAlarm (s : State) (i : Nat) (reason : Nat) : State :=
  match s.sau.alarms[i]? with
  | some r =>
    ((s.setAlarms (s.sau.alarms.eraseIdx i)).post .staffAlarmCleared
      (reason := some (paired reason r.number))).recordGone r
  | none => s

/-- R186: the first case that applies. -/
def State.takeRaise (s : State) (i : AlarmIdentity) (z : ZoneId) (door : Option DoorId) : State :=
  match s.sau.alarms.find? (fun r => r.identity == i) with
  | some r => s.postAlarm .staffAlarmRepeat i r.number z door
  | none =>
    if s.sau.alarms.length < 16 then s.addAlarm i z door
    else
      match s.sau.alarms.findIdx? (fun r => r.acked.isSome) with
      | some k => (s.removeAlarm k 1).addAlarm i z door
      | none =>
        ((s.postAlarm .staffAlarmRaised i 0 z door).post .alarmTableFull (zone := some z)).setAlarmOverflow z true

/-- R187: an alarm notice for each zone whose condition differs from that before the operation. -/
def State.alarmNotices (before s : State) : State :=
  allZones.foldl
    (fun t z => if s.alarmCondition z = before.alarmCondition z then t else t.scAlarmNotice z (s.alarmCondition z)) s

/-- R185 to R187: SAU takes a raise request. -/
def State.raiseAlarm (s : State) (i : AlarmIdentity) (z : ZoneId) (door : Option DoorId) : State :=
  s.alarmNotices (s.takeRaise i z door)

/-- R192, R185: a PENDANT frame from a receiver bound to the zone. -/
def State.pendantReport (s : State) (z : ZoneId) (pendant : Nat) (kind : PendantKind) : State :=
  match kind with
  | .alarm => s.raiseAlarm (.personal pendant) z none
  | .manDown => s.raiseAlarm (.manDown pendant) z none
  | .checkIn => s.checkIn z

/-- R193: the grace timer expires. -/
def State.enterOverdue (s : State) (z : ZoneId) : State :=
  let l := s.lone z
  let s := s.setLone z { l with state := .overdue, graceTimer := none, repeatTimer := none }
  let s := match l.condition with | some n => s.raiseAlarm (.overdue n) z none | none => s
  s.sauTone z .off

/-- R188: an OPEN record is acknowledged. -/
def State.ackAlarm (s : State) (i : Nat) (r : AlarmRecord) : State :=
  (s.setAlarms (s.sau.alarms.set i { r with acked := some s.stamp })).post .staffAlarmAcked
    (reason := some (r.identity.reason r.number))

/-- R188, R187: an ACKNOWLEDGED record is cleared by the station. -/
def State.clearAlarm (s : State) (i : Nat) : State := s.alarmNotices (s.removeAlarm i 2)

/-- R194: the zone's timer is OVERDUE and no record holds it. -/
def State.overdueUnheld (s : State) (z : ZoneId) : Bool :=
  match (s.lone z).condition with
  | some n => !s.sau.alarms.any (fun r => r.identity == .overdue n)
  | none => true

/-- R189, R194: a set alarm-overflow flag is cleared. -/
def State.clearOverflow (s : State) (z : ZoneId) : State :=
  let t := (s.setAlarmOverflow z false).post .alarmOverflowCleared (zone := some z)
  s.alarmNotices (if t.overdueUnheld z then t.leaveOverdue z else t)

end Sys2Proof.Machine
end

