-- ==== Sys2Proof/Machine/Roster.lean ====
section
/-! DEFINITION. RU, the rosters (chapter 7): applying a passage, opening notices, verification, and the zone notices to SC
and SAU. -/

namespace Sys2Proof.Machine

/-- R152: what a zone notice carries. -/
structure ZoneNotice where
  status : ZoneStatus
  count : Nat
  sole : Option Nat
deriving DecidableEq, Repr

/-- R152: the notice a zone would give now. -/
def State.zoneNow (s : State) (z : ZoneId) : ZoneNotice :=
  { status := s.zoneStatus z, count := (s.roster z).length, sole := soleOf (s.roster z) }

/-- R152: a zone notice goes to SC and to SAU (log 15). -/
def State.giveZoneNotice (s : State) (z : ZoneId) (n : ZoneNotice) : State :=
  (s.scZoneNotice z n.status n.count).loneZoneNotice z n.count n.sole

/-- R152: after an operation, a notice for each tracked zone that it changed. -/
def State.zoneNotices (before s : State) : State :=
  trackedZones.foldl
    (fun t z => if s.zoneNow z = before.zoneNow z then t else t.giveZoneNotice z (s.zoneNow z)) s

/-- R154: the re-announcement of every tracked zone. -/
def State.reannounce (s : State) : State := trackedZones.foldl (fun t z => t.giveZoneNotice z (s.zoneNow z)) s

/-- R142: a tracked zone becomes UNKNOWN, with ZONE_UNKNOWN when it was KNOWN. -/
def State.makeUnknown (s : State) (z : ZoneId) (r : UnknownReason) : State :=
  if z = 0 ∨ s.zoneStatus z = .unknown then s
  else (s.setZoneStatus z .unknown).post .zoneUnknown (zone := some z) (reason := some r.code)

/-- R145, R146: both zones of a door, the outer one first (log 15). -/
def State.makeBothUnknown (s : State) (outer inner : ZoneId) : State :=
  (s.makeUnknown outer .unattributed).makeUnknown inner .unattributed

/-- R143 step 1: a credential's entry is removed wherever it stands. -/
def State.removeEntry (s : State) (number : Nat) : State :=
  allZones.foldl (fun s z => s.setRoster z ((s.roster z).filter (fun e => e.number != number))) s

/-- R144: what leaves no room in zone `z`. -/
def State.noRoom (s : State) (z : ZoneId) : Option RoomReason :=
  if (s.zone z).limit ≤ (s.roster z).length then some .zone
  else if 240 ≤ s.poolCount then some .pool
  else none

/-- R143, R144: one credential of a passage goes to the destination zone. -/
def State.moveCredential (s : State) (door : DoorId) (dest : ZoneId) (custodian : Bool) (c : PassageCred) : State :=
  let s := s.removeEntry c.number
  if dest = 0 then s
  else
    match s.noRoom dest with
    | none =>
      s.setRoster dest (s.roster dest ++ [{ number := c.number, cls := c.cls, entered := s.uptime, custodian }])
    | some r =>
      (s.post .rosterOverflow (door := some door) (zone := some dest) (subject := some (.credential c.number))
        (reason := some r.code)).makeUnknown dest .capacity

/-- R99: the destination zone of a passage; a STATION passage has none. -/
def Passage.destination (p : Passage) : Option ZoneId :=
  match p.direction with
  | .entry => some p.inner
  | .exit => some p.outer
  | .station => none

/-- R143, R145: a confirmed passage is applied; its notices are given by the caller. -/
def State.applyPassage (s : State) (door : DoorId) (p : Passage) : State :=
  match p.destination, p.list with
  | some dest, c :: l => (c :: l).foldl (fun s c => s.moveCredential door dest p.custodian c) s
  | _, _ => s.makeBothUnknown p.outer p.inner

/-- R146: an opening notice taken alone. -/
def State.openingNotice (s : State) (outer inner : ZoneId) : State :=
  s.zoneNotices (s.makeBothUnknown outer inner)

/-- R148 to R150: the zone's channel is RELEASING. -/
def State.zoneReleasing (s : State) (z : ZoneId) : Bool :=
  match s.channelOf z with
  | some c => (s.channel c).state == .releasing
  | none => false

/-- R148 to R150: a zone is verified. -/
def State.verify (s : State) (z : ZoneId) (r : VerifyReason) : State :=
  let kept := match r with | .keep => s.roster z | .clear => [] | .key => []
  s.zoneNotices
    (((s.setRoster z kept).setZoneStatus z .known).post .zoneVerified (zone := some z)
      (reason := some (paired r.code kept.length)))

/-- R150: a key notice. -/
def State.clearKeyNotice (s : State) (z : ZoneId) : State :=
  if s.zoneReleasing z then
    s.post .zoneVerifyRefused (zone := some z) (reason := some 1)
  else s.verify z .key

end Sys2Proof.Machine
end

