-- ==== Sys2Proof/Machine/Doors.lean ====
section
/-! DEFINITION. DC at a door of either kind and at a PLAIN door (chapter 5): confirmation, unattributed openings, grants,
the pairing slot, FAULT and its end. -/

namespace Sys2Proof.Machine

/-! ## What both kinds share -/

/-- Table 5-3: an event naming the door and its inner zone. -/
def State.postDoor (s : State) (kind : EventKind) (d : DoorId) (subject : Option Subject := none)
    (reason : Option Nat := none) : State :=
  s.post kind (door := some d) (zone := some (s.door d).entry.inner) (subject := subject) (reason := reason)

/-- R161: what SC is told of a door; nothing of one of kind NONE. -/
def Door.view (x : Door) : Option DoorView :=
  if x.entry.kind = .noDoor then none
  else some { outer := x.entry.outer, inner := x.entry.inner, contact := x.contact }

/-- R97: the contact takes a value and DC tells SC. -/
def State.setContact (s : State) (d : DoorId) (c : Contact) : State :=
  let x : Door := { s.door d with contact := c }
  let s := s.setDoor d x
  if x.entry.kind = .noDoor then s else s.scDoorNotice d x.view

/-- Table 5-3: the zone that PASSAGE and GRANT_UNUSED name. -/
def Passage.eventZone (p : Passage) : ZoneId := p.destination.getD p.inner

/-- R99: PASSAGE. -/
def State.postPassage (s : State) (d : DoorId) (p : Passage) : State :=
  s.post .passage (door := some d) (zone := some p.eventZone) (subject := p.first) (reason := some p.direction.code)

/-- R98, R103: a held passage is discarded with GRANT_UNUSED. -/
def State.postUnused (s : State) (d : DoorId) (p : Passage) (r : UnusedReason) : State :=
  s.post .grantUnused (door := some d) (zone := some p.eventZone) (subject := p.first) (reason := some r.code)

/-- R99: a passage is confirmed: RU applies it and gives its notices, then PASSAGE (log 15). -/
def State.confirmPassage (s : State) (d : DoorId) (p : Passage) : State :=
  (s.zoneNotices (s.applyPassage d p)).postPassage d p

/-- R102, R146: a passage confirmed by an opening from inside: one set of notices after both. -/
def State.confirmWithEgress (s : State) (d : DoorId) (p : Passage) : State :=
  s.zoneNotices
    ((((s.applyPassage d p).postPassage d p).postDoor .unattributedEgress d
      (reason := some EgressReason.handle.code)).makeBothUnknown p.outer p.inner)

/-- R106: DC hands RU an opening notice. -/
def State.doorOpening (s : State) (d : DoorId) : State :=
  s.openingNotice (s.door d).entry.outer (s.door d).entry.inner

/-- UNATTRIBUTED_EGRESS, then the opening notice. -/
def State.unattributed (s : State) (d : DoorId) (r : EgressReason) : State :=
  (s.postDoor .unattributedEgress d (reason := some r.code)).doorOpening d

/-- The door is OPEN and the held-open timer starts. -/
def State.setOpen (s : State) (d : DoorId) : State :=
  let x := s.door d
  s.setDoor d { x with state := .opened, unlock := none, passage := none, held := s.after x.entry.heldLimit }

/-- R105, R128: an opening of a locked or secured door is judged. -/
def State.judgeOpening (s : State) (d : DoorId) (from' : Contact) (handle : Bool) : State :=
  match from' with
  | .unknown => (s.setOpen d).unattributed d .contact
  | .closed | .opened =>
    if handle then (s.setOpen d).unattributed d .handle
    else ((s.setDoor d { s.door d with state := .forced }).postDoor .doorForced d).doorOpening d

/-- R104, R126: the event of closing, by the state the door was in. -/
def DoorState.closingEvent : DoorState → Option EventKind
  | .heldOpen => some .doorClosedAfterHeld
  | .forced => some .doorClosedAfterForced
  | .locked | .unlocked | .opened | .fault | .secured | .custodyWait | .delay | .confirmWait | .unbolted => none

/-- The door stands open by its state. -/
def DoorState.standsOpen : DoorState → Bool
  | .opened | .heldOpen | .forced => true
  | .locked | .unlocked | .fault | .secured | .custodyWait | .delay | .confirmWait | .unbolted => false

/-- R104: DOOR_HELD_OPEN. -/
def State.setHeldOpen (s : State) (d : DoorId) : State :=
  (s.setDoor d { s.door d with state := .heldOpen, held := none }).postDoor .doorHeldOpen d

/-- R98, R129: DOOR_FAULT_CLEARED names CLOSED (1) or OPEN (2). -/
def faultClearedReason (opened : Bool) : Nat := if opened then 2 else 1

/-- R98, R129: FAULT ends with the contact OPEN. -/
def State.faultEndsOpen (s : State) (d : DoorId) : State :=
  ((s.setOpen d).postDoor .doorFaultCleared d (reason := some (faultClearedReason true))).unattributed d .contact

/-- DISPLAY DENIED with the class a DC refusal shows, and DENY. -/
def State.refuseAt (s : State) (d : DoorId) (reader : Option DevIx) (m : Message) (number : Nat) (r : DenyReason) :
    State :=
  (s.driveOpt reader (.display m)).postDoor .deny d (subject := some (.credential number)) (reason := some r.code)

/-! ## The PLAIN door -/

/-- R104: the door is locked. -/
def State.lockDoor (s : State) (d : DoorId) : State :=
  (s.setDoor d { s.door d with state := .locked, held := none, unlock := none, passage := none }).driveOpt
    (s.door d).entry.unit .lock

/-- R99, R100: the door is unlocked for a passage. -/
def State.unlockFor (s : State) (d : DoorId) (p : Passage) : State :=
  let x := s.door d
  (s.setDoor d { x with state := .unlocked, passage := some p, unlock := s.after x.entry.unlockWindow }).driveOpt
    x.entry.unit (.unlock x.entry.unlockWindow)

/-- R99: a passage record at a PLAIN door. -/
def Door.passageFor (x : Door) (direction : Direction) (list : List PassageCred) (custodian : Bool) : Passage :=
  { direction, outer := x.entry.outer, inner := x.entry.inner, list, custodian }

/-- R102: the held passage is confirmed by the contact. -/
def State.confirmHeld (s : State) (d : DoorId) (handle : Bool) : State :=
  match (s.door d).passage with
  | none => s
  | some p =>
    let s := s.setOpen d
    if handle ∧ p.direction ≠ .exit then s.confirmWithEgress d p else s.confirmPassage d p

/-- R97, R98, R102 to R105: a contact change at a PLAIN door, already recorded and told to SC. -/
def State.plainContact (s : State) (d : DoorId) (from' : Contact) (opened handle : Bool) : State :=
  let x := s.door d
  match x.state with
  | .locked => if opened then s.judgeOpening d from' handle else s
  | .unlocked => if opened then s.confirmHeld d handle else s
  | .opened | .heldOpen | .forced =>
    if opened ∨ from' = .unknown then s
    else
      let s := s.lockDoor d
      match x.state.closingEvent with
      | some k => s.postDoor k d
      | none => s
  | .fault =>
    if opened then s.faultEndsOpen d
    else (s.lockDoor d).postDoor .doorFaultCleared d (reason := some (faultClearedReason false))
  | .secured | .custodyWait | .delay | .confirmWait | .unbolted => s

/-- R111: the waiting escort is refused. -/
def State.refuseEscort (s : State) (d : DoorId) (m : Message) (r : DenyReason) : State :=
  match (s.door d).slot with
  | none => s
  | some e => (s.setDoor d { s.door d with slot := none, pairing := none }).refuseAt d (some e.reader) m e.number r

/-- R98: a PLAIN door whose unit is MISSING goes to FAULT. -/
def State.plainFault (s : State) (d : DoorId) : State :=
  let x := s.door d
  if x.state = .fault then s
  else
    let s := s.setDoor d { x with unlock := none, held := none, passage := none }
    let s := match x.passage with | some p => s.postUnused d p .fault | none => s
    let s := s.refuseEscort d (.denied .door) .doorFault
    (s.setDoor d { s.door d with state := .fault }).postDoor .doorFault d

/-- R89, R90: an ordinary grant or an exit grant. -/
structure Grant where
  reader : DevIx
  door : DoorId
  direction : Direction
  list : List PassageCred
deriving DecidableEq, Repr

/-- The class may complete a pairing, or escort: STAFF or CUSTODIAN. -/
def CredClass.isStaff : CredClass → Bool
  | .staff | .custodian => true
  | .contractor | .visitor => false

/-- R109: the grant is a pairing partner at the door. -/
def Grant.isPartner (g : Grant) (x : Door) : Bool :=
  g.direction == .entry && x.slot.isSome && (match g.list with | c :: _ => c.cls.isStaff | [] => false)

/-- R110: a pairing partner's list, with the escort behind. -/
def Grant.pairedList (g : Grant) (e : Escort) : List PassageCred := g.list ++ [{ number := e.number, cls := e.cls }]

/-- R108, R110: GRANT for the escort, posted by DC. -/
def State.grantEscort (s : State) (d : DoorId) (number : Nat) : State :=
  s.postDoor .grant d (subject := some (.credential number)) (reason := some Direction.entry.code)

/-- R110: the pairing is done: the slot is empty and both readers show GRANTED. GRANT for the escort follows PE's. -/
def State.completePairing (s : State) (g : Grant) (e : Escort) : State :=
  let s := s.setDoor g.door { s.door g.door with slot := none, pairing := none }
  (s.display g.reader .granted).display e.reader .granted

/-- R110: the escort whose pairing the grant completes at the door, if it does. -/
def Grant.completes (g : Grant) (x : Door) : Option Nat :=
  match x.entry.kind, x.state with
  | .plain, .locked | .plain, .opened | .plain, .heldOpen | .plain, .forced =>
    if g.isPartner x then x.slot.map Escort.number else none
  | _, _ => none

/-- R101: a grant at a door that stands open is confirmed at once. -/
def State.confirmAtOnce (s : State) (g : Grant) (list : List PassageCred) (custodian : Bool) : State :=
  s.confirmPassage g.door ((s.door g.door).passageFor g.direction list custodian)

/-- R101: the credential of the grant stands in the held passage, in the same direction. -/
def Grant.repeats (g : Grant) (p : Passage) : Bool :=
  g.direction == p.direction
    && (match g.list with | c :: _ => p.list.any (fun e => e.number == c.number) | [] => false)

/-- R101, R125: DROPPED. -/
def State.dropGrant (s : State) (g : Grant) : State × Bool := (s.display g.reader .wait, false)

/-- R100, R101, R110: a grant at a PLAIN door; the answer is TAKEN or DROPPED. At an UNLOCKED door a pairing partner who stands in
the held list already is a repeat under R101, and TAKEN: DEDUCED, log 40. -/
def State.plainGrant (s : State) (g : Grant) : State × Bool :=
  let x := s.door g.door
  match x.state with
  | .locked =>
    match (if g.isPartner x then x.slot else none) with
    | some e => ((s.unlockFor g.door (x.passageFor g.direction (g.pairedList e) false)).completePairing g e, true)
    | none => ((s.unlockFor g.door (x.passageFor g.direction g.list false)).display g.reader .granted, true)
  | .unlocked =>
    match x.passage with
    | some p => if g.repeats p then (s.display g.reader .granted, true) else s.dropGrant g
    | none => s.dropGrant g
  | .opened | .heldOpen | .forced =>
    match (if g.isPartner x then x.slot else none) with
    | some e => ((s.confirmAtOnce g (g.pairedList e) false).completePairing g e, true)
    | none => ((s.confirmAtOnce g g.list false).display g.reader .granted, true)
  | .fault =>
    (((s.driveOpt x.entry.unit (.unlock x.entry.unlockWindow)).display g.reader .granted).unattributed g.door .fault,
      true)
  | .secured | .custodyWait | .delay | .confirmWait | .unbolted => s.dropGrant g

/-- R108 case 1: the held passage may be joined. -/
def Door.joinable (x : Door) : Option Passage :=
  match x.state, x.passage with
  | .unlocked, some p =>
    match p.direction, p.list with
    | .entry, [c] => if c.cls.isStaff then some p else none
    | _, _ => none
  | _, _ => none

/-- R108: an escort presentation at a PLAIN door. -/
def State.escortPresented (s : State) (d : DoorId) (e : Escort) : State :=
  let x := s.door d
  match x.joinable with
  | some p =>
    let p' : Passage := { p with list := p.list ++ [{ number := e.number, cls := e.cls }] }
    ((s.setDoor d { x with passage := some p' }).display e.reader .granted).grantEscort d e.number
  | none =>
    match x.slot with
    | some w =>
      if w.number = e.number then s.display e.reader .escortWait
      else s.refuseAt d (some e.reader) .wait e.number .doorBusy
    | none =>
      ((s.setDoor d { x with slot := some e, pairing := s.after x.entry.pairing }).display e.reader
        .escortWait).postDoor .escortWaiting d (subject := some (.credential e.number))

/-- R103: the unlock timer expires in UNLOCKED. -/
def State.unlockExpired (s : State) (d : DoorId) : State :=
  let x := s.door d
  let s := s.lockDoor d
  match x.passage with
  | some p => s.postUnused d p .timeout
  | none => s

end Sys2Proof.Machine
end

