-- ==== Sys2Proof/Machine/Strongroom.lean ====
section
/-! DEFINITION. DC at a STRONGROOM door (chapter 6): custody presentations, exit grants, contact changes, FAULT, the bolt
comparison, and the expiry of the sequence's timers. Cancelling a sequence stands in Machine/Bolt.lean. -/

namespace Sys2Proof.Machine

/-- R117: the door is SECURED and bolted. -/
def State.secure (s : State) (d : DoorId) : State :=
  (s.setDoor d
    { s.door d with
      state := .secured, unlock := none, held := none, passage := none, pairing := none
      custodyA := none, custodyB := none, budget := none, delay := none, display := none, confirm := none }).driveBolt
    d .thrown

/-! ## Custody presentations -/

/-- R88: a custody presentation. -/
structure Custody where
  reader : DevIx
  door : DoorId
  number : Nat
  cls : CredClass
  schedule : SchedId
  arrival : Nat
  duress : Bool
deriving DecidableEq, Repr

def Custody.custodian (c : Custody) : Custodian := { number := c.number, schedule := c.schedule, duress := c.duress }
def Custody.cred (c : Custody) : PassageCred := { number := c.number, cls := c.cls }

/-- The entry reader shows a message. -/
def State.showEntry (s : State) (d : DoorId) (m : Message) : State :=
  s.driveOpt (s.door d).entry.entryReader (.display m)

/-- R119, R120, R124, R126: CUSTODY. -/
def State.refuseCustody (s : State) (c : Custody) : State :=
  s.refuseAt c.door (s.door c.door).entry.entryReader (.denied .access) c.number .custody

/-- R119: a first custodian at a SECURED strongroom. -/
def State.firstCustodian (s : State) (c : Custody) : State :=
  if c.cls = .custodian then
    let x := s.door c.door
    ((s.setDoor c.door
      { x with custodyA := some c.custodian, pairing := s.after x.entry.pairing, state := .custodyWait }).showEntry
        c.door .custodyWait).postDoor .custodyStarted c.door (subject := some (.credential c.number))
  else s.refuseCustody c

/-- R120 case 3: the second custodian is taken with a budget. -/
def State.startDelay (s : State) (c : Custody) (b : Budget) : State :=
  ((s.setDoor c.door
    { s.door c.door with
      custodyB := some c.custodian, budget := some b, pairing := none
      delay := s.after b.delay, display := s.after 60, state := .delay }).showEntry c.door (.delay b.delay)).postDoor
    .delayStarted c.door (subject := some (.credential c.number))

/-- R120: a custody presentation in CUSTODY_WAIT, custodian A being `a`. -/
def State.secondCustodian (s : State) (c : Custody) (a : Custodian) : State :=
  let x := s.door c.door
  if c.number = a.number then s.showEntry c.door .custodyWait
  else if c.cls ≠ .custodian then s.refuseCustody c
  else
    match s.csu.budget x.entry.schedule a.schedule c.schedule x.entry.timeDelay x.entry.confirmWindow
        (a.duress || c.duress) with
    | none =>
      (s.secure c.door).refuseAt c.door x.entry.entryReader (.denied .access) c.number .windowTooShort
    | some b => s.startDelay c b

/-- R124: the list of a confirmed opening: A, then B, each of class CUSTODIAN. -/
def Door.custodyList (x : Door) : List PassageCred :=
  (x.custodyA.toList ++ x.custodyB.toList).map (fun k => { number := k.number, cls := .custodian })

/-- R124 case 2: the bolt is withdrawn for the two custodians. -/
def State.unboltForEntry (s : State) (c : Custody) : State :=
  let x := s.door c.door
  let s := (s.setDoor c.door { x with confirm := none }).driveBolt c.door .withdrawn
  ((s.setDoor c.door
    { s.door c.door with
      passage := some (x.passageFor .entry x.custodyList true)
      custodyA := none, custodyB := none, budget := none
      unlock := s.after x.entry.unlockWindow, state := .unbolted }).showEntry c.door .granted).postDoor
    .strongroomUnbolted c.door (subject := some (.credential c.number)) (reason := some Direction.entry.code)

/-- R124: a custody presentation in CONFIRM_WAIT. -/
def State.confirmCustody (s : State) (c : Custody) : State :=
  let x := s.door c.door
  if c.arrival < x.confirmOpening.getD 0 then s.showEntry c.door .confirm
  else if x.custodyList.any (fun e => e.number == c.number) then s.unboltForEntry c
  else s.refuseCustody c

/-- R125: a custody presentation in UNBOLTED. -/
def State.custodyUnbolted (s : State) (c : Custody) : State :=
  let x := s.door c.door
  let listed : Bool := match x.passage with
    | some p => p.direction == .entry && p.list.any (fun e => e.number == c.number)
    | none => false
  if listed then s.showEntry c.door .granted
  else s.refuseAt c.door x.entry.entryReader .wait c.number .doorBusy

/-- R126: a custody presentation at an open strongroom. -/
def State.custodyOpen (s : State) (c : Custody) : State :=
  if c.cls = .custodian then
    (s.confirmAtOnce { reader := c.reader, door := c.door, direction := .entry, list := [c.cred] } [c.cred]
      true).showEntry c.door .granted
  else s.refuseCustody c

/-- R119 to R126: a custody presentation is taken by the state of the strongroom. -/
def State.custodyPresented (s : State) (c : Custody) : State :=
  let x := s.door c.door
  match x.state with
  | .secured => s.firstCustodian c
  | .custodyWait => match x.custodyA with | some a => s.secondCustodian c a | none => s
  | .delay => s.showEntry c.door (.delay (s.left x.delay))
  | .confirmWait => s.confirmCustody c
  | .unbolted => s.custodyUnbolted c
  | .opened | .heldOpen | .forced => s.custodyOpen c
  | .fault | .locked | .unlocked => s

/-! ## Exit grants -/

/-- R127: the bolt is withdrawn for a person leaving. -/
def State.unboltForExit (s : State) (g : Grant) : State :=
  let s := s.driveBolt g.door .withdrawn
  let x := s.door g.door
  (s.setDoor g.door
    { x with
      passage := some (x.passageFor .exit g.list false), unlock := s.after x.entry.unlockWindow
      state := .unbolted }).display g.reader .granted

/-- R125 to R127: an exit grant at a strongroom. -/
def State.strongroomExit (s : State) (g : Grant) : State × Bool :=
  let x := s.door g.door
  match x.state with
  | .secured => (s.unboltForExit g, true)
  | .custodyWait | .delay | .confirmWait => ((s.cancelSequence g.door .egress).unboltForExit g, true)
  | .unbolted =>
    match x.passage with
    | some p =>
      if p.direction = .exit ∧ p.list.map PassageCred.number = g.list.map PassageCred.number then
        (s.display g.reader .granted, true)
      else s.dropGrant g
    | none => s.dropGrant g
  | .opened | .heldOpen | .forced => ((s.confirmAtOnce g g.list false).display g.reader .granted, true)
  | .fault | .locked | .unlocked => s.dropGrant g

/-- R89, R90: a grant is handed to DC. -/
def State.takeGrant (s : State) (g : Grant) : State × Bool :=
  match (s.door g.door).entry.kind with
  | .plain => s.plainGrant g
  | .strongroom => s.strongroomExit g
  | .noDoor => s.dropGrant g

/-! ## Contact changes and FAULT -/

/-- R125, R126, R128, R129: a contact change at a STRONGROOM door, already recorded and told to SC. -/
def State.strongroomContact (s : State) (d : DoorId) (from' : Contact) (opened handle : Bool) : State :=
  let x := s.door d
  match x.state with
  | .secured => if opened then s.judgeOpening d from' handle else s
  | .custodyWait | .delay | .confirmWait =>
    if opened then (s.cancelSequence d .opened).judgeOpening d from' handle else s
  | .unbolted => if opened then s.confirmHeld d handle else s
  | .opened | .heldOpen | .forced =>
    if opened ∨ from' = .unknown then s
    else
      let s := s.secure d
      match x.state.closingEvent with
      | some k => s.postDoor k d
      | none => s
  | .fault =>
    if opened then s.faultEndsOpen d
    else (s.secure d).postDoor .doorFaultCleared d (reason := some (faultClearedReason false))
  | .locked | .unlocked => s

/-- R129: a strongroom whose unit is MISSING goes to FAULT. -/
def State.strongroomFault (s : State) (d : DoorId) : State :=
  let x := s.door d
  if x.state = .fault then s
  else
    let s := if x.state.inSequence then s.cancelSequence d .fault else s
    let s := match (if x.state = .unbolted then x.passage else none) with
      | some p => (s.setDoor d { s.door d with passage := none }).postUnused d p .fault
      | none => s
    let s := (s.setDoor d { s.door d with unlock := none, held := none }).setBolt d .thrown
    (s.setDoor d { s.door d with state := .fault }).postDoor .doorFault d

/-- R98, R129: FC tells DC that the door unit of a door has become MISSING. -/
def State.doorUnitMissing (s : State) (d : DoorId) : State :=
  let s := s.setContact d .unknown
  match (s.door d).entry.kind with
  | .plain => s.plainFault d
  | .strongroom => s.strongroomFault d
  | .noDoor => s

/-- R132: a DOOR_STATUS frame of a strongroom is compared with the bolt command. -/
def State.compareBolt (s : State) (d : DoorId) (reported : Bolt) : State :=
  let x := s.door d
  if x.entry.kind = .strongroom ∧ x.contact = .closed ∧ x.settle = none ∧ x.state ≠ .fault then
    if reported ≠ x.boltCommand then
      if x.mismatch then s
      else
        ((s.setDoor d { x with mismatch := true }).postDoor .boltMismatch d (reason := some reported.code)).driveOpt
          x.entry.unit x.boltCommand.output
    else if x.mismatch then (s.setDoor d { x with mismatch := false }).postDoor .boltMismatchCleared d
    else s
  else s

/-- R97: the contact of a DOOR_STATUS frame differs from the contact held. -/
def State.contactChange (s : State) (d : DoorId) (c : Contact) (handle : Bool) : State :=
  let from' := (s.door d).contact
  let s := s.setContact d c
  match (s.door d).entry.kind with
  | .plain => s.plainContact d from' (c == .opened) handle
  | .strongroom => s.strongroomContact d from' (c == .opened) handle
  | .noDoor => s

/-- R97, R132: a DOOR_STATUS frame. -/
def State.doorStatusReport (s : State) (d : DoorId) (c : Contact) (b : Bolt) (handle : Bool) : State :=
  let s := s.setDoor d { s.door d with bolt := some b }
  let s := if (s.door d).contact = c then s else s.contactChange d c handle
  s.compareBolt d b

/-! ## Timers -/

/-- R125: the unlock timer of a strongroom expires in UNBOLTED. -/
def State.unboltExpired (s : State) (d : DoorId) : State :=
  let x := s.door d
  let s := s.secure d
  match x.passage with
  | some p => s.postUnused d p .timeout
  | none => s

/-- R123: the delay timer expires in DELAY. D′ and C′ stay held in CONFIRM_WAIT, until the sequence ends: DEDUCED, log 41. -/
def State.delayExpired (s : State) (d : DoorId) : State :=
  let x := s.door d
  match x.budget with
  | some b =>
    if 1 ≤ b.window then
      ((s.setDoor d
        { x with
          delay := none, display := none, confirm := s.after b.window.toNat
          confirmOpening := some s.uptime, state := .confirmWait }).showEntry d .confirm).postDoor .confirmOpen d
    else s.cancelSequence d .windowClosed
  | none => s

/-- R122: the display timer expires in DELAY. -/
def State.displayExpired (s : State) (d : DoorId) : State :=
  let x := s.door d
  (s.setDoor d { x with display := s.after 60 }).showEntry d (.delay (s.left x.delay))

end Sys2Proof.Machine
end

