-- ==== Sys2Proof/Machine/Store.lean ====
section
/-! DEFINITION. CSC before a cycle ends (chapter 3): the cache's recency order, lookups, the fetch queue, withdrawal, the
port and the start of a credential write. What the end of a cycle does stands in Machine/StoreCycles.lean. -/

namespace Sys2Proof.Machine

/-! ## The cache -/

def CacheState.isFetching : CacheState → Bool
  | .fetching => true
  | .valid _ | .negative => false

/-- R54: the entry of a number. The list is in recency order, most recent first (R55). -/
def Csc.entry (c : Csc) (number : Nat) : Option CacheEntry := c.cache.find? (fun e => e.number == number)

/-- R55: the least recent VALID or NEGATIVE entry is removed. -/
def dropLeastRecent (l : List CacheEntry) : List CacheEntry :=
  (l.reverse.eraseP (fun e => !e.state.isFetching)).reverse

/-- R55, R59: an entry is installed, or changes state, and becomes the most recent. -/
def Csc.install (c : Csc) (number : Nat) (state : CacheState) : Csc :=
  let others := c.cache.filter (fun e => e.number != number)
  let room := if others.length < 48 then others else dropLeastRecent others
  { c with cache := { number, state } :: room }

/-- R55: a hit moves its entry to the most recent place. -/
def Csc.touch (c : Csc) (e : CacheEntry) : Csc :=
  { c with cache := e :: c.cache.filter (fun x => x.number != e.number) }

/-! ## The fetch queue -/

/-- R57: the waiting numbers, each once, in the order they joined. -/
def waitingNumbers (q : List FetchRequest) : List Nat :=
  (q.flatMap (fun r => r.waiters.map Waiter.number)).eraseDups

/-- R62: the bucket is under write. -/
def Csc.underWrite (c : Csc) (bucket : Nat) : Bool :=
  match c.write with
  | some w => w.stage != .waiting && homeBucket w.number == bucket
  | none => false

/-- R62: a credential write starts. -/
def Csc.startWrite (c : Csc) (w : WriteRecord) : Csc :=
  { c with
    cache := c.cache.filter (fun e => homeBucket e.number != homeBucket w.number)
    write := some { w with stage := .read 1 }
    port := .write }

/-- R51: the port is free and is handed on; the repeat of rule 1 is taken where the attempt ends. -/
def Csc.handOn (c : Csc) : Csc :=
  let fetch : Csc :=
    match c.queue with
    | r :: rest => { c with queue := { r with inCycle := true } :: rest, port := .fetch }
    | [] => { c with port := .idle }
  match c.write with
  | some w => if w.stage = .waiting then c.startWrite w else fetch
  | none => fetch

/-- R51: an idle port starts what has just arrived. -/
def Csc.startIfIdle (c : Csc) : Csc := if c.port = .idle then c.handOn else c

/-- R57: a waiter joins the request for its bucket. -/
def Csc.addWaiter (c : Csc) (w : Waiter) : Csc :=
  { c with queue := c.queue.map (fun r =>
      if r.bucket = homeBucket w.number then { r with waiters := r.waiters ++ [w] } else r) }

/-- R58 cases 3 and 4: the FETCHING entry, unless the bucket is under write. -/
def Csc.installFetching (c : Csc) (number : Nat) : Csc :=
  if c.underWrite (homeBucket number) then c else c.install number .fetching

/-- R58: a lookup miss. -/
def Csc.miss (c : Csc) (w : Waiter) : Csc × Answer :=
  let bucket := homeBucket w.number
  let queued := c.queue.any (fun r => r.bucket == bucket)
  let waiting := waitingNumbers c.queue
  if waiting.contains w.number then (c.addWaiter w, .wait)
  else if 8 ≤ waiting.length ∨ (8 ≤ c.queue.length ∧ ¬ queued) then (c, .busy)
  else if queued then ((c.addWaiter w).installFetching w.number, .wait)
  else
    let r : FetchRequest := { bucket, waiters := [w], attempt := 1, inCycle := false, firstNumber := w.number }
    (({ c with queue := c.queue ++ [r] }.installFetching w.number).startIfIdle, .wait)

/-- R56: a lookup. -/
def Csc.lookup (c : Csc) (w : Waiter) : Csc × Answer :=
  match c.entry w.number with
  | some e =>
    match e.state with
    | .valid slot => (c.touch e, .found slot)
    | .negative => (c.touch e, .notEnrolled)
    | .fetching => (c.addWaiter w, .wait)
  | none => c.miss w

/-- R60: the waiters of a requester are withdrawn. -/
def Csc.withdraw (c : Csc) (q : Requester) : Csc :=
  let gone := (c.queue.flatMap FetchRequest.waiters).filterMap
    (fun w => if w.requester = q then some w.number else none)
  let left := c.queue.map (fun r => { r with waiters := r.waiters.filter (fun w => w.requester != q) })
  let still := waitingNumbers left
  { c with
    queue := left.filter (fun r => !r.waiters.isEmpty || r.inCycle)
    cache := c.cache.filter
      (fun e => !(e.state.isFetching && gone.contains e.number && !still.contains e.number)) }

/-- R61: a write record is taken and starts at once on an idle port. -/
def Csc.takeWrite (c : Csc) (w : WriteRecord) : Csc := { c with write := some w }.startIfIdle

/-! ## The cycle on the port -/

/-- R51: the three kinds of cycle, with the byte addresses they use (R50) and the bytes a slot write stores (R64). -/
inductive StoreCycle where
  | bucketRead (addresses : List Nat)
  | slotWrite (address : Nat) (bytes : List Byte)
  | slotRead (address : Nat)
deriving DecidableEq, Repr

/-- R51, R62 to R65: the cycle that a started credential write runs. -/
def WriteRecord.cycle (w : WriteRecord) : Option StoreCycle :=
  match w.stage with
  | .waiting => none
  | .read _ => some (.bucketRead (bucketAddresses (homeBucket w.number)))
  | .slotWrite k => some (.slotWrite (slotAddress (homeBucket w.number) k) w.bytes)
  | .readBack k => some (.slotRead (slotAddress (homeBucket w.number) k))

/-- R51: the cycle that runs on the store port, if one does: what the controller asks of the serial memory. -/
def Csc.cycle (c : Csc) : Option StoreCycle :=
  match c.port with
  | .idle => none
  | .fetch => c.queue.head?.map (fun r => .bucketRead (bucketAddresses r.bucket))
  | .write => c.write.bind WriteRecord.cycle
  | .orphan _ number => some (.bucketRead (bucketAddresses (homeBucket number)))

def State.setCsc (s : State) (c : Csc) : State := { s with csc := c }

end Sys2Proof.Machine
end

