-- ==== Sys2Proof/Machine/Presentation.lean ====
section
/-! DEFINITION. PE, presentations and access decisions (chapter 4). -/

namespace Sys2Proof.Machine

/-! ## Refusals -/

/-- Table 4-4: what the reader shows for a deny. -/
def DenyReason.message : DenyReason → Message
  | .listFull => .wait
  | .doorFault => .denied .door
  | .notEnrolled => .denied .card
  | .storeFault => .denied .door
  | .storeBusy => .denied .door
  | .status => .denied .card
  | .issue => .denied .card
  | .expired => .denied .card
  | .noRight => .denied .access
  | .schedule => .denied .access
  | .pinRequired => .pinPrompt
  | .pin => .denied .pin
  | .passback => .denied .access
  | .suppression => .denied .zone
  | .rosterFull => .denied .zone
  | .doorBusy => .wait
  | .escort => .denied .escort
  | .custody => .denied .access
  | .windowTooShort => .denied .access

/-- Table 4-5: DENY's zone: the inner zone for an entry, the outer zone for an exit. -/
def State.denyZone (s : State) (p : Presentation) : ZoneId :=
  match p.side with
  | .entry => (s.door p.door).entry.inner
  | .exit => (s.door p.door).entry.outer

/-- R92: an event about a presentation. -/
def State.postPe (s : State) (kind : EventKind) (p : Presentation) (zone : ZoneId) (reason : Nat) : State :=
  s.post kind (door := some p.door) (zone := some zone) (subject := some (.credential p.number))
    (reason := some reason)

/-- R91, R92: a deny that PE answers on the reader and posts as DENY. That PE originates the DISPLAY of a deny before it posts the
deny's event is the model's: DESIGN CHOICE, log 15. -/
def State.deny (s : State) (p : Presentation) (r : DenyReason) : State :=
  (s.display p.reader r.message).postPe .deny p (s.denyZone p) r.code

/-- R79, R92: LOST is reported by LOST_CARD_PRESENTED. That its reason STATUS has the number it has in DENY is the model's: DESIGN
CHOICE, log 46. -/
def State.denyLost (s : State) (p : Presentation) : State :=
  (s.display p.reader DenyReason.status.message).postPe .lostCardPresented p (s.denyZone p) DenyReason.status.code

/-- R86, R92: ROSTER_FULL. -/
def State.denyFull (s : State) (p : Presentation) (r : RoomReason) : State :=
  (s.display p.reader DenyReason.rosterFull.message).postPe .rosterFull p (s.door p.door).entry.inner r.code

/-! ## The checks -/

/-- R78: check 1 fails. -/
def State.doorRefuses (s : State) (d : DoorId) : Bool :=
  (s.door d).entry.kind == .noDoor || (s.door d).state == .fault

/-- R80: check 5 fails. -/
def State.expired (s : State) (r : CredRecord) : Bool :=
  r.expiry != 0 && (s.csu.clock == .unset || decide (r.expiry < s.csu.day))

/-- R81: a PIN is needed at the door. -/
def State.pinNeeded (s : State) (x : DoorEntry) : Bool :=
  match x.pinMode with
  | .never => false
  | .always => true
  | .afterHours => s.afterHours x.inner

/-- R82: the duress PIN of a record PIN. -/
def duressPin (p : Nat) : Nat := p - p % 10 + (p % 10 + 1) % 10

/-- R81, R82: the outcome of check 8. -/
inductive PinCheck where
  | pass
  | duress
  | fail (reason : DenyReason)
deriving DecidableEq, Repr

/-- R81, R82: check 8. -/
def State.checkPin (s : State) (x : DoorEntry) (r : CredRecord) (presented : Option Nat) : PinCheck :=
  if s.pinNeeded x then
    match r.pin, presented with
    | none, _ => .fail .pin
    | some _, none => .fail .pinRequired
    | some own, some given =>
      if given = own then .pass
      else if r.duressEnabled ∧ given = duressPin own then .duress
      else .fail .pin
  else .pass

/-- R79, R80: checks 3 to 7; the first that fails. -/
def State.checkRecord (s : State) (p : Presentation) (r : CredRecord) : Option DenyReason :=
  if r.status ≠ .active then some .status
  else if p.issue ≠ r.issue then some .issue
  else if s.expired r then some .expired
  else if ¬ r.doorMask.getLsbD p.door.val then some .noRight
  else if ¬ (s.csu.covers r.schedule && s.csu.covers (s.door p.door).entry.schedule) then some .schedule
  else none

/-- R84: the zone in whose roster the credential stands against check 9, if one does. -/
def State.passbackZone (s : State) (p : Presentation) (r : CredRecord) : Option ZoneId :=
  if r.passbackExempt then none
  else
    match s.standsIn p.number with
    | some z => if z = (s.door p.door).entry.outer then none else some z
    | none => none

/-- R86: the credentials of the passage lists that satisfy a test on their destination, other than the one presented. -/
def State.reservedIn (s : State) (p : ZoneId → Bool) (q : PassageCred → Bool) : Nat :=
  (allDoors.map fun d =>
    match (s.door d).passage with
    | some x => match x.destination with | some z => if p z then (x.list.filter q).length else 0 | none => 0
    | none => 0).sum

/-- R86: the places the presentation would take. -/
def Door.needed (x : Door) (cls : CredClass) : Nat :=
  match x.entry.kind with
  | .strongroom => if x.state.standsOpen then 1 else 2
  | .plain | .noDoor => if cls.isStaff && x.slot.isSome then 2 else 1

/-- R86: check 11 fails. -/
def State.noCapacity (s : State) (p : Presentation) (cls : CredClass) : Option RoomReason :=
  let x := s.door p.door
  let z := x.entry.inner
  if z = 0 then none
  else
    let held := ((s.roster z).filter (fun e => e.number != p.number)).length
    let reserved := s.reservedIn (fun y => y == z) (fun c => c.number != p.number)
    let pool := s.poolCount + s.reservedIn (fun y => y != 0) (fun _ => true)
      - (if (s.standsIn p.number).isSome then 1 else 0)
    let needed := x.needed cls
    if (s.zone z).limit < held + reserved + needed then some .zone
    else if 240 < pool + needed then some .pool
    else none

/-- R87: the inner zone's roster holds staff. -/
def State.staffInside (s : State) (z : ZoneId) : Bool := (s.roster z).any (fun e => e.cls.isStaff)

/-- R87: the presentation needs an escort that is not there. -/
def State.needsEscort (s : State) (x : DoorEntry) (r : CredRecord) : Bool :=
  x.kind == .plain && !r.cls.isStaff && r.escortRequired && !s.staffInside x.inner

/-! ## Hand-off -/

def Presentation.direction (p : Presentation) : Direction :=
  match p.side with
  | .entry => .entry
  | .exit => .exit

/-- R89, R90: a grant is handed to DC and PE posts GRANT or DENY by its answer. DC's GRANT for an escort whose pairing the
grant completes comes after PE's (R110). -/
def State.handGrant (s : State) (p : Presentation) (list : List PassageCred) : State :=
  let g : Grant := { reader := p.reader, door := p.door, direction := p.direction, list }
  let escort := g.completes (s.door p.door)
  match s.takeGrant g with
  | (s, true) =>
    let x := (s.door p.door).entry
    let s := s.post .grant (door := some p.door)
      (zone := some (match p.side with | .entry => x.inner | .exit => x.outer))
      (subject := list.head?.map (fun c => Subject.credential c.number)) (reason := some p.direction.code)
    match escort with
    | some n => s.grantEscort p.door n
    | none => s
  | (s, false) => s.postPe .deny p (s.denyZone p) DenyReason.doorBusy.code

/-- R87 to R89: checks 12 to 14. -/
def State.handOff (s : State) (p : Presentation) (r : CredRecord) (duress : Bool) : State :=
  let x := (s.door p.door).entry
  if s.needsEscort x r then s.escortPresented p.door { reader := p.reader, number := p.number, cls := r.cls }
  else if x.kind = .strongroom then
    s.custodyPresented
      { reader := p.reader, door := p.door, number := p.number, cls := r.cls, schedule := r.schedule
        arrival := p.arrival, duress }
  else s.handGrant p [{ number := p.number, cls := r.cls }]

/-- R85, R86: checks 10 and 11, then the hand-off. -/
def State.checkZone (s : State) (p : Presentation) (r : CredRecord) (duress : Bool) : State :=
  if s.zoneLockedOut (s.door p.door).entry.inner then s.deny p .suppression
  else
    match s.noCapacity p r.cls with
    | some why => s.denyFull p why
    | none => s.handOff p r duress

/-- R84: check 9, then the rest. -/
def State.checkPassback (s : State) (p : Presentation) (r : CredRecord) (duress : Bool) : State :=
  match s.passbackZone p r with
  | none => s.checkZone p r duress
  | some z =>
    match (s.door p.door).entry.passback with
    | .strict => s.deny p .passback
    | .soft =>
      (s.post .passbackSoft (door := some p.door) (zone := some z)
        (subject := some (.credential p.number))).checkZone p r duress
    | .noCheck => s.checkZone p r duress

/-- R83: the duress notice. -/
def State.duressNotice (s : State) (p : Presentation) : State :=
  s.raiseAlarm (.duress p.number) (s.door p.door).entry.outer (some p.door)

/-- R79 to R83: checks 3 to 8 on the record, then the rest. -/
def State.checkCredential (s : State) (p : Presentation) (r : CredRecord) : State :=
  match s.checkRecord p r with
  | some why => if why = .status ∧ r.status = .lost then s.denyLost p else s.deny p why
  | none =>
    match s.checkPin (s.door p.door).entry r p.pin with
    | .fail why => s.deny p why
    | .duress => (s.duressNotice p).checkPassback p r true
    | .pass => s.checkPassback p r false

/-- R77: the entry decision from check 1, with the answer of the lookup. -/
def State.decideEntry (s : State) (p : Presentation) (a : Answer) : State :=
  if s.doorRefuses p.door then s.deny p .doorFault
  else
    match a with
    | .found slot => s.checkCredential p (recordOf slot)
    | .notEnrolled => s.deny p .notEnrolled
    | .storeFault => s.deny p .storeFault
    | .busy => s.deny p .storeBusy
    | .wait => s

/-- R90 step 2: the passage list of an exit. -/
def Presentation.exitList (p : Presentation) : Answer → List PassageCred
  | .found slot => [{ number := p.number, cls := (recordOf slot).cls }]
  | .notEnrolled | .storeFault | .busy | .wait => []

/-- R90: the exit decision, with the answer of the lookup. -/
def State.decideExit (s : State) (p : Presentation) (a : Answer) : State :=
  if (s.door p.door).entry.kind = .noDoor then s.deny p .doorFault else s.handGrant p (p.exitList a)

/-- R75: the decision with an answer. -/
def State.decidePresentation (s : State) (p : Presentation) (a : Answer) : State :=
  match p.side with
  | .entry => s.decideEntry p a
  | .exit => s.decideExit p a

/-- R73 test 2, R94: an entry is refused LIST_FULL; an exit is granted with an empty list. -/
def State.listFull (s : State) (p : Presentation) : State :=
  match p.side with
  | .entry => s.deny p .listFull
  | .exit => s.decideExit p .busy

/-! ## Arrival -/

/-- R74: the door refuses the presentation before a lookup is made (check 1, or step 1 of R90). -/
def State.refusedEarly (s : State) (p : Presentation) : Bool :=
  match p.side with
  | .entry => s.doorRefuses p.door
  | .exit => (s.door p.door).entry.kind == .noDoor

/-- R74, R94: the answer of the lookup is WAIT. -/
def State.waitForStore (s : State) (p : Presentation) : State :=
  if s.sp.restartWaiting then (s.setCsc (s.csc.withdraw (.reader p.reader))).listFull p
  else { s with pe := { s.pe with waiting := s.pe.waiting ++ [p] } }

/-- R74: a presentation in DECIDING obtains its record and is decided, or waits. -/
def State.present (s : State) (p : Presentation) : State :=
  if s.refusedEarly p then s.deny p .doorFault
  else if ¬ enrollable p.number then s.decidePresentation p .notEnrolled
  else
    match s.csc.lookup { requester := .reader p.reader, number := p.number } with
    | (c, .wait) => (s.setCsc c).waitForStore p
    | (c, a) => (s.setCsc c).decidePresentation p a

/-- R73: a presentation arrives, after its check-in notice: at a busy reader, at a full list, or to be decided. -/
def State.arrive (s : State) (p : Presentation) : State :=
  if s.pe.waiting.any (fun q => q.reader == p.reader) then s.display p.reader .wait
  else if 8 ≤ s.pe.waiting.length then s.listFull p
  else s.present p

/-- R71, R72: a BADGE frame. -/
def State.badgeReport (s : State) (reader : DevIx) (door : DoorId) (side : Side) (number issue : Nat)
    (pin : Option Nat) : State :=
  (s.badgeCheckIn door number).arrive { reader, door, side, number, issue, pin, arrival := s.uptime }

/-- R75: CSC gives the waiting presentation of a reader its answer. -/
def State.resume (s : State) (reader : DevIx) (a : Answer) : State :=
  match s.pe.waiting.find? (fun q => q.reader == reader) with
  | some p =>
    { s with pe := { s.pe with waiting := s.pe.waiting.filter (fun q => q.reader != reader) } }.decidePresentation p a
  | none => s

/-- R76: a reader's pending presentation is dropped. -/
def State.dropPresentation (s : State) (reader : DevIx) : State :=
  if s.pe.waiting.any (fun q => q.reader == reader) then
    { s.setCsc (s.csc.withdraw (.reader reader)) with
      pe := { s.pe with waiting := s.pe.waiting.filter (fun q => q.reader != reader) } }
  else s

end Sys2Proof.Machine
end

