-- ==== Sys2Proof/Machine/Restart.lean ====
section
/-! DEFINITION. The RESTART of every block (R26, R27, R47, R70, R94, R115, R136, R154, R179, R197, R211), in the order R211
names them (log 28). -/

namespace Sys2Proof.Machine

/-- R211: the restart condition. -/
def State.mayRestart (s : State) : Bool :=
  allChannels.all (fun c => (s.channel c).state.isQuiet) && s.sau.alarms.isEmpty

/-- R26: RM; a frame in transmission is sent to its end, and a sweep in transmission matches nothing later (log 27). -/
def Rm.restart (r : Rm) (now : Nat) : Rm :=
  { r with
    ring := .split, missCount := 0, returnCount := 0, queue := r.queue.take r.inTransmission
    tx := match r.tx with
      | .sweep number count _ => .sweep number count false
      | .entry ends => .entry ends
      | .idle => .idle
    sweepWaiting := false, pendingSweep := none, nextSweep := 0, sweepTimer := some (now + 2)
    silence := some (now + 10) }

/-- R27: the runtime part takes its power-on values, watched from now. -/
def Device.restart (x : Device) (uptime now : Nat) : Device :=
  { Device.powerOn with
    role := x.role, report := x.report, supervised := x.supervised, watchStart := uptime, since := now }

/-- R27, R25: FC; the owners of MISSING devices are told. -/
def State.restartFc (s : State) : State :=
  let missing := allDevices63.filter (fun d => (s.device d).presence == .missing)
  let t := allDevices63.foldl (fun t d => t.setDevice d ((t.device d).restart s.uptime s.csu.ticks)) s
  missing.foldl (fun t d => t.scPresence d (t.device d).role) t

/-- R70: what a running bucket read becomes. -/
def Csc.orphaned (c : Csc) : Port :=
  match c.port with
  | .fetch =>
    match c.queue with
    | r :: _ => .orphan r.attempt r.firstNumber
    | [] => .idle
  | .orphan attempt number => .orphan attempt number
  | .idle | .write => .idle

/-- R70: CSC; a waiting CRED LOOK is answered BUSY. -/
def State.restartCsc (s : State) : State :=
  let s := if s.csc.look.isSome then s.completeReply .look .busy [] else s
  s.setCsc { cache := [], queue := [], write := none, port := s.csc.orphaned, look := none }

/-- R115, R136: a door's runtime record. -/
def Door.restart (x : Door) : Door :=
  { Door.powerOn with
    entry := x.entry, state := if x.entry.kind = .strongroom then .secured else .locked }

/-- R115, R136: DC at one door: SC is told of the UNKNOWN contact, and the door is locked or bolted. -/
def State.restartDoor (s : State) (d : DoorId) : State :=
  let x := (s.door d).restart
  let s := s.setDoor d x
  match x.entry.kind with
  | .noDoor => s
  | .plain => (s.scDoorNotice d x.view).driveOpt x.entry.unit .lock
  | .strongroom => (s.scDoorNotice d x.view).driveBolt d .thrown

/-- R179: the sounders that SC silences. -/
def State.restartSounds (s : State) (r : DevRole) : Bool :=
  match r with
  | .sounderChannel _ => true
  | .sounderZone z => (s.channelOf z).isSome
  | .noDevice | .reader _ _ | .doorUnit _ | .detector _ _ | .abortStation _ | .releaseStation _ | .pendantReceiver _
  | .sounderFree | .display | .other => false

/-- R197: SAU at one zone: the alarm notice of a set flag; the timer ends, with TONE OFF from PROMPT, and what RU reported is
forgotten until it is announced again. The zones are taken in ascending order (log 28). -/
def State.restartZone (s : State) (z : ZoneId) : State :=
  let s := if s.alarmOverflow z then s.scAlarmNotice z true else s
  let s := s.goIdle z
  s.setLone z { s.lone z with count := 0, sole := none }

/-- R211: SP's own state. That the station receiver keeps the bytes of a frame under way, and SP the frame that waits for it, is
the model's: DESIGN CHOICE, log 44. -/
def Sp.restart (p : Sp) : Sp := { p with cursorTable := .device, cursorIndex := 0, restartWaiting := false }

/-- R211: RESTARTED and the restart cause. -/
def State.postRestarted (s : State) : State :=
  let s := s.post .restarted
  { s with sp := { s.sp with cause := .restartCommand } }

/-- R211: the RESTART takes effect; its reply is the caller's. The order of the blocks, and that of the doors, the
sounders and SAU's zones whose frames are originated (ascending), is the model's: DESIGN CHOICE, log 28. -/
def State.restartAll (s : State) : State :=
  let s := s.postRestarted
  let s := { s with rm := s.rm.restart s.csu.ticks }
  let s := s.restartFc.refreshAfterHours.restartCsc
  let s := { s with pe := { waiting := [] } }
  let s := allDoors.foldl State.restartDoor s
  let s := s.toneTo s.restartSounds .off
  let s := allZones.foldl State.restartZone s
  let s := { s with sp := s.sp.restart }
  s.reannounce

/-- R211: a RESTART that waited for a write is tested again when the write has ended. -/
def State.testRestart (s : State) : State :=
  if s.sp.restartWaiting then
    let s := { s with sp := { s.sp with restartWaiting := false } }
    if s.mayRestart then s.restartAll.completeReply .restart .accept [] else s.completeReply .restart .refusedState []
  else s

end Sys2Proof.Machine
end

