-- ==== Sys2Proof/Machine/StoreCycles.lean ====
section
/-! DEFINITION. CSC when a cycle of the store port ends (R52, R53, R59, R63 to R66), and the answers to waiters. -/

namespace Sys2Proof.Machine

/-- R68: the reply code and data of a CRED LOOK by its final answer. -/
def Answer.lookReply : Answer → ReplyCode × List Byte
  | .found slot => (.accept, slot)
  | .notEnrolled => (.notFound, [])
  | .storeFault => (.storeFault, [])
  | .busy => (.busy, [])
  | .wait => (.busy, [])

/-- R68: the waiting CRED LOOK is answered. -/
def State.answerLook (s : State) (a : Answer) : State :=
  (s.setCsc { s.csc with look := none }).completeReply .look a.lookReply.1 a.lookReply.2

/-- R53, R59: one waiter receives its answer. -/
def State.answerWaiter (s : State) (a : Waiter → Answer) (w : Waiter) : State :=
  match w.requester with
  | .reader d => s.resume d (a w)
  | .station => s.answerLook (a w)

/-- R59 step 3: the request leaves the queue and the port is handed on. -/
def State.leaveQueue (s : State) : State := s.setCsc ({ s.csc with queue := s.csc.queue.drop 1 }.handOn)

/-- R52: what a good read gives for a number of the request. -/
def FetchRequest.result (r : FetchRequest) (slots : List (List Byte)) (number : Nat) : CacheState :=
  match slotOf slots r.bucket number with
  | some b => .valid b
  | none => .negative

/-- The answer that a cache state gives (R56, R59). -/
def CacheState.answer : CacheState → Answer
  | .valid slot => .found slot
  | .negative => .notEnrolled
  | .fetching => .wait

/-- R57: the waiting numbers of one request. -/
def FetchRequest.numbers (r : FetchRequest) : List Nat := waitingNumbers [r]

/-- R59: a fetch ends with a good attempt. -/
def State.fetchGood (s : State) (r : FetchRequest) (slots : List (List Byte)) : State :=
  let s := s.setCsc (r.numbers.foldl (fun c n => c.install n (r.result slots n)) s.csc)
  (r.waiters.foldl (State.answerWaiter · (fun w => (r.result slots w.number).answer)) s).leaveQueue

/-- R53, R66: STORE_FAULT naming a credential. -/
def State.postStoreFault (s : State) (number : Nat) (r : StoreReason) : State :=
  s.post .storeFault (subject := some (.credential number)) (reason := some r.code)

/-- R53, R60: the number STORE_FAULT names, that of the first waiter the request had, withdrawn since or not (log 20). -/
def FetchRequest.named (r : FetchRequest) : Nat := r.firstNumber

/-- R53: the cache without the FETCHING entries of a request's numbers. -/
def Csc.dropFetching (c : Csc) (r : FetchRequest) : Csc :=
  { c with cache := c.cache.filter (fun e => !(e.state.isFetching && r.numbers.contains e.number)) }

/-- R53: a fetch ends as a store fault. -/
def State.fetchFault (s : State) (r : FetchRequest) : State :=
  let s := s.postStoreFault r.named .fetch
  let s := s.setCsc (s.csc.dropFetching r)
  (r.waiters.foldl (State.answerWaiter · (fun _ => .storeFault)) s).leaveQueue

/-- R66: how a credential write ends (Table 3-2). -/
inductive WriteEnd where
  | success
  | noSlot
  | fault (reason : StoreReason)
deriving DecidableEq, Repr

/-- Table 3-2: the reply. -/
def WriteEnd.reply (e : WriteEnd) (w : WriteRecord) : ReplyCode :=
  match e with
  | .success => if w.clamped then .acceptClamped else .accept
  | .noSlot => match w.op with | .put => .bucketFull | .drop => .notFound
  | .fault _ => .storeFault

/-- Table 3-2: the event. -/
def State.postWriteEnd (s : State) (w : WriteRecord) (e : WriteEnd) : State :=
  match e with
  | .success => s.post .credChanged (subject := some (.credential w.number)) (reason := some w.op.code)
  | .noSlot => s
  | .fault r => s.postStoreFault w.number r

/-- R66: a credential write ends; a RESTART that waited for it is tested again (R211). -/
def State.endWrite (s : State) (w : WriteRecord) (e : WriteEnd) : State :=
  let s := s.setCsc ({ s.csc with write := none }.handOn)
  ((s.completeReply .write (e.reply w) []).postWriteEnd w e).testRestart

/-- The write goes to its next stage. -/
def State.setStage (s : State) (w : WriteRecord) (stage : WriteStage) : State :=
  s.setCsc { s.csc with write := some { w with stage } }

/-- R53: the head request repeats its read. -/
def State.repeatFetch (s : State) (r : FetchRequest) : State :=
  s.setCsc { s.csc with queue := { r with attempt := 2 } :: s.csc.queue.drop 1 }

/-- R52, R53, R63, R70: a bucket read ends faulted. -/
def State.readEndsFaulted (s : State) : State :=
  match s.csc.port with
  | .idle => s
  | .fetch =>
    match s.csc.queue with
    | r :: _ => if r.attempt < 2 then s.repeatFetch r else s.fetchFault r
    | [] => s
  | .write =>
    match s.csc.write with
    | some w =>
      match w.stage with
      | .read attempt => if attempt < 2 then s.setStage w (.read 2) else s.endWrite w (.fault .fetch)
      | .waiting | .slotWrite _ | .readBack _ => s
    | none => s
  | .orphan attempt number =>
    if attempt < 2 then s.setCsc { s.csc with port := .orphan 2 number }
    else (s.postStoreFault number .fetch).setCsc s.csc.handOn

/-- R52, R59, R63, R70: a bucket read ends good. -/
def State.readEndsGood (s : State) (slots : List (List Byte)) : State :=
  match s.csc.port with
  | .idle => s
  | .fetch =>
    match s.csc.queue with
    | r :: _ => s.fetchGood r slots
    | [] => s
  | .write =>
    match s.csc.write with
    | some w =>
      match w.stage with
      | .read _ =>
        match targetSlot w.op w.number slots with
        | some k => s.setStage w (.slotWrite k)
        | none => s.endWrite w .noSlot
      | .waiting | .slotWrite _ | .readBack _ => s
    | none => s
  | .orphan _ _ => s.setCsc s.csc.handOn

/-- R52: a bucket read completes within its time. -/
def State.readCompletes (s : State) (slots : List (List Byte)) : State :=
  if readFaulted slots then s.readEndsFaulted else s.readEndsGood slots

/-- R64: the slot write completes within its time. -/
def State.slotWritten (s : State) : State :=
  match s.csc.write with
  | some w =>
    match w.stage with
    | .slotWrite k => s.setStage w (.readBack k)
    | .waiting | .read _ | .readBack _ => s
  | none => s

/-- R64: it does not. -/
def State.slotWriteFails (s : State) : State :=
  match s.csc.write with
  | some w =>
    match w.stage with
    | .slotWrite _ => s.endWrite w (.fault .writeTimeout)
    | .waiting | .read _ | .readBack _ => s
  | none => s

/-- R65: the read-back ends; `equal` says whether it gave the bytes written, in time. -/
def State.readBackEnds (s : State) (equal : WriteRecord → Bool) : State :=
  match s.csc.write with
  | some w =>
    match w.stage with
    | .readBack _ => s.endWrite w (if equal w then .success else .fault .readBack)
    | .waiting | .read _ | .slotWrite _ => s
  | none => s

end Sys2Proof.Machine
end

