-- ==== Sys2Proof/Machine/Frames.lean ====
section
/-! DEFINITION. FC and RM (chapter 1): a received loop frame from its check to its block, sweeps and silence, device
supervision, and station frames toward the loop. -/

namespace Sys2Proof.Machine

/-! ## The ring monitor -/

/-- R21: a sweep outcome in RM; the event of a change of ring state, if one comes. -/
def Rm.sweepOutcome (r : Rm) (returned : Bool) : Rm × Option EventKind :=
  match r.ring with
  | .closed =>
    if returned then ({ r with missCount := 0 }, none)
    else if r.missCount + 1 < 3 then ({ r with missCount := r.missCount + 1 }, none)
    else ({ r with ring := .split, missCount := 0, returnCount := 0 }, some .ringSplit)
  | .split =>
    if returned then
      if r.returnCount + 1 < 3 then ({ r with returnCount := r.returnCount + 1 }, none)
      else ({ r with ring := .closed, missCount := 0, returnCount := 0 }, some .ringClosed)
    else ({ r with returnCount := 0 }, none)
  | .dead => (r, none)

/-- R20, R21: the pending sweep ends. -/
def State.sweepEnds (s : State) (returned : Bool) : State :=
  match { s.rm with pendingSweep := none }.sweepOutcome returned with
  | (rm, some k) => { s with rm := rm }.post k
  | (rm, none) => { s with rm := rm }

/-- R2, R22: a valid frame restarts the silence timer, and the first one in DEAD makes the ring SPLIT. -/
def State.frameHeard (s : State) : State :=
  let s := { s with rm := { s.rm with silence := s.after 10 } }
  if s.rm.ring = .dead then { s with rm := { s.rm with ring := .split } }.post .ringAlive else s

/-- R22: the silence timer expires. -/
def State.silent (s : State) : State :=
  let s := { s with rm := { s.rm with silence := none } }
  if s.rm.ring = .dead then s
  else { s with rm := { s.rm with ring := .dead, missCount := 0, returnCount := 0 } }.post .ringDead

/-! ## Acceptance and supervision -/

/-- R7, R24, R11: an FC event names the address. -/
def State.postFc (s : State) (kind : EventKind) (d : DevIx) (reason : Option Nat := none) : State :=
  s.post kind (subject := some (.device d)) (reason := reason)

/-- R7: a foreign frame. -/
def State.foreignFrame (s : State) (d : DevIx) : State :=
  if (s.device d).foreign then s
  else (s.setDevice d { s.device d with foreign := true }).postFc .foreignDevice d

/-- R8: the frame repeats the SEQ of one accepted less than 2000 ms ago. -/
def State.isDuplicate (s : State) (x : Device) (f : Frame) : Bool :=
  x.lastSeq == some f.seq && decide (s.msSinceAccepted x < 2000)

/-- R11: a HEARTBEAT's health byte. -/
def State.healthReport (s : State) (d : DevIx) (health : Byte) : State :=
  let old := (s.device d).health
  let s := s.setDevice d { s.device d with health := health }
  if old = 0 ∧ health ≠ 0 then s.postFc .deviceTrouble d (some health.toNat)
  else if old ≠ 0 ∧ health = 0 then s.postFc .deviceTroubleCleared d
  else s

/-- R10: the frame is handed to its block. -/
def State.route (s : State) (d : DevIx) (r : Report) : State :=
  match r with
  | .badge door side number issue pin => s.badgeReport d door side number issue pin
  | .doorStatus door contact bolt handle => s.doorStatusReport door contact bolt handle
  | .detector c g level => s.detectorReport d c g level
  | .abortStation c held => s.setAbortStation d c held
  | .releaseStation c operated => s.releaseStationReport d c operated
  | .pendant z id kind => s.pendantReport z id kind
  | .heartbeat health => s.healthReport d health

/-- R8, R24, R25: an accepted frame updates the runtime part and ends MISSING. -/
def State.acceptFrame (s : State) (d : DevIx) (arrival : LoopEnd) (f : Frame) : State :=
  let x := s.device d
  let s := s.setDevice d
    { x with
      lastHeard := some s.uptime, lastSeq := some f.seq, acceptMs := s.uptimeMs, acceptTick := s.csu.ticks
      reach := some arrival, presence := .present, since := s.csu.ticks }
  if x.presence = .missing then (s.postFc .deviceReturned d).scPresence d x.role else s

/-- R7 to R12: a frame of a device address. -/
def State.deviceFrame (s : State) (d : DevIx) (arrival : LoopEnd) (f : Frame) : State :=
  let x := s.device d
  if x.role = .noDevice then s.foreignFrame d
  else if s.isDuplicate x f then s
  else
    let s := s.acceptFrame d arrival f
    let s := if x.report then s.forward { frame := f, arrival } else s
    match reportOf x.role f with
    | some r => s.route d r
    | none => s

/-- R20: the own frame is the return of the pending sweep. -/
def Rm.matchesSweep (r : Rm) (arrival : LoopEnd) (f : Frame) : Bool :=
  f.kind == kindSweep && arrival == .endB
    && (match f.payload, r.pendingSweep with | [n], some m => n == m | _, _ => false)

/-- R3: the address checks. -/
def State.classify (s : State) (arrival : LoopEnd) (f : Frame) : State :=
  if f.src = 0 then if s.rm.matchesSweep arrival f then s.sweepEnds true else s
  else
    match deviceAt f.src.toNat with
    | some d => if f.dst = 0 ∨ f.dst = stationAddress then s.deviceFrame d arrival f else s
    | none => s

/-- R1 to R3: the bytes up to the idle line at a loop end. R2 lets a valid frame restart the silence timer and reach the address
checks at once; in DEAD the model posts RING_ALIVE (R22) before the events that the frame itself causes: DESIGN CHOICE, log 15. -/
def State.loopBytes (s : State) (arrival : LoopEnd) (bytes : List Byte) : State :=
  match loopReceive bytes with
  | some f => s.frameHeard.classify arrival f
  | none => s

/-- R28, R8: the millisecond part of uptime has reached `ms` (log 4). -/
def State.reachMs (s : State) (ms : Nat) : State := { s with csu := { s.csu with ms := max s.csu.ms (min ms 999) } }

/-- R24: the 30 s are over. -/
def State.overdueDevice (s : State) (x : Device) : Bool :=
  x.role != .noDevice && x.supervised && x.presence != .missing && decide (x.since + 30 ≤ s.csu.ticks)

/-- R25: the owner is told that the device is MISSING. -/
def State.ownerOfMissing (s : State) (d : DevIx) (r : DevRole) : State :=
  match r with
  | .doorUnit door => s.doorUnitMissing door
  | .detector _ _ => s.scPresence d r
  | .abortStation _ => s.scPresence d r
  | .noDevice | .reader _ _ | .releaseStation _ | .pendantReceiver _ | .sounderFree | .sounderChannel _ | .sounderZone _
  | .display | .other => s

/-- R24, R25: a device becomes MISSING. DEVICE_MISSING is posted before the owner's own events, which no rule orders: DESIGN CHOICE,
log 15. -/
def State.deviceGone (s : State) (d : DevIx) : State :=
  let x := s.device d
  ((s.setDevice d { x with presence := .missing }).postFc .deviceMissing d).ownerOfMissing d x.role

/-! ## Station frames toward the loop -/

/-- R14: a DRIVE DISPLAY that the controller originated to the device stands in the queue. -/
def Rm.displayQueued (r : Rm) (d : DevIx) : Bool :=
  r.queue.any (fun e => e.origin == .originated && e.frame.outputCode == some 6 && e.device == some d)

/-- R14: the owned-output filter passes the destination. -/
def State.filterPasses (s : State) (d : DevIx) : Bool :=
  match (s.device d).role with
  | .sounderFree | .display | .other => true
  | .reader _ _ => !s.rm.displayQueued d
  | .noDevice | .doorUnit _ | .detector _ _ | .abortStation _ | .releaseStation _ | .pendantReceiver _
  | .sounderChannel _ | .sounderZone _ => false

/-- R15: a device that a broadcast reaches. -/
def DevRole.takesBroadcast : DevRole → Bool
  | .sounderFree | .display | .other => true
  | .noDevice | .reader _ _ | .doorUnit _ | .detector _ _ | .abortStation _ | .releaseStation _ | .pendantReceiver _
  | .sounderChannel _ | .sounderZone _ => false

/-- R16: admission of a group of frames, whole or not at all. -/
def State.admitFrames (s : State) (fs : List Frame) : State × ReplyCode :=
  if s.rm.queue.length + fs.length ≤ 24 then
    (s.setLoopQueue (s.rm.queue ++ fs.map (fun f => { frame := f, origin := .forwarded })), .accept)
  else (s, .loopBusy)

/-- R13 to R16: FC takes a station frame for the loop. -/
def State.stationToLoop (s : State) (f : Frame) : State × ReplyCode :=
  if f.kind = kindSweep then (s, .badValue)
  else if f.dst = allDevices then
    match (allDevices63.filter (fun d => (s.device d).role.takesBroadcast)).map
        (fun d => { f with dst := BitVec.ofNat 8 (addressOf d) }) with
    | [] => (s, .accept)
    | fs => s.admitFrames fs
  else
    match deviceAt f.dst.toNat with
    | none => (s, .notFound)
    | some d =>
      if (s.device d).role = .noDevice then (s, .notFound)
      else if s.filterPasses d then s.admitFrames [f]
      else (s, .ownedOutput)

end Sys2Proof.Machine
end

