-- ==== Sys2Proof/Machine/Lines.lean ====
section
/-! DEFINITION. SAU's line qualification (R180 to R182). -/

namespace Sys2Proof.Machine

/-- R180, R196: a LEVEL qualifier started from a raw level. -/
def freshLevel (raw : Bool) : Qualifier := .level false raw

/-- R181: a PULSE qualifier started from a raw level. -/
def freshPulse (raw : Bool) : Qualifier := .pulse (if raw then .spent else .ready) none

/-- R183: the qualifier of a function, started from a raw level. -/
def LineFunction.fresh (f : LineFunction) (raw : Bool) : Qualifier :=
  match f with
  | .unused => .unqualified
  | .staffButton _ => freshPulse raw
  | .zoneClearKey _ => freshLevel raw
  | .lockoutKey _ => freshLevel raw

/-- R180: a raw change of a LEVEL line; of a general input that is UNUSED the raw level alone is kept (log 24). A row that repeats the
raw level is no change (log 30). -/
def Line.levelChange (l : Line) (raw : Bool) : Line :=
  if raw = l.raw then l
  else
    match l.qualifier with
    | .level active _ => { raw, qualifier := .level active (raw != active) }
    | .unqualified => { l with raw := raw }
    | .pulse _ _ => l

/-- R181: a raw change of a PULSE line; `recovery` is the recovery timer as it would start now. A row that repeats the raw level is no
change, and restarts no timer (log 30). -/
def Line.pulseChange (l : Line) (raw : Bool) (recovery : Timer) : Line :=
  if raw = l.raw then l
  else
    match l.qualifier with
    | .pulse .ready t => { raw, qualifier := .pulse (if raw then .pressed else .ready) t }
    | .pulse .pressed t => { raw, qualifier := .pulse (if raw then .pressed else .ready) t }
    | .pulse .spent _ => { raw, qualifier := .pulse .spent (if raw then none else recovery) }
    | .unqualified => { l with raw := raw }
    | .level _ _ => l

/-- R182: a line notice is handed to the owner of the line's function. -/
def State.lineNotice (s : State) (l : InputLine) (active : Bool) : State :=
  match l with
  | .abort c => s.abortLineNotice c active
  | .valveConfirm c => s.valveNotice c active
  | .manualRelease _ => s
  | .general g =>
    match s.lineFunction g with
    | .zoneClearKey z => if active then s.clearKeyNotice z else s
    | .lockoutKey c => s.keyNotice g c active
    | .unused | .staffButton _ => s

/-- R180: the settle timer expires: the qualified level takes the raw level. -/
def State.settleExpired (s : State) (l : InputLine) : State :=
  let x := s.line l
  match x.qualifier with
  | .level _ true => (s.setLine l { x with qualifier := .level x.raw false }).lineNotice l x.raw
  | .level _ false | .unqualified | .pulse _ _ => s

/-- R182: a latch is handed to its owner. -/
def State.latchNotice (s : State) (l : InputLine) : State :=
  match l with
  | .manualRelease c => s.manualRelease c none
  | .general g =>
    match s.lineFunction g with
    | .staffButton z => s.raiseAlarm (.button g) z none
    | .unused | .zoneClearKey _ | .lockoutKey _ => s
  | .abort _ | .valveConfirm _ => s

/-- R181: the press timer expires in PRESSED: the line latches. -/
def State.pressExpired (s : State) (l : InputLine) : State :=
  let x := s.line l
  match x.qualifier with
  | .pulse .pressed _ => (s.setLine l { x with qualifier := .pulse .spent none }).latchNotice l
  | .pulse .ready _ | .pulse .spent _ | .unqualified | .level _ _ => s

/-- R181: the recovery timer expires in SPENT, once it is due (R29, log 31). -/
def State.recoveryExpired (s : State) (l : InputLine) : State :=
  let x := s.line l
  match x.qualifier with
  | .pulse .spent recovery => if s.due recovery then s.setLine l { x with qualifier := .pulse .ready none } else s
  | .pulse .ready _ | .pulse .pressed _ | .unqualified | .level _ _ => s

end Sys2Proof.Machine
end

