-- ==== Sys2Proof/Machine/Tables.lean ====
section
/-! DEFINITION. The nine tables of the cursor (chapter 10): the read form of each entry (Table 11-6) and the write of each
under its owner's rule (R5, R37, R96, R140, R156, R183). -/

namespace Sys2Proof.Machine

/-! ## References by number -/

def doorOf (n : Nat) : Option DoorId := if h : n < 16 then some ⟨n, h⟩ else none
def zoneOf (n : Nat) : Option ZoneId := if h : n < 12 then some ⟨n, h⟩ else none
def channelAt (n : Nat) : Option ChannelId := if h : n < 6 then some ⟨n, h⟩ else none
def schedOf (n : Nat) : Option SchedId := if h : n < 32 then some ⟨n, h⟩ else none
def inputOf (n : Nat) : Option GiId := if h : n < 8 then some ⟨n, h⟩ else none

/-- A tracked zone by number. -/
def trackedZoneOf (n : Nat) : Option ZoneId := if n = 0 then none else zoneOf n

/-! ## Read forms -/

/-- R214: a reader field. -/
def readerField : Option DevIx → List Byte
  | some d => bytes1 (addressOf d)
  | none => bytes1 0xFF

/-- DEVICE: 12 bytes. -/
def Device.bytes (x : Device) : List Byte :=
  bytes1 x.role.kindCode ++ bytes1 x.role.bindingA ++ bytes1 x.role.bindingB
    ++ bytes1 (boolCode x.report + 2 * boolCode x.supervised + 4 * boolCode x.foreign + 8 * boolCode x.lastHeard.isSome)
    ++ bytes1 x.presence.code ++ bytes1 (reachCode x.reach) ++ [x.health] ++ bytes4 (x.lastHeard.getD 0)
    ++ bytes1 (match x.lastSeq with | some q => q.toNat | none => 0xFF)

/-- DOOR, write form: 17 bytes. -/
def DoorEntry.bytes (e : DoorEntry) : List Byte :=
  bytes1 e.kind.code ++ bytes1 e.outer.val ++ bytes1 e.inner.val ++ readerField e.entryReader
    ++ readerField e.exitReader ++ bytes1 (match e.unit with | some d => addressOf d | none => 0)
    ++ bytes1 e.schedule.val ++ bytes1 e.unlockWindow ++ bytes2 e.heldLimit ++ bytes1 e.pinMode.code
    ++ bytes1 e.passback.code ++ bytes1 e.pairing ++ bytes2 e.timeDelay ++ bytes2 e.confirmWindow

/-- The credential at a place of a passage list, 0 when absent. -/
def Door.passageNumber (x : Door) (i : Nat) : Nat :=
  match x.passage with
  | some p => match p.list[i]? with | some c => c.number | none => 0
  | none => 0

/-- The credential in the pairing slot, or custodian A's. -/
def Door.pairingNumber (x : Door) : Nat :=
  match x.slot with
  | some e => e.number
  | none => match x.custodyA with | some a => a.number | none => 0

/-- DOOR: 34 bytes. -/
def Door.bytes (x : Door) : List Byte :=
  x.entry.bytes ++ bytes1 (doorStateCode x.entry.kind x.state) ++ bytes1 x.contact.code
    ++ bytes1 (boltReportCode x.bolt) ++ bytes1 (x.boltCommand.code + 2 * boolCode x.mismatch)
    ++ bytes1 (match x.passage with | some p => p.direction.code | none => 0)
    ++ bytes3 (x.passageNumber 0) ++ bytes3 (x.passageNumber 1) ++ bytes3 x.pairingNumber
    ++ bytes3 (match x.custodyB with | some b => b.number | none => 0)

/-- ZONE: 9 bytes. -/
def State.zoneBytes (s : State) (z : ZoneId) : List Byte :=
  let e := s.zone z
  bytes1 e.limit ++ bytes1 e.staffed.val ++ bytes1 e.checkIn ++ bytes2 e.grace
    ++ bytes1 (match s.channelOf z with | some c => c.val | none => 0xFF)
    ++ bytes1 (s.zoneStatus z).code ++ bytes1 (s.roster z).length ++ bytes1 (boolCode (s.afterHours z))

/-- R155: the map of latched detectors, bit n for address n. -/
def State.latchMap (s : State) (c : ChannelId) : Nat :=
  (allDevices63.map fun d =>
    if (s.device d).role.isDetectorOf c && (s.scDev d).latch then 2 ^ addressOf d else 0).sum

/-- CHANNEL: 21 bytes. -/
def State.channelBytes (s : State) (c : ChannelId) : List Byte :=
  let ch := s.channel c
  bytes1 (match ch.zone with | some z => z.val | none => 0xFF) ++ bytes1 ch.countdownLength
    ++ bytes1 ch.abortMode.code ++ bytes1 (coincidenceCode ch.coincidence) ++ bytes1 ch.driveTime
    ++ bytes1 ch.confirmTimeout ++ bytes2 ch.soakTime ++ bytes1 ch.state.code ++ bytes1 ch.countdown
    ++ bytes1 ch.hold.code ++ bytes1 ch.flags.code
    ++ bytes1 (boolCode ch.soakComplete + 2 * boolCode ch.stationLockout + 4 * boolCode (s.keyDemand c)
      + 8 * boolCode ch.abortSeen)
    ++ bytes8 (s.latchMap c)

/-- One slot of a schedule; an empty slot has mask 0. -/
def slotBytes : Option SchedSlot → List Byte
  | some x => x.mask :: bytes2 x.start ++ bytes2 x.length
  | none => List.replicate 5 0

/-- SCHEDULE: 21 bytes; the ALWAYS mark is that of entry 0 (R36). -/
def State.scheduleBytes (s : State) (n : SchedId) : List Byte :=
  (s.csu.schedules.get n).toList.flatMap slotBytes ++ bytes1 (boolCode (n == 0))

/-- LINE: 3 bytes. -/
def State.lineBytes (s : State) (g : GiId) : List Byte :=
  bytes1 (s.lineFunction g).code ++ bytes1 (s.lineFunction g).binding
    ++ bytes1 (s.line (.general g)).qualifier.code

/-- HOLIDAY: 3 bytes. -/
def State.holidayBytes (s : State) (i : Nat) : List Byte :=
  match s.csu.holidays[i]? with
  | some d => bytes1 1 ++ bytes2 d
  | none => List.replicate 3 0

/-- R138: the roster entries in zone order. -/
def State.rosterInOrder (s : State) : List (ZoneId × RosterEntry) :=
  trackedZones.flatMap (fun z => (s.roster z).map (fun e => (z, e)))

/-- ROSTER: 10 bytes. -/
def State.rosterBytes (s : State) (i : Nat) : List Byte :=
  match s.rosterInOrder[i]? with
  | some (z, e) =>
    bytes3 e.number ++ bytes1 z.val ++ bytes1 e.cls.code ++ bytes4 e.entered ++ bytes1 (boolCode e.custodian)
  | none => List.replicate 10 0

def AlarmIdentity.number : AlarmIdentity → Option Nat
  | .duress n | .overdue n => some n
  | .personal _ | .manDown _ | .button _ => none

def AlarmIdentity.pendant : AlarmIdentity → Option Nat
  | .personal p | .manDown p => some p
  | .duress _ | .overdue _ | .button _ => none

def AlarmIdentity.line : AlarmIdentity → Option GiId
  | .button g => some g
  | .duress _ | .overdue _ | .personal _ | .manDown _ => none

/-- ALARM: 24 bytes; the presence byte is a free value (log 8). -/
def AlarmRecord.bytes (r : AlarmRecord) : List Byte :=
  bytes1 r.number ++ bytes1 r.identity.kindCode ++ bytes1 r.zone.val ++ bytes3 (r.identity.number.getD 0)
    ++ bytes2 (r.identity.pendant.getD 0) ++ bytes1 (match r.identity.line with | some g => g.val | none => 0)
    ++ bytes1 (match r.door with | some d => d.val | none => 0)
    ++ [Config.alarmPresence r.identity.number.isSome r.identity.pendant.isSome r.identity.line.isSome r.door.isSome
      r.acked.isSome]
    ++ bytes1 (boolCode r.acked.isSome) ++ r.raised.bytes
    ++ (match r.acked with | some t => t.bytes | none => List.replicate 6 0)

/-- R204: the entry of a table at an index inside it. -/
def State.entryBytes (s : State) (t : TableId) (i : Nat) : List Byte :=
  match t with
  | .device => match deviceAt (i + 1) with | some d => (s.device d).bytes | none => []
  | .door => match doorOf i with | some d => (s.door d).bytes | none => []
  | .zone => match zoneOf i with | some z => s.zoneBytes z | none => []
  | .channel => match channelAt i with | some c => s.channelBytes c | none => []
  | .schedule => match schedOf i with | some n => s.scheduleBytes n | none => []
  | .line => match inputOf i with | some g => s.lineBytes g | none => []
  | .holiday => s.holidayBytes i
  | .roster => s.rosterBytes i
  | .alarm => match s.sau.alarms[i]? with | some r => r.bytes | none => List.replicate 24 0

/-! ## DEVICE writes (R5) -/

/-- R5 checks 1 and 2: the kind and binding that a write names. That a binding byte the kind does not use may have any value, and
is not kept, is the model's: DESIGN CHOICE, log 43. -/
def roleOf (kind a b : Nat) : Option DevRole :=
  match kind with
  | 0 => some .noDevice
  | 1 => if b ≤ 1 then (doorOf a).map (fun d => .reader d (if b = 0 then .entry else .exit)) else none
  | 2 => (doorOf a).map .doorUnit
  | 3 => if b ≤ 1 then (channelAt a).map (fun c => .detector c (if b = 0 then .groupA else .groupB)) else none
  | 4 => (channelAt a).map .abortStation
  | 5 => (channelAt a).map .releaseStation
  | 6 => (zoneOf a).map .pendantReceiver
  | 7 =>
    match b with
    | 0 => some .sounderFree
    | 1 => (channelAt a).map .sounderChannel
    | 2 => (trackedZoneOf a).map .sounderZone
    | _ => none
  | 8 => some .display
  | 9 => some .other
  | _ => none

/-- R5 check 3: a role that one device alone may hold. -/
def DevRole.exclusive : DevRole → Bool
  | .reader _ _ | .doorUnit _ => true
  | .noDevice | .detector _ _ | .abortStation _ | .releaseStation _ | .pendantReceiver _ | .sounderFree
  | .sounderChannel _ | .sounderZone _ | .display | .other => false

/-- R5 check 3: a door of kind other than NONE that names the address in a role the new one does not fit. -/
def Door.contradicts (x : Door) (door : DoorId) (d : DevIx) (r : DevRole) : Bool :=
  x.entry.kind != .noDoor
    && ((x.entry.entryReader == some d && r != .reader door .entry)
      || (x.entry.exitReader == some d && r != .reader door .exit)
      || (x.entry.unit == some d && r != .doorUnit door))

/-- R5 check 3. -/
def State.roleContradicts (s : State) (d : DevIx) (r : DevRole) : Bool :=
  (r.exclusive && allDevices63.any (fun e => e != d && (s.device e).role == r))
    || allDoors.any (fun k => (s.door k).contradicts k d r)

/-- R5, R96: a door state that permits a write. -/
def DoorState.writable : DoorState → Bool
  | .locked | .secured | .fault => true
  | .unlocked | .opened | .heldOpen | .forced | .custodyWait | .delay | .confirmWait | .unbolted => false

/-- R5, R96: the door permits a write. -/
def Door.writable (x : Door) : Bool := x.state.writable && x.slot.isNone

/-- R5 check 4: the state of what a binding names permits the write. -/
def State.roleWritable (s : State) (r : DevRole) : Bool :=
  match r with
  | .reader d _ | .doorUnit d => (s.door d).writable
  | .detector c _ | .abortStation c | .releaseStation c | .sounderChannel c => (s.channel c).state.isQuiet
  | .noDevice | .pendantReceiver _ | .sounderFree | .sounderZone _ | .display | .other => true

/-- R5, R25, R76, R158, R159, R163, R176: an accepted DEVICE write. -/
def State.storeDevice (s : State) (d : DevIx) (r : DevRole) (flags : Byte) : State :=
  let x := s.device d
  let s := s.setDevice d
    { x with
      role := r, report := flags.getLsbD 0, supervised := flags.getLsbD 1, presence := .unseen
      watchStart := s.uptime, since := s.csu.ticks, foreign := false, health := 0 }
  let s := s.setScDev d ScDevice.powerOn
  ((s.scPresence d x.role).scPresence d r).dropPresentation d

/-- R5: a DEVICE entry is written. -/
def State.writeDevice (s : State) (d : DevIx) (b : List Byte) : State × ReplyCode :=
  match roleOf (field b 0 1) (field b 1 1) (field b 2 1) with
  | none => (s, .badValue)
  | some r =>
    if s.roleContradicts d r then (s, .badValue)
    else if ¬ (s.roleWritable (s.device d).role && s.roleWritable r) then (s, .refusedState)
    else (s.storeDevice d r (byteAt b 3), .accept)

/-! ## DOOR writes (R96, R135) -/

/-- A field outside its range. -/
def outside (low high n : Nat) : Bool := decide (n < low) || decide (high < n)

def clampCode (clamped : Bool) : ReplyCode := if clamped then .acceptClamped else .accept

/-- Table 5-1: the number fields of a DOOR write with their ranges: window, held limit, pairing, delay, confirm. -/
def doorClamped (b : List Byte) : Bool :=
  outside 3 60 (field b 7 1) || outside 10 600 (field b 8 2) || outside 5 120 (field b 12 1)
    || outside 60 3600 (field b 13 2) || outside 30 900 (field b 15 2)

/-- R96 check 1. -/
def doorKindOf : Nat → Option DoorKind
  | 0 => some .noDoor
  | 1 => some .plain
  | 2 => some .strongroom
  | _ => none

/-- R96 check 1. -/
def pinModeOf : Nat → Option PinMode
  | 0 => some .never
  | 1 => some .always
  | 2 => some .afterHours
  | _ => none

/-- R96 check 1. -/
def passbackOf : Nat → Option PassbackMode
  | 0 => some .noCheck
  | 1 => some .soft
  | 2 => some .strict
  | _ => none

/-- R96 check 2: the address's device entry holds the role. -/
def State.holdsRole (s : State) (address : Nat) (r : DevRole) : Option DevIx :=
  match deviceAt address with
  | some d => if (s.device d).role = r then some d else none
  | none => none

/-- R96 check 2: an exit reader, absent (0xFF) or a READER bound to the EXIT side; `none` is a refusal. -/
def State.exitReaderOf (s : State) (door : DoorId) (code : Nat) : Option (Option DevIx) :=
  if code = 0xFF then some none else (s.holdsRole code (.reader door .exit)).map some

/-- R96: the entry a write of kind PLAIN or STRONGROOM stores, its numbers clamped; none when check 2 refuses. -/
def State.doorEntryOf (s : State) (door : DoorId) (kind : DoorKind) (pin : PinMode) (passback : PassbackMode)
    (b : List Byte) : Option DoorEntry :=
  match zoneOf (field b 1 1), zoneOf (field b 2 1), schedOf (field b 6 1) with
  | some outer, some inner, some schedule =>
    match s.holdsRole (field b 3 1) (.reader door .entry), s.exitReaderOf door (field b 4 1),
        s.holdsRole (field b 5 1) (.doorUnit door) with
    | some entryReader, some exitReader, some unit =>
      if outer = inner then none
      else
        some
          { kind, outer, inner, entryReader := some entryReader, exitReader, unit := some unit, schedule
            unlockWindow := clamp 3 60 (field b 7 1), heldLimit := clamp 10 600 (field b 8 2), pinMode := pin
            passback, pairing := clamp 5 120 (field b 12 1), timeDelay := clamp 60 3600 (field b 13 2)
            confirmWindow := clamp 30 900 (field b 15 2) }
    | _, _, _ => none
  | _, _, _ => none

/-- The door unit's presence is MISSING. -/
def State.unitMissing (s : State) (e : DoorEntry) : Bool :=
  match e.unit with
  | some d => (s.device d).presence == .missing
  | none => false

/-- R96, R135: the runtime record of an accepted write, before its frames; the bolt report is kept (log 23). -/
def State.writtenDoor (s : State) (x : Door) (e : DoorEntry) : Door :=
  let kept := decide (e.unit = x.entry.unit) && x.entry.kind != .noDoor
  { Door.powerOn with
    entry := e
    contact := if kept then x.contact else .unknown
    bolt := x.bolt
    state := match e.kind with
      | .noDoor => .locked
      | .plain => if s.unitMissing e then .fault else .locked
      | .strongroom => if s.unitMissing e then .fault else .secured }

/-- R96, R117, R135: an accepted DOOR write. -/
def State.storeDoor (s : State) (d : DoorId) (e : DoorEntry) : State :=
  let x := s.writtenDoor (s.door d) e
  let s := s.setDoor d x
  let s :=
    match e.kind with
    | .noDoor => s
    | .plain => if x.state = DoorState.fault then s else s.driveOpt e.unit .lock
    | .strongroom => if x.state = DoorState.fault then s.setBolt d .thrown else s.driveBolt d .thrown
  s.scDoorNotice d x.view

/-- R96: a DOOR entry is written. -/
def State.writeDoor (s : State) (d : DoorId) (b : List Byte) : State × ReplyCode :=
  match doorKindOf (field b 0 1), pinModeOf (field b 10 1), passbackOf (field b 11 1) with
  | some kind, some pin, some passback =>
    let e : Option DoorEntry :=
      match kind with
      | .noDoor => some DoorEntry.powerOn
      | .plain => s.doorEntryOf d kind pin passback b
      | .strongroom => s.doorEntryOf d kind pin passback b
    match e with
    | none => (s, .badValue)
    | some e =>
      if (s.door d).writable then (s.storeDoor d e, clampCode (doorClamped b)) else (s, .refusedState)
  | _, _, _ => (s, .badValue)

/-! ## ZONE, CHANNEL, SCHEDULE and LINE writes -/

/-- R140: a ZONE entry is written. -/
def State.writeZone (s : State) (z : ZoneId) (b : List Byte) : State × ReplyCode :=
  if z = 0 then (s, .badIndex)
  else
    match schedOf (field b 1 1) with
    | none => (s, .badValue)
    | some staffed =>
      let e : ZoneEntry :=
        { limit := clamp 1 64 (field b 0 1), staffed, checkIn := clamp 5 120 (field b 2 1)
          grace := clamp 30 600 (field b 3 2) }
      let clamped := outside 1 64 (field b 0 1) || outside 5 120 (field b 2 1) || outside 30 600 (field b 3 2)
      let t := s.setZone z e
      (if staffed = (s.zone z).staffed then t else t.refreshAfterHours, clampCode clamped)

/-- R156 check 3: the zone a CHANNEL write names: 0xFF codes NONE; the outer `none` is a refusal. -/
def State.channelZoneOf (s : State) (c : ChannelId) (code : Nat) : Option (Option ZoneId) :=
  if code = 0xFF then some none
  else
    match trackedZoneOf code with
    | none => none
    | some z => if allChannels.any (fun k => k != c && (s.channel k).zone == some z) then none else some (some z)

/-- R156: the state after an accepted CHANNEL write. -/
def ChannelState.afterWrite (st : ChannelState) (zone : Option ZoneId) : ChannelState :=
  if st = .lockedOut then .lockedOut else if zone.isSome then .normal else .unused

/-- R156: a CHANNEL entry is written. -/
def State.writeChannel (s : State) (c : ChannelId) (b : List Byte) : State × ReplyCode :=
  let ch := s.channel c
  if ¬ ch.state.isQuiet then (s, .refusedState)
  else if 1 < field b 2 1 ∨ 1 < field b 3 1 then (s, .badValue)
  else
    match s.channelZoneOf c (field b 0 1) with
    | none => (s, .badValue)
    | some zone =>
      let clamped := outside 10 120 (field b 1 1) || outside 5 120 (field b 4 1) || outside 1 30 (field b 5 1)
        || outside 300 7200 (field b 6 2)
      let t := s.setChannel c
        { ch with
          zone, countdownLength := clamp 10 120 (field b 1 1)
          abortMode := if field b 2 1 = 0 then .pause else .restart
          coincidence := decide (field b 3 1 = 0), driveTime := clamp 5 120 (field b 4 1)
          confirmTimeout := clamp 1 30 (field b 5 1), soakTime := clamp 300 7200 (field b 6 2)
          state := ch.state.afterWrite zone }
      (t.recompute c, clampCode clamped)

/-- R37: one slot of a SCHEDULE write. -/
def schedSlotOf (b : List Byte) : Option SchedSlot :=
  if byteAt b 0 = 0 then none
  else some { mask := byteAt b 0, start := min (field b 1 2) 1439, length := clamp 1 1440 (field b 3 2) }

/-- R37: a value of the slot is clamped. -/
def schedSlotClamped (b : List Byte) : Bool :=
  byteAt b 0 != 0 && (decide (1439 < field b 1 2) || outside 1 1440 (field b 3 2))

/-- R36, R37: a SCHEDULE entry is written. -/
def State.writeSchedule (s : State) (n : SchedId) (b : List Byte) : State × ReplyCode :=
  if n = 0 then (s, .badIndex)
  else
    let part (i : Nat) : List Byte := slice b (5 * i) 5
    let sched : Schedule := Vector.ofFn (fun i : Fin 4 => schedSlotOf (part i.val))
    let t := { s with csu := { s.csu with schedules := s.csu.schedules.set n sched n.isLt } }
    (t.refreshAfterHours, clampCode ((List.range 4).any (fun i => schedSlotClamped (part i))))

/-- R183: the function a LINE write names. UNUSED has no binding: any byte is accepted there and none is kept: DESIGN CHOICE,
log 42. -/
def lineFunctionOf (function binding : Nat) : Option LineFunction :=
  match function with
  | 0 => some .unused
  | 1 => (zoneOf binding).map .staffButton
  | 2 => (trackedZoneOf binding).map .zoneClearKey
  | 3 => (channelAt binding).map .lockoutKey
  | _ => none

/-- R183 step 1: a LOCKOUT KEY that ends while ACTIVE is reported INACTIVE. -/
def State.endFunction (s : State) (g : GiId) : State :=
  match s.lineFunction g, (s.line (.general g)).qualifier with
  | .lockoutKey c, .level true _ => s.keyNotice g c false
  | _, _ => s

/-- R183: a LINE entry is written. -/
def State.writeLine (s : State) (g : GiId) (b : List Byte) : State × ReplyCode :=
  match lineFunctionOf (field b 0 1) (field b 1 1) with
  | none => (s, .badValue)
  | some f =>
    let s := (s.endFunction g).setLineFunction g f
    let x := s.line (.general g)
    (s.setLine (.general g) { x with qualifier := f.fresh x.raw }, .accept)

/-- R205: the owner checks and applies the entry at an index inside a writable table. -/
def State.writeEntry (s : State) (t : TableId) (i : Nat) (b : List Byte) : State × ReplyCode :=
  match t with
  | .device => match deviceAt (i + 1) with | some d => s.writeDevice d b | none => (s, .badIndex)
  | .door => match doorOf i with | some d => s.writeDoor d b | none => (s, .badIndex)
  | .zone => match zoneOf i with | some z => s.writeZone z b | none => (s, .badIndex)
  | .channel => match channelAt i with | some c => s.writeChannel c b | none => (s, .badIndex)
  | .schedule => match schedOf i with | some n => s.writeSchedule n b | none => (s, .badIndex)
  | .line => match inputOf i with | some g => s.writeLine g b | none => (s, .badIndex)
  | .holiday => (s, .badTable)
  | .roster => (s, .badTable)
  | .alarm => (s, .badTable)

end Sys2Proof.Machine
end

