-- ==== Sys2Proof/Machine/Station.lean ====
section
/-! DEFINITION. SP and the management commands (chapter 10): one body per command, the reply place each takes (R200), the
decoding of a COMMAND payload (R201), the station receiver (R198, R199) and the end of a station frame (R209). -/

namespace Sys2Proof.Machine

/-- R200: what a command answers: at once, or when its block has ended the work. -/
inductive Reply where
  | now (code : ReplyCode) (data : List Byte)
  | later (owner : ReplyOwner)
deriving DecidableEq, Repr

/-- The work of a command once it has its place. -/
abbrev Body := State → State × Reply

/-- A reply code alone. -/
def answer (r : State × ReplyCode) : State × Reply := (r.1, .now r.2 [])

/-- A refusal that changes nothing. -/
def State.no (s : State) (c : ReplyCode) : State × Reply := (s, .now c [])

/-- ACCEPT with no data. -/
def State.yes (s : State) : State × Reply := (s, .now .accept [])

/-! ## The cursor (R203 to R205) -/

def State.setCursor (s : State) (t : TableId) (i : Nat) : State :=
  { s with sp := { s.sp with cursorTable := t, cursorIndex := i } }

/-- R203: TABLE POINT. -/
def cmdTablePoint (table index : Byte) : Body := fun s =>
  match tableOf table with
  | none => s.no .badTable
  | some t => if index.toNat < t.entries then (s.setCursor t index.toNat).yes else s.no .badIndex

/-- R204: the number of entries a TABLE READ returns. -/
def readCount (t : TableId) (index count : Nat) : Nat := min (min count (t.entries - index)) t.perReply

/-- R204: the end of the table cut the read short, or would have cut it to the same number. -/
def readCutByEnd (t : TableId) (index count : Nat) : Bool :=
  decide (t.entries - index < count) && decide (t.entries - index ≤ t.perReply)

/-- R204: TABLE READ. -/
def cmdTableRead (count : Byte) : Body := fun s =>
  let t := s.sp.cursorTable
  let i := s.sp.cursorIndex
  let n := readCount t i count.toNat
  if count.toNat = 0 ∨ 4 < count.toNat then s.no .badValue
  else
    (s.setCursor t (i + n),
      .now (if readCutByEnd t i count.toNat then .badIndex else .accept)
        (bytes1 t.code ++ bytes1 i ++ bytes1 n ++ (List.range n).flatMap (fun k => s.entryBytes t (i + k))))

/-- R205: the payload cut into `n` entries. -/
def entriesOf (size n : Nat) (l : List Byte) : List (List Byte) := (List.range n).map (fun i => slice l (i * size) size)

/-- R205: one entry is handed to the owner and the cursor moves on; at the end of the table nothing is processed. -/
def writeNext (t : TableId) (r : State × List ReplyCode) (b : List Byte) : State × List ReplyCode :=
  let i := r.1.sp.cursorIndex
  if i < t.entries then
    let w := r.1.writeEntry t i b
    (w.1.setCursor t (i + 1), r.2 ++ [w.2])
  else r

/-- R205: the overall code of a TABLE WRITE of `n` entries. -/
def overallCode (codes : List ReplyCode) (n : Nat) : ReplyCode :=
  if codes.length < n then .badIndex else (codes.find? (fun c => c != .accept)).getD .accept

/-- R205: TABLE WRITE. -/
def cmdTableWrite (entries : List Byte) : Body := fun s =>
  let t := s.sp.cursorTable
  match t.writeSize with
  | none => s.no .badTable
  | some size =>
    let n := entries.length / size
    if entries = [] ∨ entries.length ≠ n * size then s.no .badValue
    else
      let r := (entriesOf size n entries).foldl (writeNext t) (s, [])
      (r.1, .now (overallCode r.2 n) (r.2.map (fun c => BitVec.ofNat 8 c.code)))

/-! ## Credentials (R61, R68) -/

/-- R61: a checked write is taken when none is in flight. -/
def State.takeWrite (s : State) (w : WriteRecord) : State × Reply :=
  if s.csc.write.isSome then s.no .busy else (s.setCsc (s.csc.takeWrite w), .later .write)

/-- R61: CRED PUT. -/
def cmdCredPut (slot : List Byte) : Body := fun s =>
  if enrollable (field slot 0 3) && putGood slot then
    s.takeWrite
      { op := .put, number := field slot 0 3, bytes := putBytes slot, clamped := putClamped slot, stage := .waiting }
  else s.no .badValue

/-- R61: CRED DROP. -/
def cmdCredDrop (number : Nat) : Body := fun s =>
  if enrollable number then
    s.takeWrite { op := .drop, number, bytes := dropBytes, clamped := false, stage := .waiting }
  else s.no .badValue

/-- R68: CRED LOOK, a lookup as a presentation makes one. R68 ends with a CRED LOOK taken while a write to the bucket is in flight
being answered after the write, and R61 calls a WAITING write in flight too; that a look taken during WAITING is answered as R67
has it, from the entry or by the read that runs before the write, is the model's: DESIGN CHOICE, log 47. -/
def cmdCredLook (number : Nat) : Body := fun s =>
  if ¬ enrollable number then s.no .badValue
  else if s.csc.look.isSome then s.no .busy
  else
    match s.csc.lookup { requester := .station, number } with
    | (c, .wait) => (s.setCsc { c with look := some number }, .later .look)
    | (c, a) => (s.setCsc c, .now a.lookReply.1 a.lookReply.2)

/-! ## Clock and holidays (R35, R38, R39) -/

def State.setHolidays (s : State) (l : List Nat) : State := { s with csu := { s.csu with holidays := l } }

/-- R38: HOLIDAY ADD. -/
def cmdHolidayAdd (day : BitVec 16) : Body := fun s =>
  if s.csu.holidays.contains day.toNat then s.yes
  else if 32 ≤ s.csu.holidays.length then s.no .tableFull
  else (s.setHolidays (insertDay day.toNat s.csu.holidays)).refreshAfterHours.yes

/-- R39: HOLIDAY DROP. -/
def cmdHolidayDrop (day : BitVec 16) : Body := fun s =>
  if s.csu.holidays.contains day.toNat then
    (s.setHolidays (s.csu.holidays.filter (fun d => d != day.toNat))).refreshAfterHours.yes
  else s.no .notFound

/-- R35: the clock takes the three values. -/
def Csu.setClock (c : Csu) (day weekday second : Nat) : Csu :=
  { c with day, weekday := min weekday 6, second := min second 86399, clock := .set, epochEnd := false }

/-- R35, R46: CLOCK SET. That CLOCK_SET is posted before SAU acts on the flags that the command changes is the model's: DESIGN CHOICE,
log 15. -/
def cmdClockSet (day : BitVec 16) (weekday : Byte) (second : BitVec 24) : Body := fun s =>
  let c := s.csu.setClock day.toNat weekday.toNat second.toNat
  let clamped := decide (6 < weekday.toNat) || decide (86399 < second.toNat)
  (({ s with csu := c }.post .clockSet).refreshAfterHours,
    .now (clampCode clamped) (bytes2 c.day ++ bytes1 c.weekday ++ bytes3 c.second))

/-! ## Zones (R147 to R149) -/

/-- R148, R149: a verification by the station. -/
def verifyBody (zone : Byte) (r : VerifyReason) : Body := fun s =>
  match trackedZoneOf zone.toNat with
  | none => s.no .badIndex
  | some z => if s.zoneReleasing z then s.no .refusedState else (s.verify z r).yes

/-- R148: ZONE VERIFY CLEAR. -/
def cmdZoneVerifyClear (zone : Byte) : Body := verifyBody zone .clear

/-- R149: ZONE VERIFY KEEP. -/
def cmdZoneVerifyKeep (zone : Byte) : Body := verifyBody zone .keep

/-- R147: ZONE UNKNOWN. -/
def cmdZoneUnknown (zone : Byte) : Body := fun s =>
  match trackedZoneOf zone.toNat with
  | none => s.no .badIndex
  | some z => (s.zoneNotices (s.makeUnknown z .station)).yes

/-! ## Channels (R173 to R175) -/

/-- R173: the states CHANNEL RESET ends. -/
def Channel.resettable (ch : Channel) : Bool :=
  match ch.state with
  | .firstAlarm | .preDischarge | .held => true
  | .discharged => ch.soakComplete
  | .unused | .normal | .releasing | .lockedOut => false

/-- R173: an active channel is reset. -/
def State.resetChannel (s : State) (c : ChannelId) : State :=
  let old := (s.channel c).state.tone
  let s := s.clearLatches c
  let ch := s.channel c
  let s := s.setChannel c
    { ch with
      countdown := 0, countdownDue := false, soak := none, soakComplete := false, abortSeen := false
      flags := { ch.flags with confirmFailed := false }, phase := .idle
      state := if s.keyDemand c then .lockedOut else .normal }
  (s.toneOff c old).postSc .channelReset c

/-- R173: CHANNEL RESET. -/
def cmdChannelReset (channel : Byte) : Body := fun s =>
  match channelAt channel.toNat with
  | none => s.no .badIndex
  | some c => if (s.channel c).resettable then (s.resetChannel c).yes else s.no .refusedState

/-- R174: CHANNEL LOCKOUT. -/
def cmdChannelLockout (channel : Byte) : Body := fun s =>
  match channelAt channel.toNat with
  | none => s.no .badIndex
  | some c =>
    if (s.channel c).state = .releasing ∨ (s.channel c).state = .discharged then s.no .refusedState
    else ((s.setChannel c { s.channel c with stationLockout := true }).lockOut c .station).yes

/-- R175: CHANNEL RESTORE. -/
def cmdChannelRestore (channel : Byte) : Body := fun s =>
  match channelAt channel.toNat with
  | none => s.no .badIndex
  | some c =>
    if (s.channel c).stationLockout then
      ((s.setChannel c { s.channel c with stationLockout := false }).leaveLockout c .station).yes
    else s.no .refusedState

/-! ## Alarms (R188, R189) -/

/-- R188: where the record of a number stands. -/
def State.alarmIndex (s : State) (number : Byte) : Option Nat :=
  s.sau.alarms.findIdx? (fun r => r.number == number.toNat)

/-- R188: ALARM ACK. -/
def cmdAlarmAck (number : Byte) : Body := fun s =>
  match s.alarmIndex number with
  | none => s.no .notFound
  | some i =>
    match s.sau.alarms[i]? with
    | none => s.no .notFound
    | some r => if r.acked.isSome then s.yes else (s.ackAlarm i r).yes

/-- R188: ALARM CLEAR. -/
def cmdAlarmClear (number : Byte) : Body := fun s =>
  match s.alarmIndex number with
  | none => s.no .notFound
  | some i =>
    match s.sau.alarms[i]? with
    | none => s.no .notFound
    | some r => if r.acked.isSome then (s.clearAlarm i).yes else s.no .refusedState

/-- R189: ALARM CLEAR ZONE. -/
def cmdAlarmClearZone (zone : Byte) : Body := fun s =>
  match zoneOf zone.toNat with
  | none => s.no .badIndex
  | some z => if s.alarmOverflow z then (s.clearOverflow z).yes else s.yes

/-! ## Doors (R112, R130) -/

/-- R112 case 5: a PLAIN door is released by the station. -/
def State.stationGrant (s : State) (d : DoorId) : State × Reply :=
  let x := s.door d
  match x.state with
  | .locked => ((s.unlockFor d (x.passageFor .station [] false)).postDoor .stationGrant d).yes
  | .fault =>
    (((s.driveOpt x.entry.unit (.unlock x.entry.unlockWindow)).postDoor .stationGrant d).doorOpening d).yes
  | .unlocked | .opened | .heldOpen | .forced | .secured | .custodyWait | .delay | .confirmWait | .unbolted =>
    s.no .refusedState

/-- R112: DOOR GRANT. -/
def cmdDoorGrant (door : Byte) : Body := fun s =>
  match doorOf door.toNat with
  | none => s.no .badIndex
  | some d =>
    match (s.door d).entry.kind with
    | .noDoor => s.no .notFound
    | .strongroom => s.no .refusedState
    | .plain => if s.zoneLockedOut (s.door d).entry.inner then s.no .refusedState else s.stationGrant d

/-- R130: STRONGROOM CANCEL. -/
def cmdStrongroomCancel (door : Byte) : Body := fun s =>
  match doorOf door.toNat with
  | none => s.no .badIndex
  | some d =>
    let x := s.door d
    if x.entry.kind ≠ .strongroom then s.no .notFound
    else if x.state.inSequence then (s.cancelSequence d .station).yes
    else if x.unboltedForEntry then (s.rebolt d .station).yes
    else s.no .refusedState

/-! ## STATUS and RESTART (R210, R211) -/

/-- R210, 11.3: the twenty bytes of STATUS. -/
def State.statusBytes (s : State) : List Byte :=
  bytes1 s.rm.ring.code ++ bytes1 s.csu.clock.code ++ bytes1 s.csu.timebase.code ++ bytes1 s.sp.cause.code
    ++ bytes1 (boolCode s.sp.overflow) ++ bytes1 s.sp.events.length ++ bytes1 s.poolCount
    ++ bytes1 s.sau.alarms.length
    ++ allChannels.flatMap (fun c => bytes1 (s.channel c).state.code)
    ++ allChannels.flatMap (fun c => bytes1 (s.channel c).flags.code)

/-- R210: STATUS. -/
def cmdStatus : Body := fun s =>
  ({ s with sp := { s.sp with overflow := false } }, .now .accept s.statusBytes)

/-- R211: RESTART. -/
def cmdRestart : Body := fun s =>
  if ¬ s.mayRestart then s.no .refusedState
  else if s.csc.write.isSome then ({ s with sp := { s.sp with restartWaiting := true } }, .later .restart)
  else s.restartAll.yes

/-! ## Taking a command -/

/-- R200: the frame's place gets what the command answered. -/
def State.placeReply (s : State) (seq : BitVec 4) (code : Byte) : Reply → State
  | .now c data => s.addReply seq (.ready (replyPayload code c data))
  | .later owner => s.addReply seq (.reserved owner code)

/-- R200, R201, R211: a command is taken when a place is free, and is answered BUSY while a RESTART waits. -/
def State.takeCommand (s : State) (seq : BitVec 4) (code : Byte) (body : Body) : State :=
  if ¬ s.replyFree then s.markLoss
  else if s.sp.restartWaiting ∧ code ≠ codeStatus then s.placeReply seq code (.now .busy [])
  else (body s).1.placeReply seq code (body s).2

/-- R200, R13: a loop-bound frame is taken when a place is free; its reply carries code 0. -/
def State.takeLoopBound (s : State) (seq : BitVec 4) (dst kind : Byte) (payload : List Byte) : State :=
  if s.replyFree then
    let f : Frame := { dst, src := stationAddress, kind, seqByte := seq.setWidth 8, payload }
    (s.stationToLoop f).1.placeReply seq codeLoopBound (.now (s.stationToLoop f).2 [])
  else s.markLoss

/-- R201: a command of the right length, by its code and parameters (Table 11-4); none is answered BAD_VALUE. -/
def bodyOf (code : Byte) (l : List Byte) : Option Body :=
  let n := l.length
  let b := byteAt l 0
  if code = codeTablePoint then if n = 2 then some (cmdTablePoint b (byteAt l 1)) else none
  else if code = codeTableRead then if n = 1 then some (cmdTableRead b) else none
  else if code = codeTableWrite then some (cmdTableWrite l)
  else if code = codeCredPut then if n = 15 then some (cmdCredPut l) else none
  else if code = codeCredDrop then if n = 3 then some (cmdCredDrop (numberOf l)) else none
  else if code = codeCredLook then if n = 3 then some (cmdCredLook (numberOf l)) else none
  else if code = codeHolidayAdd then if n = 2 then some (cmdHolidayAdd (BitVec.ofNat 16 (numberOf l))) else none
  else if code = codeHolidayDrop then if n = 2 then some (cmdHolidayDrop (BitVec.ofNat 16 (numberOf l))) else none
  else if code = codeClockSet then
    if n = 6 then
      some (cmdClockSet (BitVec.ofNat 16 (field l 0 2)) (byteAt l 2) (BitVec.ofNat 24 (field l 3 3)))
    else none
  else if code = codeZoneVerifyClear then if n = 1 then some (cmdZoneVerifyClear b) else none
  else if code = codeZoneVerifyKeep then if n = 1 then some (cmdZoneVerifyKeep b) else none
  else if code = codeZoneUnknown then if n = 1 then some (cmdZoneUnknown b) else none
  else if code = codeChannelReset then if n = 1 then some (cmdChannelReset b) else none
  else if code = codeChannelLockout then if n = 1 then some (cmdChannelLockout b) else none
  else if code = codeChannelRestore then if n = 1 then some (cmdChannelRestore b) else none
  else if code = codeAlarmAck then if n = 1 then some (cmdAlarmAck b) else none
  else if code = codeAlarmClear then if n = 1 then some (cmdAlarmClear b) else none
  else if code = codeAlarmClearZone then if n = 1 then some (cmdAlarmClearZone b) else none
  else if code = codeDoorGrant then if n = 1 then some (cmdDoorGrant b) else none
  else if code = codeStrongroomCancel then if n = 1 then some (cmdStrongroomCancel b) else none
  else if code = codeStatus then if n = 0 then some cmdStatus else none
  else if code = codeRestart then if n = 0 then some cmdRestart else none
  else none

/-- R201: an empty payload, an unknown code or a wrong length. -/
def badCommand : Body := fun s => s.no .badValue

/-- R199: SP takes a valid station frame. -/
def State.stationFrameTaken (s : State) (f : Frame) : State :=
  if f.src ≠ stationAddress then s
  else if f.dst = 0 then
    if f.kind = kindCommand then
      match f.payload with
      | [] => s.takeCommand f.seq 0 badCommand
      | code :: l => s.takeCommand f.seq code ((bodyOf code l).getD badCommand)
    else s
  else if (deviceAt f.dst.toNat).isSome ∨ f.dst = allDevices then s.takeLoopBound f.seq f.dst f.kind f.payload
  else s

/-! ## The station receiver (R198) -/

def State.setRx (s : State) (l : List Byte) : State := { s with sp := { s.sp with rx := l } }

/-- R198: the bytes held after one more, and the bytes from LEN of a frame that it completes. -/
def rxStep (held : List Byte) (b : Byte) : List Byte × Option (List Byte) :=
  match held with
  | [] => (if b = sync then [b] else [], none)
  | [_] => (if 40 < b.toNat then [] else held ++ [b], none)
  | _ :: len :: _ =>
    let l := held ++ [b]
    if l.length = len.toNat + 8 then ([], some (l.drop 1)) else (l, none)

def State.setIntake (s : State) (l : List Frame) : State := { s with sp := { s.sp with intake := l } }

/-- R198: a valid station frame is complete: SP takes it, or it waits while SP takes another, or, one waiting already, it is
discarded. -/
def State.offerFrame (s : State) (f : Frame) : State :=
  if s.sp.intake.length < 2 then s.setIntake (s.sp.intake ++ [f]) else s

/-- R198: one byte arrives. -/
def State.rxByte (s : State) (b : Byte) : State :=
  match rxStep s.sp.rx b with
  | (held, some l) =>
    match frameOf l with
    | some f => (s.setRx held).offerFrame f
    | none => s.setRx held
  | (held, none) => s.setRx held

/-- R198, R199: SP has taken the frame it was taking, and then the one that waited. -/
def State.takeIntake (s : State) : State := s.sp.intake.foldl State.stationFrameTaken (s.setIntake [])

/-- R198: bytes arrive without a gap. Every frame that they complete after the first comes while SP is taking that first one:
DESIGN CHOICE, log 6. -/
def State.rxBytes (s : State) (l : List Byte) : State := (l.foldl State.rxByte s).takeIntake

/-- R198: a gap abandons the frame and the byte that ends it is examined afresh. -/
def State.rxGap (s : State) (b : Byte) : State := ((s.setRx []).rxByte b).takeIntake

/-- R198: a LEN over 40 after SYNC. -/
def State.rxLong (s : State) (len : Byte) : State :=
  if s.sp.rx.length ≤ 1 ∧ 40 < len.toNat then s.setRx [] else s

/-! ## The end of a station frame (R200, R207 to R209) -/

def ReplyPlace.isSending (p : ReplyPlace) : Bool :=
  match p.body with
  | .sending _ => true
  | .ready _ => false
  | .reserved _ _ => false

/-- R200, R206 to R208: the frame under way has been sent in full; the sequence counter moves past the number of an event or a copy
(log 13). -/
def Sp.frameSent (p : Sp) : Sp :=
  match p.tx with
  | .idle => p
  | .reply => { p with tx := .idle, replies := p.replies.filter (fun r => !r.isSending) }
  | .event => { p with tx := .idle, events := p.events.drop 1, seq := p.seq + 1 }
  | .forward => { p with tx := .idle, forwards := p.forwards.drop 1, seq := p.seq + 1 }

end Sys2Proof.Machine
end

