-- ==== Sys2Proof/Machine/ChannelTimers.lean ====
section
/-! DEFINITION. The timers and the drive readback of the channels (chapter 8). -/

namespace Sys2Proof.Machine

/-- COUNTDOWN_EXPIRY (R166). -/
def execCountdownExpiry (channel : ChannelId) (s : State) : Host.Outcome State Fault Refusal :=
  let ch := s.channel channel
  (if ch.state = .preDischarge ∧ ch.countdownDue ∧ ch.hold.isEmpty then s.release channel else s).done

/-- DRIVE_TIMER_EXPIRY (R171). -/
def execDriveTimerExpiry (channel : ChannelId) (s : State) : Host.Outcome State Fault Refusal :=
  (if (s.channel channel).state = .releasing ∧ s.due (s.channel channel).drive then s.endRelease channel
  else s).done

/-- VALVE_CONFIRM_TIMEOUT (R170). -/
def execValveConfirmTimeout (channel : ChannelId) (s : State) : Host.Outcome State Fault Refusal :=
  (if (s.channel channel).phase = .waiting ∧ s.due (s.channel channel).confirm then s.failConfirm channel
  else s).done

/-- R172: the soak completes. -/
def State.endSoak (s : State) (c : ChannelId) : State :=
  (s.setChannel c { s.channel c with soak := none, soakComplete := true }).postSc .soakComplete c

/-- SOAK_TIMER_EXPIRY (R172). -/
def execSoakTimerExpiry (channel : ChannelId) (s : State) : Host.Outcome State Fault Refusal :=
  (if (s.channel channel).state = .discharged ∧ s.due (s.channel channel).soak then s.endSoak channel else s).done

/-- R177: the present pattern goes to the same sounders again, 30 s after the last time. That these are the SOUNDERs bound at the
refresh, also where one was bound anew since the last change of pattern, is the model's: DESIGN CHOICE, log 45. -/
def State.refreshTone (s : State) (c : ChannelId) : State :=
  let ch := s.channel c
  (s.setChannel c { ch with refresh := ch.refresh.map (· + 30) }).sendTone c ch.state.tone

/-- TONE_REFRESH (R177). -/
def execToneRefresh (channel : ChannelId) (s : State) : Host.Outcome State Fault Refusal :=
  (if s.due (s.channel channel).refresh then s.refreshTone channel else s).done

/-- R169: DRIVE_FAULT is set, with the readback level as reason code; that an active level is 1 and an inactive one 0 is the model's:
DESIGN CHOICE, log 48. -/
def State.setDriveFault (s : State) (c : ChannelId) : State :=
  let ch := s.channel c
  (s.setChannel c { ch with flags := { ch.flags with driveFault := true } }.recount).postSc .driveFault c
    (some (boolCode ch.readback))

/-- DRIVE_FAULT (R169). -/
def execDriveFault (channel : ChannelId) (s : State) : Host.Outcome State Fault Refusal :=
  (if (s.channel channel).readCount = .disagreeing then s.setDriveFault channel else s).done

/-- R169: DRIVE_FAULT is cleared. -/
def State.clearDriveFault (s : State) (c : ChannelId) : State :=
  let ch := s.channel c
  (s.setChannel c { ch with flags := { ch.flags with driveFault := false } }.recount).postSc .driveFaultCleared c

/-- DRIVE_FAULT_CLEARED (R169). -/
def execDriveFaultCleared (channel : ChannelId) (s : State) : Host.Outcome State Fault Refusal :=
  (if (s.channel channel).readCount = .agreeing then s.clearDriveFault channel else s).done

/-- DRIVE_READBACK_CHANGE (R169). -/
def execDriveReadbackChange (channel : ChannelId) (active : Bool) (s : State) : Host.Outcome State Fault Refusal :=
  (s.setChannel channel { s.channel channel with readback := active }.recount).done

end Sys2Proof.Machine
end

