-- ==== Sys2Proof/Machine/DoorTimers.lean ====
section
/-! DEFINITION. The timers of the doors (chapters 5 and 6). An expiry acts only in the state whose timer it is, once the timer is
due (log 2). -/

namespace Sys2Proof.Machine

/-- UNLOCK_TIMER_EXPIRY (R103). -/
def execUnlockTimerExpiry (door : DoorId) (s : State) : Host.Outcome State Fault Refusal :=
  (if (s.door door).state = .unlocked ∧ s.due (s.door door).unlock then s.unlockExpired door else s).done

/-- HELD_OPEN_TIMER_EXPIRY (R104, R126). -/
def execHeldOpenTimerExpiry (door : DoorId) (s : State) : Host.Outcome State Fault Refusal :=
  (if (s.door door).state = .opened ∧ s.due (s.door door).held then s.setHeldOpen door else s).done

/-- PAIRING_TIMER_EXPIRY (R111). -/
def execPairingTimerExpiry (door : DoorId) (s : State) : Host.Outcome State Fault Refusal :=
  (if (s.door door).slot.isSome ∧ s.due (s.door door).pairing then s.refuseEscort door (.denied .escort) .escort
  else s).done

/-- CUSTODY_PAIRING_EXPIRY (R121). -/
def execCustodyPairingExpiry (door : DoorId) (s : State) : Host.Outcome State Fault Refusal :=
  (if (s.door door).state = .custodyWait ∧ s.due (s.door door).pairing then s.cancelSequence door .pairing
  else s).done

/-- DISPLAY_TIMER_EXPIRY (R122). -/
def execDisplayTimerExpiry (door : DoorId) (s : State) : Host.Outcome State Fault Refusal :=
  (if (s.door door).state = .delay ∧ s.due (s.door door).display then s.displayExpired door else s).done

/-- DELAY_TIMER_EXPIRY (R123). -/
def execDelayTimerExpiry (door : DoorId) (s : State) : Host.Outcome State Fault Refusal :=
  (if (s.door door).state = .delay ∧ s.due (s.door door).delay then s.delayExpired door else s).done

/-- CONFIRM_TIMER_EXPIRY (R124). -/
def execConfirmTimerExpiry (door : DoorId) (s : State) : Host.Outcome State Fault Refusal :=
  (if (s.door door).state = .confirmWait ∧ s.due (s.door door).confirm then s.cancelSequence door .confirm
  else s).done

/-- STRONGROOM_UNLOCK_EXPIRY (R125). -/
def execStrongroomUnlockExpiry (door : DoorId) (s : State) : Host.Outcome State Fault Refusal :=
  (if (s.door door).state = .unbolted ∧ s.due (s.door door).unlock then s.unboltExpired door else s).done

/-- BOLT_SETTLE_EXPIRY (R132). -/
def execBoltSettleExpiry (door : DoorId) (s : State) : Host.Outcome State Fault Refusal :=
  (if s.due (s.door door).settle then s.setDoor door { s.door door with settle := none } else s).done

end Sys2Proof.Machine
end

