-- ==== Sys2Proof/Machine/LineEvents.lean ====
section
/-! DEFINITION. The local input lines (R180 to R182). -/

namespace Sys2Proof.Machine

/-- LEVEL_LINE_CHANGE (R180). -/
def execLevelLineChange (line : InputLine) (active : Bool) (s : State) : Host.Outcome State Fault Refusal :=
  (s.setLine line ((s.line line).levelChange active)).done

/-- SETTLE_TIMER_EXPIRY (R180). -/
def execSettleTimerExpiry (line : InputLine) (s : State) : Host.Outcome State Fault Refusal := (s.settleExpired line).done

/-- PULSE_LINE_CHANGE (R181). -/
def execPulseLineChange (line : InputLine) (active : Bool) (s : State) : Host.Outcome State Fault Refusal :=
  (s.setLine line ((s.line line).pulseChange active (s.after 1))).done

/-- PRESS_TIMER_EXPIRY (R181). -/
def execPressTimerExpiry (line : InputLine) (s : State) : Host.Outcome State Fault Refusal := (s.pressExpired line).done

/-- RECOVERY_TIMER_EXPIRY (R181). -/
def execRecoveryTimerExpiry (line : InputLine) (s : State) : Host.Outcome State Fault Refusal := (s.recoveryExpired line).done

end Sys2Proof.Machine
end

