-- ==== Sys2Proof/Machine/LoneTimers.lean ====
section
/-! DEFINITION. The timers of the lone workers (R193). -/

namespace Sys2Proof.Machine

/-- INTERVAL_TIMER_EXPIRY (R193). -/
def execIntervalTimerExpiry (zone : ZoneId) (s : State) : Host.Outcome State Fault Refusal :=
  (if (s.lone zone).state = .running ∧ s.due (s.lone zone).intervalTimer then s.enterPrompt zone else s).done

/-- PROMPT_REPEAT (R193). -/
def execPromptRepeat (zone : ZoneId) (s : State) : Host.Outcome State Fault Refusal :=
  (if (s.lone zone).state = .prompt ∧ s.due (s.lone zone).repeatTimer then s.repeatPrompt zone else s).done

/-- GRACE_TIMER_EXPIRY (R193). -/
def execGraceTimerExpiry (zone : ZoneId) (s : State) : Host.Outcome State Fault Refusal :=
  (if (s.lone zone).state = .prompt ∧ s.due (s.lone zone).graceTimer then s.enterOverdue zone else s).done

end Sys2Proof.Machine
end

