-- ==== Sys2Proof/Machine/LoopEvents.lean ====
section
/-! DEFINITION. What comes from the loop and its timers (chapter 1). -/

namespace Sys2Proof.Machine

/-- LOOP_FRAME_RECEIVED (R1). -/
def execLoopFrameReceived (arrival : LoopEnd) (ms : Nat) (bytes : List Byte) (s : State) : Host.Outcome State Fault Refusal :=
  ((s.reachMs ms).loopBytes arrival bytes).done

/-- R17, R20: sending has ended. -/
def Rm.frameSent (r : Rm) : Rm :=
  match r.tx with
  | .idle => r
  | .entry _ => { r with tx := .idle, queue := r.queue.drop 1 }
  | .sweep number _ live => { r with tx := .idle, pendingSweep := if live then some number else r.pendingSweep }

/-- LOOP_FRAME_SENT (R17). -/
def execLoopFrameSent (s : State) : Host.Outcome State Fault Refusal := { s with rm := s.rm.frameSent }.done

/-- SWEEP_DUE (R20). -/
def execSweepDue (s : State) : Host.Outcome State Fault Refusal :=
  (if s.due s.rm.sweepTimer then
    { s with rm := { s.rm with sweepWaiting := true, sweepTimer := s.rm.sweepTimer.map (· + 2) } }
  else s).done

/-- SWEEP_UNRETURNED (R21). -/
def execSweepUnreturned (s : State) : Host.Outcome State Fault Refusal :=
  (if s.rm.pendingSweep.isSome then s.sweepEnds false else s).done

/-- SILENCE_TIMER_EXPIRY (R22). -/
def execSilenceTimerExpiry (s : State) : Host.Outcome State Fault Refusal := (if s.due s.rm.silence then s.silent else s).done

/-- DEVICE_MISSING (R24). -/
def execDeviceMissing (device : DevIx) (s : State) : Host.Outcome State Fault Refusal :=
  (if s.overdueDevice (s.device device) then s.deviceGone device else s).done

end Sys2Proof.Machine
end

