-- ==== Sys2Proof/Machine/Management.lean ====
section
/-! DEFINITION. The management commands of Table 10-1: each takes its reply place and runs its body (R200, R201). -/

namespace Sys2Proof.Machine

/-- TABLE_POINT (R203). -/
def execTablePoint (seq : BitVec 4) (table index : Byte) (s : State) : Host.Outcome State Fault Refusal :=
  (s.takeCommand seq codeTablePoint (cmdTablePoint table index)).done

/-- TABLE_READ (R204). -/
def execTableRead (seq : BitVec 4) (count : Byte) (s : State) : Host.Outcome State Fault Refusal :=
  (s.takeCommand seq codeTableRead (cmdTableRead count)).done

/-- TABLE_WRITE (R205). -/
def execTableWrite (seq : BitVec 4) (entries : List Byte) (s : State) : Host.Outcome State Fault Refusal :=
  (s.takeCommand seq codeTableWrite (cmdTableWrite entries)).done

/-- CRED_PUT (R61). -/
def execCredPut (seq : BitVec 4) (slot : List Byte) (s : State) : Host.Outcome State Fault Refusal :=
  (s.takeCommand seq codeCredPut (cmdCredPut slot)).done

/-- CRED_DROP (R61). -/
def execCredDrop (seq : BitVec 4) (number : BitVec 24) (s : State) : Host.Outcome State Fault Refusal :=
  (s.takeCommand seq codeCredDrop (cmdCredDrop number.toNat)).done

/-- CRED_LOOK (R68). -/
def execCredLook (seq : BitVec 4) (number : BitVec 24) (s : State) : Host.Outcome State Fault Refusal :=
  (s.takeCommand seq codeCredLook (cmdCredLook number.toNat)).done

/-- HOLIDAY_ADD (R38). -/
def execHolidayAdd (seq : BitVec 4) (day : BitVec 16) (s : State) : Host.Outcome State Fault Refusal :=
  (s.takeCommand seq codeHolidayAdd (cmdHolidayAdd day)).done

/-- HOLIDAY_DROP (R39). -/
def execHolidayDrop (seq : BitVec 4) (day : BitVec 16) (s : State) : Host.Outcome State Fault Refusal :=
  (s.takeCommand seq codeHolidayDrop (cmdHolidayDrop day)).done

/-- CLOCK_SET (R35). -/
def execClockSet (seq : BitVec 4) (day : BitVec 16) (weekday : Byte) (second : BitVec 24) (s : State) :
    Host.Outcome State Fault Refusal :=
  (s.takeCommand seq codeClockSet (cmdClockSet day weekday second)).done

/-- ZONE_VERIFY_CLEAR (R148). -/
def execZoneVerifyClear (seq : BitVec 4) (zone : Byte) (s : State) : Host.Outcome State Fault Refusal :=
  (s.takeCommand seq codeZoneVerifyClear (cmdZoneVerifyClear zone)).done

/-- ZONE_VERIFY_KEEP (R149). -/
def execZoneVerifyKeep (seq : BitVec 4) (zone : Byte) (s : State) : Host.Outcome State Fault Refusal :=
  (s.takeCommand seq codeZoneVerifyKeep (cmdZoneVerifyKeep zone)).done

/-- ZONE_UNKNOWN (R147). -/
def execZoneUnknown (seq : BitVec 4) (zone : Byte) (s : State) : Host.Outcome State Fault Refusal :=
  (s.takeCommand seq codeZoneUnknown (cmdZoneUnknown zone)).done

/-- CHANNEL_RESET (R173). -/
def execChannelReset (seq : BitVec 4) (channel : Byte) (s : State) : Host.Outcome State Fault Refusal :=
  (s.takeCommand seq codeChannelReset (cmdChannelReset channel)).done

/-- CHANNEL_LOCKOUT (R174). -/
def execChannelLockout (seq : BitVec 4) (channel : Byte) (s : State) : Host.Outcome State Fault Refusal :=
  (s.takeCommand seq codeChannelLockout (cmdChannelLockout channel)).done

/-- CHANNEL_RESTORE (R175). -/
def execChannelRestore (seq : BitVec 4) (channel : Byte) (s : State) : Host.Outcome State Fault Refusal :=
  (s.takeCommand seq codeChannelRestore (cmdChannelRestore channel)).done

/-- ALARM_ACK (R188). -/
def execAlarmAck (seq : BitVec 4) (number : Byte) (s : State) : Host.Outcome State Fault Refusal :=
  (s.takeCommand seq codeAlarmAck (cmdAlarmAck number)).done

/-- ALARM_CLEAR (R188). -/
def execAlarmClear (seq : BitVec 4) (number : Byte) (s : State) : Host.Outcome State Fault Refusal :=
  (s.takeCommand seq codeAlarmClear (cmdAlarmClear number)).done

/-- ALARM_CLEAR_ZONE (R189). -/
def execAlarmClearZone (seq : BitVec 4) (zone : Byte) (s : State) : Host.Outcome State Fault Refusal :=
  (s.takeCommand seq codeAlarmClearZone (cmdAlarmClearZone zone)).done

/-- DOOR_GRANT (R112). -/
def execDoorGrant (seq : BitVec 4) (door : Byte) (s : State) : Host.Outcome State Fault Refusal :=
  (s.takeCommand seq codeDoorGrant (cmdDoorGrant door)).done

/-- STRONGROOM_CANCEL (R130). -/
def execStrongroomCancel (seq : BitVec 4) (door : Byte) (s : State) : Host.Outcome State Fault Refusal :=
  (s.takeCommand seq codeStrongroomCancel (cmdStrongroomCancel door)).done

/-- STATUS (R210). -/
def execStatus (seq : BitVec 4) (s : State) : Host.Outcome State Fault Refusal :=
  (s.takeCommand seq codeStatus cmdStatus).done

/-- RESTART (R211). -/
def execRestart (seq : BitVec 4) (s : State) : Host.Outcome State Fault Refusal :=
  (s.takeCommand seq codeRestart cmdRestart).done

end Sys2Proof.Machine
end

