-- ==== Sys2Proof/Machine/ResetAndTime.lean ====
section
/-! DEFINITION. Power-on reset and the timebase (R28 to R34, R46, R47, R166, R212). -/

namespace Sys2Proof.Machine

/-- R180, R212: a LEVEL line after power-on, from its raw level. -/
def Line.levelPowerOn (l : Line) : Line := { l with qualifier := freshLevel l.raw }

/-- R181, R212: a PULSE line after power-on. -/
def Line.pulsePowerOn (l : Line) : Line := { l with qualifier := freshPulse l.raw }

/-- R196: a general input after power-on. -/
def Line.generalPowerOn (l : Line) : Line := { l with qualifier := .unqualified }

/-- R196: SAU after power-on; the pins keep their levels. -/
def Sau.powerOn (a : Sau) : Sau :=
  { State.reset.sau with
    abortLines := a.abortLines.map Line.levelPowerOn, valveLines := a.valveLines.map Line.levelPowerOn
    manualLines := a.manualLines.map Line.pulsePowerOn, generalLines := a.generalLines.map Line.generalPowerOn }

/-- R169, R178: a channel after power-on; the readback pin keeps its level and is compared. -/
def Channel.afterPowerOn (ch : Channel) : Channel := { Channel.powerOn with readback := ch.readback }.recount

/-- R47: CSU after power-on. -/
def Csu.powerOn (crystalRuns : Bool) : Csu :=
  if crystalRuns then State.reset.csu
  else { State.reset.csu with timebase := .degraded, crystalWatch := some 2 }

/-- R212: every block at its power-on values; what lies outside the blocks is kept (log 14). POWER_ON is stamped with uptime 0 and
the drift flag clear, also when the crystal does not run: DESIGN CHOICE, log 39. -/
def State.powerOn (s : State) (crystalRuns : Bool) : State :=
  let t : State :=
    { State.reset with
      pending := s.pending
      rm := { State.reset.rm with loopSeqCount := s.rm.loopSeqCount }
      csu := Csu.powerOn crystalRuns
      sc := { State.reset.sc with channels := s.sc.channels.map Channel.afterPowerOn }
      sau := s.sau.powerOn }
  if crystalRuns then t else t.post .timebaseDegraded

/-- POWER_ON_RESET (R212). -/
def execPowerOnReset (crystalRuns : Bool) (s : State) : Host.Outcome State Fault Refusal := (s.powerOn crystalRuns).done

/-- R166: a second tick at one channel; the tick that would bring the countdown to 0 is left to COUNTDOWN_EXPIRY. -/
def Channel.tick (ch : Channel) : Channel :=
  if ch.state = .preDischarge then
    if 1 < ch.countdown then { ch with countdown := ch.countdown - 1 } else { ch with countdownDue := true }
  else ch

/-- R28, R33, R34: uptime and the clock take a second. CLOCK_EPOCH_END is stamped after the change, at second 0: DESIGN CHOICE,
log 38. -/
def State.tickClock (s : State) : State :=
  let r := { s.csu with ticks := s.csu.ticks + 1, ms := 0 }.advanceClock
  let s := { s with csu := r.1 }
  if r.2 then s.post .clockEpochEnd else s

/-- CLOCK_ADVANCE (R33): the second tick. That CLOCK_EPOCH_END is posted before SAU acts on the after-hours flags of the same advance
(R46), whose TONE OFF may post TRANSMIT_DISPLACED, is the model's: DESIGN CHOICE, log 38. -/
def execClockAdvance (s : State) : Host.Outcome State Fault Refusal :=
  let s := s.tickClock.refreshAfterHours
  { s with sc := { s.sc with channels := s.sc.channels.map Channel.tick } }.done

/-- TIMEBASE_DEGRADED (R30). -/
def execTimebaseDegraded (s : State) : Host.Outcome State Fault Refusal :=
  (if s.csu.timebase = .normal then
    { s with csu := { s.csu with timebase := .degraded, crystalWatch := s.after 2 } }.post .timebaseDegraded
  else s).done

/-- TIMEBASE_RESTORED (R31). -/
def execTimebaseRestored (s : State) : Host.Outcome State Fault Refusal :=
  (if s.csu.timebase = .degraded ∧ s.due s.csu.crystalWatch then
    { s with csu := { s.csu with timebase := .normal, crystalWatch := none } }.post .timebaseRestored
  else s).done

/-- CRYSTAL_GAP_WHILE_DEGRADED (R31). -/
def execCrystalGapWhileDegraded (s : State) : Host.Outcome State Fault Refusal :=
  (if s.csu.timebase = .degraded then { s with csu := { s.csu with crystalWatch := s.after 2 } } else s).done

end Sys2Proof.Machine
end

