-- ==== Sys2Proof/Machine/StationLink.lean ====
section
/-! DEFINITION. What comes over the station link before it is a command, and the end of a frame on it (chapter 10). -/

namespace Sys2Proof.Machine

/-- STATION_FRAME_RECEIVED (R198). -/
def execStationFrameReceived (bytes : List Byte) (s : State) : Host.Outcome State Fault Refusal := (s.rxBytes bytes).done

/-- STATION_FRAME_GAP (R198). -/
def execStationFrameGap (next : Byte) (s : State) : Host.Outcome State Fault Refusal := (s.rxGap next).done

/-- STATION_LEN_OVER_40 (R198). -/
def execStationLenOver40 (len : Byte) (s : State) : Host.Outcome State Fault Refusal := (s.rxLong len).done

/-- LOOP_BOUND_STATION_FRAME (R13). -/
def execLoopBoundStationFrame (seq : BitVec 4) (dst kind : Byte) (payload : List Byte) (s : State) :
    Host.Outcome State Fault Refusal := (s.takeLoopBound seq dst kind payload).done

/-- STATION_FRAME_SENT (R209); a transmitter that is free first takes what is next (log 13). -/
def execStationFrameSent (s : State) : Host.Outcome State Fault Refusal := { s with sp := s.sp.take.frameSent }.done

end Sys2Proof.Machine
end

