-- ==== Sys2Proof/Machine/StoreEvents.lean ====
section
/-! DEFINITION. What comes from the store port (chapter 3). -/

namespace Sys2Proof.Machine

/-- BUCKET_READ_COMPLETE (R52). -/
def execBucketReadComplete (slots : List (List Byte)) (s : State) : Host.Outcome State Fault Refusal := (s.readCompletes slots).done

/-- BUCKET_READ_TIMEOUT (R52). -/
def execBucketReadTimeout (s : State) : Host.Outcome State Fault Refusal := s.readEndsFaulted.done

/-- SLOT_WRITE_COMPLETE (R64). -/
def execSlotWriteComplete (s : State) : Host.Outcome State Fault Refusal := s.slotWritten.done

/-- SLOT_WRITE_TIMEOUT (R64). -/
def execSlotWriteTimeout (s : State) : Host.Outcome State Fault Refusal := s.slotWriteFails.done

/-- READ_BACK_COMPLETE (R65). -/
def execReadBackComplete (slot : List Byte) (s : State) : Host.Outcome State Fault Refusal :=
  (s.readBackEnds (fun w => slot == w.bytes)).done

/-- READ_BACK_TIMEOUT (R65). -/
def execReadBackTimeout (s : State) : Host.Outcome State Fault Refusal := (s.readBackEnds (fun _ => false)).done

end Sys2Proof.Machine
end

