-- ==== Sys2Proof/Machine/Dispatch.lean ====
section
/-! DEFINITION. The dispatch: one arm per command, each one call of its meaning. -/

namespace Sys2Proof.Machine

def exec (i : Instr) (s : State) : Host.Outcome State Fault Refusal :=
  match i with
  | .powerOnReset crystalRuns => Sys2Proof.Machine.execPowerOnReset crystalRuns s
  | .loopFrameReceived arrival ms bytes => Sys2Proof.Machine.execLoopFrameReceived arrival ms bytes s
  | .loopFrameSent => Sys2Proof.Machine.execLoopFrameSent s
  | .sweepDue => Sys2Proof.Machine.execSweepDue s
  | .sweepUnreturned => Sys2Proof.Machine.execSweepUnreturned s
  | .silenceTimerExpiry => Sys2Proof.Machine.execSilenceTimerExpiry s
  | .deviceMissing device => Sys2Proof.Machine.execDeviceMissing device s
  | .timebaseDegraded => Sys2Proof.Machine.execTimebaseDegraded s
  | .timebaseRestored => Sys2Proof.Machine.execTimebaseRestored s
  | .clockAdvance => Sys2Proof.Machine.execClockAdvance s
  | .stationFrameReceived bytes => Sys2Proof.Machine.execStationFrameReceived bytes s
  | .stationFrameGap next => Sys2Proof.Machine.execStationFrameGap next s
  | .loopBoundStationFrame seq dst kind payload => Sys2Proof.Machine.execLoopBoundStationFrame seq dst kind payload s
  | .tablePoint seq table index => Sys2Proof.Machine.execTablePoint seq table index s
  | .tableRead seq count => Sys2Proof.Machine.execTableRead seq count s
  | .tableWrite seq entries => Sys2Proof.Machine.execTableWrite seq entries s
  | .credPut seq slot => Sys2Proof.Machine.execCredPut seq slot s
  | .credDrop seq number => Sys2Proof.Machine.execCredDrop seq number s
  | .credLook seq number => Sys2Proof.Machine.execCredLook seq number s
  | .holidayAdd seq day => Sys2Proof.Machine.execHolidayAdd seq day s
  | .holidayDrop seq day => Sys2Proof.Machine.execHolidayDrop seq day s
  | .clockSet seq day weekday second => Sys2Proof.Machine.execClockSet seq day weekday second s
  | .zoneVerifyClear seq zone => Sys2Proof.Machine.execZoneVerifyClear seq zone s
  | .zoneVerifyKeep seq zone => Sys2Proof.Machine.execZoneVerifyKeep seq zone s
  | .zoneUnknown seq zone => Sys2Proof.Machine.execZoneUnknown seq zone s
  | .channelReset seq channel => Sys2Proof.Machine.execChannelReset seq channel s
  | .channelLockout seq channel => Sys2Proof.Machine.execChannelLockout seq channel s
  | .channelRestore seq channel => Sys2Proof.Machine.execChannelRestore seq channel s
  | .alarmAck seq number => Sys2Proof.Machine.execAlarmAck seq number s
  | .alarmClear seq number => Sys2Proof.Machine.execAlarmClear seq number s
  | .alarmClearZone seq zone => Sys2Proof.Machine.execAlarmClearZone seq zone s
  | .doorGrant seq door => Sys2Proof.Machine.execDoorGrant seq door s
  | .strongroomCancel seq door => Sys2Proof.Machine.execStrongroomCancel seq door s
  | .status seq => Sys2Proof.Machine.execStatus seq s
  | .restart seq => Sys2Proof.Machine.execRestart seq s
  | .stationFrameSent => Sys2Proof.Machine.execStationFrameSent s
  | .bucketReadComplete slots => Sys2Proof.Machine.execBucketReadComplete slots s
  | .slotWriteComplete => Sys2Proof.Machine.execSlotWriteComplete s
  | .slotWriteTimeout => Sys2Proof.Machine.execSlotWriteTimeout s
  | .readBackComplete slot => Sys2Proof.Machine.execReadBackComplete slot s
  | .readBackTimeout => Sys2Proof.Machine.execReadBackTimeout s
  | .unlockTimerExpiry door => Sys2Proof.Machine.execUnlockTimerExpiry door s
  | .heldOpenTimerExpiry door => Sys2Proof.Machine.execHeldOpenTimerExpiry door s
  | .pairingTimerExpiry door => Sys2Proof.Machine.execPairingTimerExpiry door s
  | .custodyPairingExpiry door => Sys2Proof.Machine.execCustodyPairingExpiry door s
  | .displayTimerExpiry door => Sys2Proof.Machine.execDisplayTimerExpiry door s
  | .delayTimerExpiry door => Sys2Proof.Machine.execDelayTimerExpiry door s
  | .confirmTimerExpiry door => Sys2Proof.Machine.execConfirmTimerExpiry door s
  | .strongroomUnlockExpiry door => Sys2Proof.Machine.execStrongroomUnlockExpiry door s
  | .boltSettleExpiry door => Sys2Proof.Machine.execBoltSettleExpiry door s
  | .countdownExpiry channel => Sys2Proof.Machine.execCountdownExpiry channel s
  | .driveTimerExpiry channel => Sys2Proof.Machine.execDriveTimerExpiry channel s
  | .valveConfirmTimeout channel => Sys2Proof.Machine.execValveConfirmTimeout channel s
  | .soakTimerExpiry channel => Sys2Proof.Machine.execSoakTimerExpiry channel s
  | .toneRefresh channel => Sys2Proof.Machine.execToneRefresh channel s
  | .driveFault channel => Sys2Proof.Machine.execDriveFault channel s
  | .driveFaultCleared channel => Sys2Proof.Machine.execDriveFaultCleared channel s
  | .levelLineChange line active => Sys2Proof.Machine.execLevelLineChange line active s
  | .settleTimerExpiry line => Sys2Proof.Machine.execSettleTimerExpiry line s
  | .pulseLineChange line active => Sys2Proof.Machine.execPulseLineChange line active s
  | .pressTimerExpiry line => Sys2Proof.Machine.execPressTimerExpiry line s
  | .recoveryTimerExpiry line => Sys2Proof.Machine.execRecoveryTimerExpiry line s
  | .intervalTimerExpiry zone => Sys2Proof.Machine.execIntervalTimerExpiry zone s
  | .promptRepeat zone => Sys2Proof.Machine.execPromptRepeat zone s
  | .graceTimerExpiry zone => Sys2Proof.Machine.execGraceTimerExpiry zone s
  | .bucketReadTimeout => Sys2Proof.Machine.execBucketReadTimeout s
  | .crystalGapWhileDegraded => Sys2Proof.Machine.execCrystalGapWhileDegraded s
  | .driveReadbackChange channel active => Sys2Proof.Machine.execDriveReadbackChange channel active s
  | .stationLenOver40 len => Sys2Proof.Machine.execStationLenOver40 len s

end Sys2Proof.Machine
end

