-- ==== Sys2Proof/Safety.lean ====
section
/-! DEFINITION. The vocabulary of the statements: what a posting and a reply look like, when a command is taken, and the
invariants that stand for the manual's laws of the device. -/

namespace Sys2Proof.Machine

/-! ## Words of the statements -/

/-- A bit of a flag byte, by its weight. -/
def weight (b : Bool) (n : Nat) : Nat := if b = true then n else 0

/-- 11.6: the bits of a hold-cause set. -/
def HoldSet.bits (h : HoldSet) : Nat :=
  weight h.abort 1 + weight h.occupied 2 + weight h.unknown 4 + weight h.alarm 8 + weight h.enclosure 16

/-- R171: the bits of the causes that a set holds and `old` does not, in the order of Table 8-2 (log 15). -/
def HoldSet.joined (h old : HoldSet) : List Nat :=
  ([(h.abort && !old.abort, 1), (h.occupied && !old.occupied, 2), (h.unknown && !old.unknown, 4), (h.alarm && !old.alarm, 8),
    (h.enclosure && !old.enclosure, 16)].filter (fun e => e.1)).map (fun e => e.2)

/-- R206, R32: the record that a posting makes now. -/
def State.event (s : State) (kind : EventKind) (door : Option DoorId := none) (zone : Option ZoneId := none)
    (channel : Option ChannelId := none) (subject : Option Subject := none) (reason : Option Nat := none) :
    EventRecord :=
  { kind, stamp := s.stamp, door, zone, channel, subject, reason }

/-- R200, R211: a command that comes now is handed to its block: a reply place is free and no RESTART waits. -/
def State.takesCommands (s : State) : Prop := s.sp.replies.length < 4 ∧ s.sp.restartWaiting = false

/-- R200: a place that holds a reply of these bytes for the frame of `seq`. -/
def readyReply (seq : BitVec 4) (payload : List Byte) : ReplyPlace := { seq, body := .ready payload }

/-- R206: the record goes to the event queue. -/
def State.tells (s : State) (r : EventRecord) : State := { s with sp := s.sp.enqueue r }

/-- R91, R92: PE answers on the reader and posts the event of a refusal, naming the inner zone for an entry and the outer
zone for an exit. -/
def State.denied (s : State) (p : Presentation) (m : Message) (reason : Nat) (kind : EventKind := .deny) : State :=
  (s.drive p.reader (.display m)).tells
    (s.event kind (door := some p.door)
      (zone := some (match p.side with
        | .entry => (s.door p.door).entry.inner
        | .exit => (s.door p.door).entry.outer))
      (subject := some (.credential p.number)) (reason := some reason))

/-- R118: a strongroom sequence is cancelled otherwise than by FAULT: the record clears, the bolt is thrown, the entry reader
shows the message and STRONGROOM_CANCELLED names custodian A. -/
def State.cancelled (s : State) (d : DoorId) (m : Message) (reason : Nat) : State :=
  let x := s.door d
  (((s.setDoor d
      { x with
        pairing := none, delay := none, display := none, confirm := none, custodyA := none, custodyB := none
        budget := none, state := .secured, boltCommand := .thrown, mismatch := false
        settle := some (s.csu.ticks + 5) }).driveOpt x.entry.unit .boltThrow).driveOpt x.entry.entryReader (.display m)).tells
    (s.event .strongroomCancelled (door := some d) (zone := some x.entry.inner)
      (subject := x.custodyA.map (fun a => Subject.credential a.number)) (reason := some reason))

/-- R66, R51: a credential write is over: the place reserved for its reply is ready with this code, the record is gone, and
the port goes to the head fetch request or is idle. -/
def State.writeOver (s : State) (code : Byte) : State :=
  { s with
    csc := { s.csc with
      write := none
      queue := match s.csc.queue with | r :: l => { r with inCycle := true } :: l | [] => []
      port := match s.csc.queue with | _ :: _ => .fetch | [] => .idle }
    sp := { s.sp with
      replies := s.sp.replies.map (fun p => match p.body with
        | .reserved .write c => { p with body := .ready [c, code] }
        | .reserved .look _ | .reserved .restart _ | .ready _ | .sending _ => p) } }

/-- R51, R62: CSC once the port is free, with this cache and fetch queue: a write that waits starts, and its bucket leaves the
cache; with none the head request is read; else the port is idle. -/
def Csc.freed (c : Csc) (cache : List CacheEntry) (queue : List FetchRequest) : Csc :=
  match c.write with
  | some w =>
    { cache := cache.filter (fun e => e.number % 2048 != w.number % 2048), queue, write := some { w with stage := .read 1 }
      port := .write, look := c.look }
  | none =>
    { cache, queue := (match queue with | x :: l => { x with inCycle := true } :: l | [] => []), write := none
      port := if queue = [] then .idle else .fetch, look := c.look }

/-- R63 to R66, Table 3-2: command `i` is an end of the credential write `w`, with this reply code and this event, if any. -/
def State.endsWrite (s : State) (w : WriteRecord) (i : Instr) (code : Byte) (told : Option EventRecord) : Prop :=
  let subject : Option Subject := some (.credential w.number)
  let fault (reason : Nat) : Prop :=
    code = 0x09 ∧ told = some (s.event .storeFault (subject := subject) (reason := some reason))
  (∃ k, w.stage = .readBack k ∧ i = .readBackComplete w.bytes ∧ code = (if w.clamped then 0x01 else 0x00)
      ∧ told = some (s.event .credChanged (subject := subject)
        (reason := some (match w.op with | .put => 1 | .drop => 2))))
    ∨ (∃ k, w.stage = .readBack k ∧ (i = .readBackTimeout ∨ ∃ slot, slot ≠ w.bytes ∧ i = .readBackComplete slot) ∧ fault 3)
    ∨ (∃ k, w.stage = .slotWrite k ∧ i = .slotWriteTimeout ∧ fault 2)
    ∨ (s.csc.port = .write ∧ w.stage = .read 2
      ∧ (i = .bucketReadTimeout ∨ ∃ slots, (∃ b ∈ slots, classifySlot b = .faulted) ∧ i = .bucketReadComplete slots)
      ∧ fault 1)
    ∨ (∃ a slots, s.csc.port = .write ∧ w.stage = .read a ∧ i = .bucketReadComplete slots
      ∧ (∀ b ∈ slots, classifySlot b ≠ .faulted ∧ classifySlot b ≠ .occupied w.number)
      ∧ (w.op = .drop ∨ ∀ b ∈ slots, (classifySlot b).isEmpty = false)
      ∧ code = (if w.op = WriteOp.put then 0x07 else 0x06) ∧ told = none)

/-- A frame: the waiting commands, the device table, the clock, the credential store and the presentations stay as they are. -/
def State.keepsFront (s t : State) : Prop :=
  t.pending = s.pending ∧ t.fc = s.fc ∧ t.csu = s.csu ∧ t.csc = s.csc ∧ t.pe = s.pe

/-- R177: the SOUNDERs of a channel, those bound to it and those bound to its zone, in ascending address order (log 15). -/
def State.sounders (s : State) (c : ChannelId) : List DevIx :=
  allDevices63.filter (fun d => (s.device d).role == .sounderChannel c
    || (s.channel c).zone.any (fun z => (s.device d).role == .sounderZone z))

/-- R177, R195: a DRIVE TONE toward each SOUNDER of a list in turn, as OriginatedDrivePlaced states it. -/
def State.toned (s : State) (l : List DevIx) (t : Tone) : State := l.foldl (fun u d => u.drive d (.tone t)) s

/-- R195: SAU's tone toward the zone's SOUNDERs, which goes out only while the zone's channel pattern is OFF. -/
def State.zoneToned (s : State) (z : ZoneId) (t : Tone) : State :=
  if s.zoneTone z = .off then s.toned (allDevices63.filter (fun d => (s.device d).role == .sounderZone z)) t else s

/-- R177, R195: SAU's record of the channel pattern of a zone, after a tone notice for it. -/
def State.toneTold (s : State) (zone : Option ZoneId) (t : Tone) : Sau :=
  match zone with
  | some z => { s.sau with tones := s.sau.tones.set z t z.isLt }
  | none => s.sau

/-- R177, R195: channel `c`, in a state of pattern `t`, has come from another pattern: its refresh restarts or ends, its SOUNDERs
are sent the pattern, and SAU is told of it. SAU sends its prompt again when the pattern is OFF and the zone's timer in PROMPT. -/
def State.patternTold (s : State) (c : ChannelId) (t : Tone) : State :=
  let u := (s.setChannel c
    { s.channel c with refresh := if t = .off then none else some (s.csu.ticks + 30) }).toned (s.sounders c) t
  let v : State := { u with sau := u.toneTold (s.channel c).zone t }
  match (s.channel c).zone with
  | some z => if t = .off ∧ (s.lone z).state = .prompt then v.zoneToned z .prompt else v
  | none => v

/-- The command frames of Table 10-1: the SEQ and the command code (Table 11-4) of a row that stands for one. -/
def commandOf : Instr → Option (BitVec 4 × Byte)
  | .tablePoint seq _ _ => some (seq, 0x01)
  | .tableRead seq _ => some (seq, 0x02)
  | .tableWrite seq _ => some (seq, 0x03)
  | .credPut seq _ => some (seq, 0x10)
  | .credDrop seq _ => some (seq, 0x11)
  | .credLook seq _ => some (seq, 0x12)
  | .holidayAdd seq _ => some (seq, 0x18)
  | .holidayDrop seq _ => some (seq, 0x19)
  | .clockSet seq _ _ _ => some (seq, 0x1A)
  | .zoneVerifyClear seq _ => some (seq, 0x20)
  | .zoneVerifyKeep seq _ => some (seq, 0x21)
  | .zoneUnknown seq _ => some (seq, 0x22)
  | .channelReset seq _ => some (seq, 0x28)
  | .channelLockout seq _ => some (seq, 0x29)
  | .channelRestore seq _ => some (seq, 0x2A)
  | .alarmAck seq _ => some (seq, 0x30)
  | .alarmClear seq _ => some (seq, 0x31)
  | .alarmClearZone seq _ => some (seq, 0x32)
  | .doorGrant seq _ => some (seq, 0x38)
  | .strongroomCancel seq _ => some (seq, 0x39)
  | .status seq => some (seq, 0x3E)
  | .restart seq => some (seq, 0x3F)
  | .powerOnReset _ | .loopFrameReceived _ _ _ | .loopFrameSent | .sweepDue | .sweepUnreturned | .silenceTimerExpiry
  | .deviceMissing _ | .timebaseDegraded | .timebaseRestored | .clockAdvance | .stationFrameReceived _
  | .stationFrameGap _ | .loopBoundStationFrame _ _ _ _ | .stationFrameSent | .bucketReadComplete _
  | .slotWriteComplete | .slotWriteTimeout | .readBackComplete _ | .readBackTimeout | .unlockTimerExpiry _
  | .heldOpenTimerExpiry _ | .pairingTimerExpiry _ | .custodyPairingExpiry _ | .displayTimerExpiry _
  | .delayTimerExpiry _ | .confirmTimerExpiry _ | .strongroomUnlockExpiry _ | .boltSettleExpiry _
  | .countdownExpiry _ | .driveTimerExpiry _ | .valveConfirmTimeout _ | .soakTimerExpiry _ | .toneRefresh _
  | .driveFault _ | .driveFaultCleared _ | .levelLineChange _ _ | .settleTimerExpiry _ | .pulseLineChange _ _
  | .pressTimerExpiry _ | .recoveryTimerExpiry _ | .intervalTimerExpiry _ | .promptRepeat _ | .graceTimerExpiry _
  | .bucketReadTimeout | .crystalGapWhileDegraded | .driveReadbackChange _ _ | .stationLenOver40 _ => none

/-- The payload of the station frame that a command row stands for (Table 11-4). -/
def commandPayload : Instr → List Byte
  | .tablePoint _ table index => [0x01, table, index]
  | .tableRead _ count => [0x02, count]
  | .tableWrite _ entries => 0x03 :: entries
  | .credPut _ slot => 0x10 :: slot
  | .credDrop _ number => 0x11 :: bytes3 number.toNat
  | .credLook _ number => 0x12 :: bytes3 number.toNat
  | .holidayAdd _ day => 0x18 :: bytes2 day.toNat
  | .holidayDrop _ day => 0x19 :: bytes2 day.toNat
  | .clockSet _ day weekday second => 0x1A :: (bytes2 day.toNat ++ weekday :: bytes3 second.toNat)
  | .zoneVerifyClear _ zone => [0x20, zone]
  | .zoneVerifyKeep _ zone => [0x21, zone]
  | .zoneUnknown _ zone => [0x22, zone]
  | .channelReset _ channel => [0x28, channel]
  | .channelLockout _ channel => [0x29, channel]
  | .channelRestore _ channel => [0x2A, channel]
  | .alarmAck _ number => [0x30, number]
  | .alarmClear _ number => [0x31, number]
  | .alarmClearZone _ zone => [0x32, zone]
  | .doorGrant _ door => [0x38, door]
  | .strongroomCancel _ door => [0x39, door]
  | .status _ => [0x3E]
  | .restart _ => [0x3F]
  | .powerOnReset _ | .loopFrameReceived _ _ _ | .loopFrameSent | .sweepDue | .sweepUnreturned | .silenceTimerExpiry
  | .deviceMissing _ | .timebaseDegraded | .timebaseRestored | .clockAdvance | .stationFrameReceived _
  | .stationFrameGap _ | .loopBoundStationFrame _ _ _ _ | .stationFrameSent | .bucketReadComplete _
  | .slotWriteComplete | .slotWriteTimeout | .readBackComplete _ | .readBackTimeout | .unlockTimerExpiry _
  | .heldOpenTimerExpiry _ | .pairingTimerExpiry _ | .custodyPairingExpiry _ | .displayTimerExpiry _
  | .delayTimerExpiry _ | .confirmTimerExpiry _ | .strongroomUnlockExpiry _ | .boltSettleExpiry _
  | .countdownExpiry _ | .driveTimerExpiry _ | .valveConfirmTimeout _ | .soakTimerExpiry _ | .toneRefresh _
  | .driveFault _ | .driveFaultCleared _ | .levelLineChange _ _ | .settleTimerExpiry _ | .pulseLineChange _ _
  | .pressTimerExpiry _ | .recoveryTimerExpiry _ | .intervalTimerExpiry _ | .promptRepeat _ | .graceTimerExpiry _
  | .bucketReadTimeout | .crystalGapWhileDegraded | .driveReadbackChange _ _ | .stationLenOver40 _ => []

/-! ## The laws and invariants -/

/-- R17, R20: the loop transmitter rests only when there is nothing to send. -/
def State.loopAtWork (s : State) : Prop := s.rm.tx = .idle → s.rm.sweepWaiting = false ∧ s.rm.queue = []

/-- R209: the station transmitter rests only when there is nothing to send. -/
def State.stationAtWork (s : State) : Prop :=
  s.sp.tx = .idle → (∀ p ∈ s.sp.replies, p.isReady = false) ∧ s.sp.events = [] ∧ s.sp.forwards = []

/-- R169: law 1. -/
def State.drivesOnlyReleasing (s : State) : Prop :=
  ∀ c : ChannelId, (s.channel c).driveOn = true → (s.channel c).state = .releasing

/-- R160, R139, R156: every channel's hold-cause set is the one that SC's copies give now, and no zone has two channels. -/
def State.holdsCurrent (s : State) : Prop :=
  (∀ c : ChannelId, (s.channel c).hold = s.holdCauses c)
    ∧ ∀ (c e : ChannelId) (z : ZoneId), (s.channel c).zone = some z → (s.channel e).zone = some z → c = e

/-- R165 to R167: no cause stands in the hold-cause set of a channel in PRE_DISCHARGE, and one at least in that of a channel in
HELD. -/
def State.holdsActed (s : State) : Prop :=
  ∀ c : ChannelId, ((s.channel c).state = .preDischarge → (s.channel c).hold = .empty)
    ∧ ((s.channel c).state = .held → (s.channel c).hold ≠ .empty)

/-- R152, R161, R187: SC's copies are what RU, SAU and DC hold now. -/
def State.copiesCurrent (s : State) : Prop :=
  (∀ z : ZoneId, z ≠ 0 →
    (s.zoneView z).status = s.zoneStatus z ∧ (s.zoneView z).count = (s.roster z).length
      ∧ (s.zoneView z).alarm = s.alarmCondition z)
    ∧ ∀ d : DoorId, s.doorView d = (s.door d).view

/-- R152, R46: what SAU knows of a tracked zone is what RU and CSU hold now. -/
def State.loneCopiesCurrent (s : State) : Prop :=
  ∀ z : ZoneId, z ≠ 0 →
    (s.lone z).count = (s.roster z).length ∧ (s.lone z).sole = soleOf (s.roster z)
      ∧ (s.lone z).afterHours = s.afterHours z

/-- R190: law 12 in SAU's own values: a timer out of IDLE has a lone condition. -/
def State.loneOnlyAlone (s : State) : Prop :=
  ∀ z : ZoneId, (s.lone z).state ≠ .idle → (s.lone z).condition.isSome = true

/-- R46: every after-hours flag tells whether the zone's staffed schedule covers now. -/
def State.afterHoursCurrent (s : State) : Prop :=
  ∀ z : ZoneId, s.afterHours z = !s.csu.covers (s.zone z).staffed

/-- The credential numbers of the whole pool. -/
def State.rosterNumbers (s : State) : List Nat := allZones.flatMap (fun z => (s.roster z).map RosterEntry.number)

/-- 7.1: law 3. -/
def State.standsOnce (s : State) : Prop := s.rosterNumbers.Nodup

/-- 7.1: law 4, and zone 0 has no roster. -/
def State.poolBounded (s : State) : Prop := s.poolCount ≤ 240 ∧ s.roster 0 = []

/-- R117: law 6, the bolt command of a strongroom. -/
def State.boltOnlyOpen (s : State) : Prop :=
  ∀ d : DoorId, (s.door d).entry.kind = .strongroom → (s.door d).boltCommand = .withdrawn →
    (s.door d).state = .unbolted ∨ (s.door d).state = .opened ∨ (s.door d).state = .heldOpen

/-- 3.4: law 8; a write under way holds the port (R62). -/
def State.cacheSound (s : State) : Prop :=
  (s.csc.cache.map CacheEntry.number).Nodup
    ∧ (∀ w, s.csc.write = some w → w.stage ≠ .waiting → s.csc.port = .write)
    ∧ ∀ e ∈ s.csc.cache, s.csc.underWrite (homeBucket e.number) = false

/-- R57: at most 8 requests, no two of one bucket, only the head in its cycle, each waiter in the request of its home bucket, and at
most 8 waiting numbers. R54: at most 48 cache entries, those in FETCHING being of waiting numbers. -/
def State.fetchesSound (s : State) : Prop :=
  s.csc.queue.length ≤ 8 ∧ (s.csc.queue.map FetchRequest.bucket).Nodup ∧ (∀ r ∈ s.csc.queue.drop 1, r.inCycle = false)
    ∧ (∀ r ∈ s.csc.queue, ∀ w ∈ r.waiters, w.number % 2048 = r.bucket) ∧ (waitingNumbers s.csc.queue).length ≤ 8
    ∧ s.csc.cache.length ≤ 48
    ∧ ∀ e ∈ s.csc.cache, e.state = .fetching → ∃ r ∈ s.csc.queue, ∃ w ∈ r.waiters, w.number = e.number

/-- R207: law 9, the length of the event queue. -/
def State.eventsBounded (s : State) : Prop := s.sp.events.length ≤ 64

/-- R186: law 10; the numbers of the records are distinct too (R184). -/
def State.alarmsSound (s : State) : Prop :=
  s.sau.alarms.length ≤ 16 ∧ (s.sau.alarms.map AlarmRecord.identity).Nodup
    ∧ (s.sau.alarms.map AlarmRecord.number).Nodup ∧ (∀ r ∈ s.sau.alarms, 1 ≤ r.number ∧ r.number ≤ 255)
    ∧ 1 ≤ s.sau.nextNumber ∧ s.sau.nextNumber ≤ 255

/-- R73: the pending presentation list holds at most 8, each of another reader. -/
def State.waitingSound (s : State) : Prop :=
  s.pe.waiting.length ≤ 8 ∧ (s.pe.waiting.map Presentation.reader).Nodup

/-- R198: no station frame waits for SP between commands (log 6). -/
def State.intakeEmpty (s : State) : Prop := s.sp.intake = []

/-- R17, R200, R208, R38: the queues and lists of fixed length stay in it, and the holidays ascend. -/
def State.listsBounded (s : State) : Prop :=
  s.rm.queue.length ≤ 32 ∧ s.sp.replies.length ≤ 4 ∧ s.sp.forwards.length ≤ 16 ∧ s.csu.holidays.length ≤ 32
    ∧ s.csu.holidays.Pairwise (· < ·)

/-! ## What the statements say of doors, passages and channels -/

/-- R1, R2, R22: a valid loop frame has been heard in millisecond `ms` (log 4): the silence timer restarts, and DEAD ends.
That RING_ALIVE comes before the events of the same frame is the model's (DESIGN CHOICE, log 15). -/
def State.heardAt (s : State) (ms : Nat) : State :=
  { s with
    csu := { s.csu with ms := ms }
    rm := { s.rm with
      silence := some (s.csu.ticks + 10), ring := if s.rm.ring = .dead then RingState.split else s.rm.ring }
    sp := if s.rm.ring = .dead then s.sp.enqueue (s.event .ringAlive) else s.sp }

/-- R8: at millisecond `ms` of the running second, fewer than 2000 ms have gone since the acceptance that the entry records, counted
on the ticks (log 2): the acceptance time itself stops with uptime (R28). -/
def State.acceptedLately (s : State) (x : Device) (ms : Nat) : Prop :=
  s.csu.ticks * 1000 + ms < x.acceptTick * 1000 + x.acceptMs % 1000 + 2000

/-- R12, R208: the copy of a frame that FC offers the forward queue. -/
def State.copied (s : State) (c : ForwardCopy) : State :=
  if s.sp.forwards.length < 16 then { s with sp := { s.sp with forwards := s.sp.forwards ++ [c] } }
  else { s with sp := { s.sp with overflow := true } }

/-- R161: SC's copy of the door is what DC holds, and no channel stands at either of its zones. -/
def State.noChannelAt (s : State) (k : DoorId) : Prop :=
  s.doorView k = (s.door k).view ∧ s.channelOf (s.door k).entry.outer = none ∧ s.channelOf (s.door k).entry.inner = none

/-- R97, R161: door `k` is `y`, and SC has been told its contact. -/
def State.toldDoor (s : State) (k : DoorId) (y : Door) : State :=
  (s.setDoor k y).setDoorView k (some { outer := y.entry.outer, inner := y.entry.inner, contact := y.contact })

/-- R142, R145: RU once the tracked ones of two zones are UNKNOWN. -/
def Ru.bothUnknown (r : Ru) (outer inner : ZoneId) : Ru :=
  let one (z : ZoneId) (r : Ru) : Ru := if z = 0 then r else { r with status := r.status.set z .unknown z.isLt }
  one inner (one outer r)

/-- R142, R145, R206: the event queue after some records and the ZONE_UNKNOWN of each tracked zone of the two that was KNOWN, the
outer one first (log 15). -/
def State.unknownTold (s : State) (outer inner : ZoneId) (first : List EventRecord) : Sp :=
  let unknown (z : ZoneId) (p : Sp) : Sp :=
    if z ≠ 0 ∧ s.zoneStatus z = .known then p.enqueue (s.event .zoneUnknown (zone := some z) (reason := some 1)) else p
  let p := first.foldl Sp.enqueue s.sp
  if outer = inner then unknown outer p else unknown inner (unknown outer p)

/-- R106, R146: from `s`, door `k` becomes `x` by an opening that names no one, told by the records `first` (log 15). -/
def State.openedUnattributed (s t : State) (k : DoorId) (x : Door) (first : List EventRecord) : Prop :=
  t.door k = x ∧ (∀ j, j ≠ k → t.door j = s.door j)
    ∧ t.ru = s.ru.bothUnknown x.entry.outer x.entry.inner
    ∧ t.sp = s.unknownTold x.entry.outer x.entry.inner first
    ∧ t.rm = s.rm ∧ t.sau = s.sau ∧ s.keepsFront t

/-- R143, R144: RU once one credential of a passage has gone to zone `dest`: it leaves every list and joins the tail of the
destination's if there is room; else that zone becomes UNKNOWN. -/
def Ru.moved (r : Ru) (dest : ZoneId) (custodian : Bool) (now : Nat) (c : PassageCred) : Ru :=
  let left (z : ZoneId) : List RosterEntry := (r.rosters.get z).filter (fun e => e.number != c.number)
  let rosters : Vector (List RosterEntry) 12 := Vector.ofFn left
  if dest = 0 then { r with rosters }
  else if (left dest).length < (r.zones.get dest).limit ∧ (allZones.map (fun z => (left z).length)).sum < 240 then
    { r with rosters :=
        rosters.set dest (left dest ++ [{ number := c.number, cls := c.cls, entered := now, custodian }]) dest.isLt }
  else { r with rosters, status := r.status.set dest .unknown dest.isLt }

/-- R143, R145: RU once a passage is applied: its credentials move in the order of the list; a passage that names no one makes both
tracked zones UNKNOWN. -/
def State.passageMoved (s : State) (p : Passage) : Ru :=
  match p.direction, p.list with
  | .entry, c :: l => (c :: l).foldl (fun r c => r.moved p.inner p.custodian s.uptime c) s.ru
  | .exit, c :: l => (c :: l).foldl (fun r c => r.moved p.outer p.custodian s.uptime c) s.ru
  | .station, _ :: _ => s.ru.bothUnknown p.outer p.inner
  | _, [] => s.ru.bothUnknown p.outer p.inner

/-- No channel is bound to a zone, and no SOUNDER stands for one. -/
def State.noListeners (s : State) : Prop :=
  (∀ z, s.channelOf z = none) ∧ ∀ (d : DevIx) (z : ZoneId), (s.device d).role ≠ .sounderZone z

/-- R144, R206: the event queue once the credentials of passage `p` through door `k` have moved: each that finds no room is told by
ROSTER_OVERFLOW, reason ZONE or POOL, and then, if its destination was KNOWN, by ZONE_UNKNOWN CAPACITY. -/
def State.movesTold (s : State) (k : DoorId) (p : Passage) : Sp :=
  let dest : ZoneId := if p.direction = .exit then p.outer else p.inner
  let one (a : Ru × Sp) (c : PassageCred) : Ru × Sp :=
    let left (z : ZoneId) : List RosterEntry := (a.1.rosters.get z).filter (fun e => e.number != c.number)
    let inZone : Bool := decide ((left dest).length < (a.1.zones.get dest).limit)
    let inPool : Bool := decide ((allZones.map (fun z => (left z).length)).sum < 240)
    let told : Sp := a.2.enqueue (s.event .rosterOverflow (door := some k) (zone := some dest)
      (subject := some (.credential c.number)) (reason := some (if inZone = true then 2 else 1)))
    (a.1.moved dest p.custodian s.uptime c,
      if dest = 0 ∨ (inZone = true ∧ inPool = true) then a.2
      else if a.1.status.get dest = .known then
        told.enqueue (s.event .zoneUnknown (zone := some dest) (reason := some 2))
      else told)
  (p.list.foldl one (s.ru, s.sp)).2

/-- R99: the PASSAGE of a passage record through door `k`. -/
def State.passageEvent (s : State) (k : DoorId) (p : Passage) : EventRecord :=
  s.event .passage (door := some k) (zone := some (if p.direction = .exit then p.outer else p.inner))
    (subject := p.list.head?.map (fun c => Subject.credential c.number))
    (reason := some (match p.direction with | .entry => 1 | .exit => 2 | .station => 3))

/-- R99, R143 to R145: passage `p` is confirmed at door `k`: RU applies it, and PASSAGE follows (log 15). -/
def State.passageConfirmed (s t : State) (k : DoorId) (p : Passage) : Prop :=
  t.ru = s.passageMoved p ∧ t.dc = s.dc ∧ t.sau.alarms = s.sau.alarms ∧ s.keepsFront t
    ∧ (s.noListeners → t.rm = s.rm
      ∧ (p.list = [] ∨ p.direction = .station → t.sp = (s.unknownTold p.outer p.inner []).enqueue (s.passageEvent k p))
      ∧ (p.list ≠ [] → p.direction ≠ .station → t.sp = (s.movesTold k p).enqueue (s.passageEvent k p)))

/-- R79 to R87: checks 3 to 12 pass for a record: an entry is granted. -/
def State.passesChecks (s : State) (p : Presentation) (r : CredRecord) : Prop :=
  s.checkRecord p r = none ∧ s.checkPin (s.door p.door).entry r p.pin = .pass ∧ s.passbackZone p r = none
    ∧ s.zoneLockedOut (s.door p.door).entry.inner = false ∧ s.noCapacity p r.cls = none
    ∧ s.needsEscort (s.door p.door).entry r = false

/-- R89, R90: GRANT for a presentation, naming the zone it leads to. -/
def State.grantTold (s : State) (p : Presentation) (number : Option Nat) : EventRecord :=
  let e := (s.door p.door).entry
  s.event .grant (door := some p.door) (zone := some (match p.side with | .entry => e.inner | .exit => e.outer))
    (subject := number.map Subject.credential) (reason := some (match p.side with | .entry => 1 | .exit => 2))

/-- R165: the channel once the countdown has started: HELD at once if a hold cause stands. -/
def Channel.countingDown (ch : Channel) : Channel :=
  { ch with
    state := if ch.hold.isEmpty = true then .preDischarge else .held
    countdown := ch.countdownLength, countdownDue := false, abortSeen := ch.hold.abort }

/-- R165: CHANNEL_PRE_DISCHARGE with the countdown's length, or CHANNEL_HELD with the hold-cause set. -/
def State.countdownTold (s : State) (c : ChannelId) : EventRecord :=
  let ch := s.channel c
  if ch.hold.isEmpty = true then
    s.event .channelPreDischarge (zone := ch.zone) (channel := some c) (reason := some ch.countdownLength)
  else s.event .channelHeld (zone := ch.zone) (channel := some c) (reason := some ch.hold.bits)

/-- R4, R5, Table 1-1: the first three bytes of a DEVICE entry name this kind with its binding. -/
def writesRole (l : List Byte) (r : DevRole) : Prop :=
  let kind : Nat := (byteAt l 0).toNat
  let a : Nat := (byteAt l 1).toNat
  let b : Nat := (byteAt l 2).toNat
  match r with
  | .noDevice => kind = 0
  | .reader k side => kind = 1 ∧ a = k.val ∧ b = (match side with | .entry => 0 | .exit => 1)
  | .doorUnit k => kind = 2 ∧ a = k.val
  | .detector c g => kind = 3 ∧ a = c.val ∧ b = (match g with | .groupA => 0 | .groupB => 1)
  | .abortStation c => kind = 4 ∧ a = c.val
  | .releaseStation c => kind = 5 ∧ a = c.val
  | .pendantReceiver z => kind = 6 ∧ a = z.val
  | .sounderFree => kind = 7 ∧ b = 0
  | .sounderChannel c => kind = 7 ∧ b = 1 ∧ a = c.val
  | .sounderZone z => kind = 7 ∧ b = 2 ∧ a = z.val ∧ z ≠ 0
  | .display => kind = 8
  | .other => kind = 9

/-- R158: every latch of the channel's detectors is cleared. -/
def State.latchesCleared (s : State) (c : ChannelId) : State :=
  let cleared (d : DevIx) : ScDevice :=
    if (s.device d).role = .detector c .groupA ∨ (s.device d).role = .detector c .groupB then { s.scDev d with latch := false }
    else s.scDev d
  { s with sc := { s.sc with devs := Vector.ofFn cleared } }

/-- R175: from `s`, in which a key of the channel has just let go, the channel leaves LOCKED_OUT if no demand is left. -/
def State.keyLetGo (s : State) (c : ChannelId) : State :=
  let ch := s.channel c
  if ch.state = .lockedOut ∧ ch.stationLockout = false ∧ ∀ g, s.key g ≠ some c then
    ((s.latchesCleared c).setChannel c
      { ch with state := match ch.zone with | some _ => .normal | none => .unused, abortSeen := false }).tells
      (s.event .channelRestored (zone := ch.zone) (channel := some c) (reason := some 2))
  else s

/-- R176, Table 8-4: the channel's fault flags after the presence of its devices has changed. -/
def State.missingFlags (s : State) (c : ChannelId) (f : FaultFlags) : Prop :=
  f.confirmFailed = (s.channel c).flags.confirmFailed ∧ f.driveFault = (s.channel c).flags.driveFault
    ∧ (f.detectorMissing = true ↔ ∃ d g, (s.device d).role = .detector c g ∧ (s.device d).presence = .missing)
    ∧ (f.abortMissing = true ↔ ∃ d, (s.device d).role = .abortStation c ∧ (s.device d).presence = .missing)

/-- R97: an opening or closing of door `k` is recorded with the bolt its unit reported. -/
def Door.reported (x : Door) (contact : Contact) (b : Bolt) : Door := { x with contact, bolt := some b }

/-- R105, R128: what becomes of a door in LOCKED or SECURED whose unit reports it open: OPEN when the handle or a first report
shows it, else FORCED, with the event that says so. -/
def State.judged (s : State) (k : DoorId) (x : Door) (b : Bolt) (handle : Bool) : Door × EventRecord :=
  let y := x.reported .opened b
  if x.contact = .unknown ∨ handle = true then
    ({ y with state := .opened, unlock := none, passage := none, held := some (s.csu.ticks + x.entry.heldLimit) },
      s.event .unattributedEgress (door := some k) (zone := some x.entry.inner)
        (reason := some (if x.contact = .unknown then 2 else 1)))
  else ({ y with state := .forced }, s.event .doorForced (door := some k) (zone := some x.entry.inner))

/-- R165, R177: the countdown of a channel starts: its record, the event, and the tone pattern. -/
def State.countdownStarted (s : State) (c : ChannelId) : State :=
  let ch := s.channel c
  ((s.setChannel c ch.countingDown).tells (s.countdownTold c)).patternTold c
    (if ch.hold.isEmpty = true then .preDischarge else .held)

/-- R162, R165: what DC does when the channel enters the lockout set, if it has a zone; LockoutAndFaultEndResult states it. -/
def State.lockoutSetEntered (s : State) (c : ChannelId) : State :=
  match (s.channel c).zone with
  | some z => s.lockoutEntered z
  | none => s

/-- R166, R177: the hold causes `h`, which are not empty, stop the countdown. -/
def State.countdownHeld (s : State) (c : ChannelId) (h : HoldSet) : State :=
  let ch := s.channel c
  ((s.setChannel c
      { ch with hold := h, state := .held, countdownDue := false, abortSeen := ch.abortSeen || h.abort }).patternTold c .held).tells
    (s.event .channelHeld (zone := ch.zone) (channel := some c) (reason := some h.bits))

/-- R167, R177: the last hold cause has gone, and the countdown goes on, from the whole length if an abort was held in RESTART
mode. -/
def State.countdownResumed (s : State) (c : ChannelId) : State :=
  let ch := s.channel c
  let reload : Bool := decide (ch.abortMode = .restart) && ch.abortSeen
  let count : Nat := if reload then ch.countdownLength else ch.countdown
  ((s.setChannel c
      { ch with
        hold := .empty, state := .preDischarge, countdown := count, countdownDue := false, abortSeen := false }).patternTold c
      .preDischarge).tells
    (s.event .channelResumed (zone := ch.zone) (channel := some c)
      (reason := some ((if reload then 0x0100 else 0x0200) + count % 256)))

/-- R173, R174, R177: the channel has come from state `old` to one of pattern OFF: its SOUNDERs are sent OFF, as a change of pattern
only if `old` has another (log 17). -/
def State.silenced (s : State) (c : ChannelId) (old : ChannelState) : State :=
  match old with
  | .unused | .normal | .firstAlarm | .lockedOut => s.toned (s.sounders c) .off
  | .preDischarge | .held | .releasing | .discharged => s.patternTold c .off

/-- A state of a channel in which a change of its hold-cause set is recorded and nothing more (R160). -/
def ChannelState.onlyRecords (st : ChannelState) : Prop := st = .unused ∨ st = .normal ∨ st = .firstAlarm ∨ st = .lockedOut

/-! ## The bytes of the table entries (Table 11-6) -/

/-- Fields of one byte. -/
def singles (l : List Nat) : List Byte := l.map (BitVec.ofNat 8)

/-- R214: a field that is 0xFF when it names nothing. -/
def orNone (n : Option Nat) : Nat := n.getD 255

/-- R214: the six bytes of a stamp. -/
def stampBytes : Stamp → List Byte
  | .clock day second drift => singles [weight drift 2] ++ bytes2 day ++ bytes3 second
  | .uptime seconds drift => singles [1 + weight drift 2, 0] ++ bytes4 seconds

/-- Table 11-6: DEVICE, 12 bytes; a binding byte that the kind does not use is 0 (log 33). -/
def State.deviceEntry (s : State) (d : DevIx) : List Byte :=
  let x := s.device d
  let role : List Nat := match x.role with
    | .noDevice => [0, 0, 0]
    | .reader k side => [1, k.val, match side with | .entry => 0 | .exit => 1]
    | .doorUnit k => [2, k.val, 0]
    | .detector c g => [3, c.val, match g with | .groupA => 0 | .groupB => 1]
    | .abortStation c => [4, c.val, 0]
    | .releaseStation c => [5, c.val, 0]
    | .pendantReceiver z => [6, z.val, 0]
    | .sounderFree => [7, 0, 0]
    | .sounderChannel c => [7, c.val, 1]
    | .sounderZone z => [7, z.val, 2]
    | .display => [8, 0, 0]
    | .other => [9, 0, 0]
  singles role
    ++ singles [weight x.report 1 + weight x.supervised 2 + weight x.foreign 4 + weight x.lastHeard.isSome 8,
        match x.presence with | .unseen => 0 | .present => 1 | .missing => 2,
        match x.reach with | none => 0 | some .endA => 1 | some .endB => 2, x.health.toNat]
    ++ bytes4 (x.lastHeard.getD 0) ++ singles [orNone (x.lastSeq.map BitVec.toNat)]

/-- 11.5: the states of a door in the order of Table 6-1 for a STRONGROOM and of Table 5-2 for any other door. -/
def doorStates : DoorKind → List DoorState
  | .strongroom => [.secured, .custodyWait, .delay, .confirmWait, .unbolted, .opened, .heldOpen, .forced, .fault]
  | .noDoor | .plain => [.locked, .unlocked, .opened, .heldOpen, .forced, .fault]

/-- Table 11-6: DOOR, 34 bytes, of a door whose state stands at place `state` of its list; the codes are those of log 10, and a
door unit of none is 0 (log 33). -/
def State.doorEntry (s : State) (k : DoorId) (state : Nat) : List Byte :=
  let x := s.door k
  let e := x.entry
  let address (d : DevIx) : Nat := d.val + 1
  let passenger (i : Nat) : Nat :=
    match x.passage with | some p => (p.list[i]?.map PassageCred.number).getD 0 | none => 0
  singles [match e.kind with | .noDoor => 0 | .plain => 1 | .strongroom => 2, e.outer.val, e.inner.val,
      orNone (e.entryReader.map address), orNone (e.exitReader.map address), (e.unit.map address).getD 0, e.schedule.val,
      e.unlockWindow]
    ++ bytes2 e.heldLimit
    ++ singles [match e.pinMode with | .never => 0 | .always => 1 | .afterHours => 2,
        match e.passback with | .noCheck => 0 | .soft => 1 | .strict => 2, e.pairing]
    ++ bytes2 e.timeDelay ++ bytes2 e.confirmWindow
    ++ singles [state, match x.contact with | .closed => 0 | .opened => 1 | .unknown => 2,
        match x.bolt with | some .thrown => 0 | some .withdrawn => 1 | none => 2,
        (match x.boltCommand with | .thrown => 0 | .withdrawn => 1) + weight x.mismatch 2,
        match x.passage with
        | none => 0
        | some p => match p.direction with | .entry => 1 | .exit => 2 | .station => 3]
    ++ bytes3 (passenger 0) ++ bytes3 (passenger 1)
    ++ bytes3 (match x.slot, x.custodyA with | some e, _ => e.number | none, some a => a.number | none, none => 0)
    ++ bytes3 ((x.custodyB.map Custodian.number).getD 0)

/-- Table 11-6: ZONE, 9 bytes. -/
def State.zoneEntry (s : State) (z : ZoneId) : List Byte :=
  let e := s.zone z
  singles [e.limit, e.staffed.val, e.checkIn] ++ bytes2 e.grace
    ++ singles [orNone ((s.channelOf z).map Fin.val), match s.zoneStatus z with | .known => 0 | .unknown => 1,
        (s.roster z).length, weight (s.afterHours z) 1]

/-- Table 11-6: CHANNEL, 21 bytes; the order of the fault flags is log 9, the codes of log 10. -/
def State.channelEntry (s : State) (c : ChannelId) : List Byte :=
  let ch := s.channel c
  let latched (d : DevIx) : Bool :=
    ((s.device d).role == .detector c .groupA || (s.device d).role == .detector c .groupB) && (s.scDev d).latch
  singles [orNone (ch.zone.map Fin.val), ch.countdownLength, match ch.abortMode with | .pause => 0 | .restart => 1,
      match ch.coincidence with | true => 0 | false => 1, ch.driveTime, ch.confirmTimeout]
    ++ bytes2 ch.soakTime
    ++ singles [
        match ch.state with
        | .unused => 0
        | .normal => 1
        | .firstAlarm => 2
        | .preDischarge => 3
        | .held => 4
        | .releasing => 5
        | .discharged => 6
        | .lockedOut => 7,
        ch.countdown,
        ch.hold.bits,
        weight ch.flags.detectorMissing 1 + weight ch.flags.abortMissing 2 + weight ch.flags.confirmFailed 4
          + weight ch.flags.driveFault 8,
        weight ch.soakComplete 1 + weight ch.stationLockout 2 + weight (allInputs.any (fun g => s.key g == some c)) 4
          + weight ch.abortSeen 8]
    ++ bytes8 ((allDevices63.map (fun d => weight (latched d) (2 ^ (d.val + 1)))).sum)

/-- Table 11-6: SCHEDULE, 21 bytes; an empty slot is five zeros (log 33). -/
def State.scheduleEntry (s : State) (n : SchedId) : List Byte :=
  let slot (i : Fin 4) : List Byte :=
    match (s.csu.schedules.get n).get i with
    | some x => x.mask :: bytes2 x.start ++ bytes2 x.length
    | none => [0, 0, 0, 0, 0]
  slot 0 ++ slot 1 ++ slot 2 ++ slot 3 ++ singles [if n = 0 then 1 else 0]

/-- Table 11-6: LINE, 3 bytes; an UNUSED line's binding and qualifier are 0 (log 33); of a LEVEL line ACTIVE is 1 and INACTIVE 0
(DESIGN CHOICE, log 48). -/
def State.lineEntry (s : State) (g : GiId) : List Byte :=
  let function : List Nat := match s.lineFunction g with
    | .unused => [0, 0]
    | .staffButton z => [1, z.val]
    | .zoneClearKey z => [2, z.val]
    | .lockoutKey c => [3, c.val]
  singles function
    ++ singles [match (s.line (.general g)).qualifier with
      | .unqualified => 0
      | .level active _ => weight active 1
      | .pulse .ready _ => 0
      | .pulse .pressed _ => 1
      | .pulse .spent _ => 2]

/-- Table 11-6: ROSTER, 10 bytes, of an entry of zone `z`. -/
def rosterEntry (z : ZoneId) (e : RosterEntry) : List Byte :=
  bytes3 e.number
    ++ singles [z.val, match e.cls with | .staff => 0 | .custodian => 1 | .contractor => 2 | .visitor => 3]
    ++ bytes4 e.entered ++ singles [weight e.custodian 1]

/-- Table 11-6: ALARM, 24 bytes, with this presence byte, which is a free value (log 8). -/
def alarmEntry (r : AlarmRecord) (presence : Byte) : List Byte :=
  let kind : Nat := match r.identity with
    | .duress _ => 0
    | .personal _ => 1
    | .manDown _ => 2
    | .button _ => 3
    | .overdue _ => 4
  let credential : Nat := match r.identity with | .duress n | .overdue n => n | .personal _ | .manDown _ | .button _ => 0
  let pendant : Nat := match r.identity with | .personal n | .manDown n => n | .duress _ | .overdue _ | .button _ => 0
  let line : Nat := match r.identity with | .button g => g.val | .duress _ | .overdue _ | .personal _ | .manDown _ => 0
  singles [r.number, kind, r.zone.val] ++ bytes3 credential ++ bytes2 pendant
    ++ singles [line, (r.door.map Fin.val).getD 0] ++ [presence] ++ singles [weight r.acked.isSome 1] ++ stampBytes r.raised
    ++ (match r.acked with | some t => stampBytes t | none => [0, 0, 0, 0, 0, 0])

/-! ## The bytes of an event record and of a forwarded copy (11.6, R214) -/

/-- Table 11-10: the code of an event kind, and its class. -/
def eventLine : EventKind → Nat × EventClass
  | .ringSplit => (0x01, .alarm)
  | .ringClosed => (0x02, .routine)
  | .ringDead => (0x03, .alarm)
  | .ringAlive => (0x04, .routine)
  | .foreignDevice => (0x05, .routine)
  | .deviceMissing => (0x06, .alarm)
  | .deviceReturned => (0x07, .routine)
  | .deviceTrouble => (0x08, .routine)
  | .deviceTroubleCleared => (0x09, .routine)
  | .transmitDisplaced => (0x0A, .routine)
  | .timebaseDegraded => (0x10, .alarm)
  | .timebaseRestored => (0x11, .routine)
  | .clockEpochEnd => (0x12, .alarm)
  | .clockSet => (0x13, .routine)
  | .storeFault => (0x18, .alarm)
  | .credChanged => (0x19, .routine)
  | .deny => (0x20, .routine)
  | .lostCardPresented => (0x21, .alarm)
  | .rosterFull => (0x22, .routine)
  | .grant => (0x23, .routine)
  | .passbackSoft => (0x24, .routine)
  | .passage => (0x30, .routine)
  | .grantUnused => (0x31, .routine)
  | .unattributedEgress => (0x32, .routine)
  | .doorForced => (0x33, .alarm)
  | .doorHeldOpen => (0x34, .alarm)
  | .doorClosedAfterHeld => (0x35, .routine)
  | .doorClosedAfterForced => (0x36, .routine)
  | .doorFault => (0x37, .alarm)
  | .doorFaultCleared => (0x38, .routine)
  | .escortWaiting => (0x39, .routine)
  | .stationGrant => (0x3A, .routine)
  | .custodyStarted => (0x3B, .routine)
  | .delayStarted => (0x3C, .routine)
  | .confirmOpen => (0x3D, .routine)
  | .strongroomUnbolted => (0x3E, .routine)
  | .strongroomCancelled => (0x3F, .routine)
  | .boltMismatch => (0x40, .alarm)
  | .boltMismatchCleared => (0x41, .routine)
  | .zoneUnknown => (0x48, .routine)
  | .rosterOverflow => (0x49, .routine)
  | .zoneVerified => (0x4A, .routine)
  | .zoneVerifyRefused => (0x4B, .routine)
  | .detectorAlarm => (0x50, .alarm)
  | .detectorFault => (0x51, .alarm)
  | .detectorNormal => (0x52, .routine)
  | .manualRelease => (0x53, .alarm)
  | .channelFirstAlarm => (0x54, .alarm)
  | .channelPreDischarge => (0x55, .alarm)
  | .channelHeld => (0x56, .alarm)
  | .holdChanged => (0x57, .routine)
  | .channelResumed => (0x58, .alarm)
  | .channelRelease => (0x59, .alarm)
  | .releaseConfirmed => (0x5A, .routine)
  | .releaseConfirmFailed => (0x5B, .alarm)
  | .valveUncommanded => (0x5C, .alarm)
  | .holdAfterRelease => (0x5D, .alarm)
  | .soakComplete => (0x5E, .routine)
  | .channelReset => (0x5F, .routine)
  | .channelLockedOut => (0x60, .routine)
  | .channelRestored => (0x61, .routine)
  | .driveFault => (0x62, .alarm)
  | .driveFaultCleared => (0x63, .routine)
  | .staffAlarmRaised => (0x70, .alarm)
  | .staffAlarmRepeat => (0x71, .alarm)
  | .staffAlarmAcked => (0x72, .routine)
  | .staffAlarmCleared => (0x73, .routine)
  | .alarmTableFull => (0x74, .alarm)
  | .alarmOverflowCleared => (0x75, .routine)
  | .loneWorkerPrompt => (0x76, .routine)
  | .loneWorkerCheckedIn => (0x77, .routine)
  | .powerOn => (0x7E, .alarm)
  | .restarted => (0x7F, .alarm)

/-- Table 11-9: the seventeen bytes of an event record; a field it does not name is 0 (R214). -/
def eventBytes (e : EventRecord) : List Byte :=
  let line := eventLine e.kind
  let subject : Nat × Nat := match e.subject with
    | none => (0, 0)
    | some (.credential n) => (8, n)
    | some (.pendant n) => (8 + 32, n)
    | some (.device d) => (8 + 64, d.val + 1)
  singles [line.1, match line.2 with | .routine => 0 | .alarm => 1] ++ stampBytes e.stamp
    ++ singles [weight e.door.isSome 1 + weight e.zone.isSome 2 + weight e.channel.isSome 4 + subject.1 + weight e.reason.isSome 16,
        (e.door.map Fin.val).getD 0, (e.zone.map Fin.val).getD 0, (e.channel.map Fin.val).getD 0]
    ++ bytes3 subject.2 ++ bytes2 (e.reason.getD 0)

/-- R208, R214: a forwarded copy: the frame's LEN as received, its header, at most 34 bytes of its payload, and its end. -/
def copyBytes (c : ForwardCopy) : List Byte :=
  let f := c.frame
  [BitVec.ofNat 8 f.payload.length, f.dst, f.src, f.kind, f.seqByte] ++ f.payload.take 34
    ++ singles [match c.arrival with | .endA => 0 | .endB => 1]

/-! ## A RESTART -/

/-- R211, R26, R27, R47, R70, R94, R115, R136, R154, R179, R197: what a RESTART that takes effect makes of every block, the reply
list aside. RM's treatment of a frame in transmission is log 27, that of a running bucket read log 21, the order of blocks, doors
and sounders log 28, the interval and the prompt count of a timer in IDLE and the prompt count of one in RUNNING log 35. -/
def State.restarted (s t : State) : Prop :=
  let now := s.csu.ticks
  let busy : Nat := match s.rm.tx with | .entry _ => 1 | .idle => 0 | .sweep _ _ _ => 0
  let lost (d : DevIx) : Prop := (s.device d).presence = .missing
  let lockFrames : List (Byte × List Byte) := allDoors.filterMap (fun k => match (s.door k).entry.kind with
    | .noDoor => none
    | .plain => (s.door k).entry.unit.map (fun d => (BitVec.ofNat 8 (d.val + 1), [0x02]))
    | .strongroom => (s.door k).entry.unit.map (fun d => (BitVec.ofNat 8 (d.val + 1), [0x04])))
  let silenced : List DevIx := allDevices63.filter (fun d => match (s.device d).role with
    | .sounderChannel _ => true
    | .sounderZone z => (s.channelOf z).isSome
    | .noDevice | .reader _ _ | .doorUnit _ | .detector _ _ | .abortStation _ | .releaseStation _ | .pendantReceiver _
    | .sounderFree | .display | .other => false)
  (t.rm.ring = .split ∧ t.rm.missCount = 0 ∧ t.rm.returnCount = 0 ∧ t.rm.sweepWaiting = false ∧ t.rm.pendingSweep = none
      ∧ t.rm.nextSweep = 0 ∧ t.rm.sweepTimer = some (now + 2) ∧ t.rm.silence = some (now + 10)
      ∧ t.rm.tx = (match s.rm.tx with | .sweep n k _ => .sweep n k false | .entry e => .entry e | .idle => .idle))
    ∧ (∀ d, t.device d =
      { role := (s.device d).role, report := (s.device d).report, supervised := (s.device d).supervised
        lastHeard := none, lastSeq := none, acceptMs := 0, acceptTick := 0, reach := none, presence := .unseen
        watchStart := s.uptime, since := now, foreign := false, health := 0 })
    ∧ (∀ z, t.afterHours z = !s.csu.covers (s.zone z).staffed)
    ∧ t.csu = { s.csu with afterHours := t.csu.afterHours }
    ∧ t.csc =
      { cache := [], queue := [], write := none, look := none
        port := match s.csc.port, s.csc.queue with
          | .fetch, r :: _ => .orphan r.attempt r.firstNumber
          | .orphan a n, _ => .orphan a n
          | .fetch, [] | .idle, _ | .write, _ => .idle }
    ∧ t.pe.waiting = []
    ∧ (∀ k, t.door k =
      { Door.powerOn with
        entry := (s.door k).entry, state := if (s.door k).entry.kind = .strongroom then .secured else .locked
        settle := if (s.door k).entry.kind = .strongroom then some (now + 5) else none })
    ∧ t.ru = s.ru
    ∧ (∀ c, ∃ h f, t.channel c = { s.channel c with hold := h, flags := f }
      ∧ f.confirmFailed = (s.channel c).flags.confirmFailed ∧ f.driveFault = (s.channel c).flags.driveFault
      ∧ ((∃ d, lost d ∧ ((∃ g, (s.device d).role = .detector c g) ∨ (s.device d).role = .abortStation c)) →
          f.detectorMissing = false ∧ f.abortMissing = false)
      ∧ ((∀ d, lost d → (∀ g, (s.device d).role ≠ .detector c g) ∧ (s.device d).role ≠ .abortStation c) →
          f = (s.channel c).flags)
      ∧ (∀ z, z ≠ 0 → (s.channel c).zone = some z → (∀ e, (s.channel e).zone = some z → e = c) → s.copiesCurrent →
          (h.abort = true ↔ (s.channel c).abortLine = true
            ∨ ∃ d, (s.device d).role = .abortStation c ∧ (s.scDev d).abortHeld = true ∧ ¬ lost d)
          ∧ (h.occupied = true ↔ s.roster z ≠ []) ∧ (h.unknown = true ↔ s.zoneStatus z = .unknown)
          ∧ (h.alarm = true ↔ s.alarmOverflow z = true)
          ∧ (h.enclosure = true ↔ ∃ k, (s.door k).entry.kind ≠ .noDoor
            ∧ ((s.door k).entry.outer = z ∨ (s.door k).entry.inner = z))))
    ∧ (∀ d, (t.scDev d).level = (s.scDev d).level ∧ (t.scDev d).latch = (s.scDev d).latch
      ∧ (t.scDev d).release = (s.scDev d).release)
    ∧ t.sc.keys = s.sc.keys
    ∧ (∀ z, z ≠ 0 → (s.lone z).afterHours = s.afterHours z → t.lone z =
      (let after : Bool := !s.csu.covers (s.zone z).staffed
      let idle : Lone :=
        { count := (s.roster z).length, sole := none, afterHours := after, state := .idle, interval := 0, intervalTimer := none
          graceTimer := none, repeatTimer := none, prompts := 0 }
      match s.roster z with
      | [e] =>
        if after = true then
          { idle with
            sole := some e.number, state := .running, interval := (s.zone z).checkIn * 60
            intervalTimer := some (now + (s.zone z).checkIn * 60) }
        else { idle with sole := some e.number }
      | _ => idle))
    ∧ t.sau = { s.sau with lone := t.sau.lone }
    ∧ (t.sp.cursorTable = .device ∧ t.sp.cursorIndex = 0 ∧ t.sp.cause = .restartCommand ∧ t.sp.forwards = s.sp.forwards
      ∧ t.sp.rx = s.sp.rx ∧ t.sp.restartWaiting = false)
    ∧ ((t.sp.tx = s.sp.tx ∧ t.sp.seq = s.sp.seq) ∨ (s.sp.tx = .event ∧ t.sp.tx = .idle ∧ t.sp.seq = s.sp.seq + 1))
    ∧ t.pending = s.pending
    ∧ ((∀ z, (s.lone z).state ≠ .prompt) →
        (∀ j k d, (s.door j).entry.kind ≠ .noDoor → (s.door k).entry.kind ≠ .noDoor → (s.door j).entry.unit = some d →
          (s.door k).entry.unit = some d → j = k) →
        busy + lockFrames.length + silenced.length ≤ 32 →
      t.rm.queue.map (fun e => (e.frame.dst, e.frame.payload)) =
          (s.rm.queue.take busy).map (fun e => (e.frame.dst, e.frame.payload)) ++ lockFrames
            ++ silenced.map (fun d => (BitVec.ofNat 8 (d.val + 1), [0x05, 0x00, 0x00]))
        ∧ t.sp.events = (s.sp.enqueue (s.event .restarted)).events
        ∧ t.sp.overflow = (s.sp.enqueue (s.event .restarted)).overflow
        ∧ t.sp.seq = (s.sp.enqueue (s.event .restarted)).seq ∧ t.sp.tx = (s.sp.enqueue (s.event .restarted)).tx)

end Sys2Proof.Machine
end

