-- ==== Sys2Proof/WellFormed.lean ====
section
/-! DEFINITION. What the operand types leave open and a command's row fixes: lengths and ranges of what comes from
outside. Numbers of doors, channels and devices are in range by their types. A parameter that the station sends may have
any value: the owning rule answers it. -/

namespace Sys2Proof

/-- A line whose form is LEVEL, or may be by the LINE table (R157, R182). -/
def InputLine.mayBeLevel : InputLine → Bool
  | .abort _ => true
  | .valveConfirm _ => true
  | .manualRelease _ => false
  | .general _ => true

/-- A line whose form is PULSE, or may be by the LINE table (R157, R182). -/
def InputLine.mayBePulse : InputLine → Bool
  | .abort _ => false
  | .valveConfirm _ => false
  | .manualRelease _ => true
  | .general _ => true

/-- The checks on a command's operands. -/
def Instr.wellFormed : Instr → Bool
  | .loopFrameReceived _ ms _ => ms < 1000                                  -- R28: a millisecond part
  | .loopBoundStationFrame _ dst _ payload =>                               -- R199 case 4; Table 11-1
      ((1 ≤ dst.toNat && dst.toNat ≤ 63) || dst.toNat == 0x7F) && payload.length ≤ 40
  | .tableWrite _ entries => entries.length ≤ 39                            -- LEN at most 40, less the command code
  | .credPut _ slot => slot.length == 15                                    -- Table 11-4
  | .bucketReadComplete slots => slots.length == 4 && slots.all (fun b => b.length == 16)   -- R52
  | .readBackComplete slot => slot.length == 16                             -- R65
  | .stationLenOver40 len => 40 < len.toNat                                 -- R198
  | .levelLineChange line _ => line.mayBeLevel                              -- R180
  | .settleTimerExpiry line => line.mayBeLevel
  | .pulseLineChange line _ => line.mayBePulse                              -- R181
  | .pressTimerExpiry line => line.mayBePulse
  | .recoveryTimerExpiry line => line.mayBePulse
  | .intervalTimerExpiry zone => zone != 0                                  -- R190: tracked zones
  | .promptRepeat zone => zone != 0
  | .graceTimerExpiry zone => zone != 0
  | .powerOnReset _ | .loopFrameSent | .sweepDue | .sweepUnreturned | .silenceTimerExpiry | .deviceMissing _
  | .timebaseDegraded | .timebaseRestored | .clockAdvance | .stationFrameReceived _ | .stationFrameGap _
  | .tablePoint _ _ _ | .tableRead _ _ | .credDrop _ _ | .credLook _ _ | .holidayAdd _ _ | .holidayDrop _ _
  | .clockSet _ _ _ _ | .zoneVerifyClear _ _ | .zoneVerifyKeep _ _ | .zoneUnknown _ _ | .channelReset _ _
  | .channelLockout _ _ | .channelRestore _ _ | .alarmAck _ _ | .alarmClear _ _ | .alarmClearZone _ _
  | .doorGrant _ _ | .strongroomCancel _ _ | .status _ | .restart _ | .stationFrameSent | .slotWriteComplete
  | .slotWriteTimeout | .readBackTimeout | .unlockTimerExpiry _ | .heldOpenTimerExpiry _ | .pairingTimerExpiry _
  | .custodyPairingExpiry _ | .displayTimerExpiry _ | .delayTimerExpiry _ | .confirmTimerExpiry _
  | .strongroomUnlockExpiry _ | .boltSettleExpiry _ | .countdownExpiry _ | .driveTimerExpiry _
  | .valveConfirmTimeout _ | .soakTimerExpiry _ | .toneRefresh _ | .driveFault _ | .driveFaultCleared _
  | .bucketReadTimeout | .crystalGapWhileDegraded | .driveReadbackChange _ _ => true

end Sys2Proof
end

