-- ==== Sys2Proof/Certificates/Slice0/Obligations.lean ====
section
/-! DEFINITION. The statements for the provers. Each docstring names the rules of spec/ it formalises. A statement says what a
command's own effect makes of a state, `t`, and that `exec` answers `next t.settle`: the transmitters then take what is next,
which LoopTransmitterTakes and StationTransmitterResult state. A statement that compares a whole event record rests on log 12 for
the fields of the events named there and on log 11 for a reason code that no table gives (log 46 for that of
LOST_CARD_PRESENTED); one about a timer's end rests on log 2 or log 3 for when the command acts. -/

open Sys2Proof Sys2Proof.Machine

/-! ## The machine -/

/-- A step runs the command at the front of the queue on the state that holds the rest; with none waiting it idles, which is the
model's choice (log 1). No command stops the controller, and none touches the commands that wait. -/
def Obligations.StepRunsFrontCommand : Prop :=
  (∀ s : State,
      (∀ c rest, s.pending = c :: rest → step s = exec c { s with pending := rest })
        ∧ (s.pending = [] → step s = .next s))
  ∧ (∀ (c : Instr) (s : State), ∃ t : State, exec c s = .next t ∧ t.pending = s.pending)

/-- R17, R20, R23, law 11: what the loop transmitter takes at the end of a command, and the end or ends by which a frame for a
device leaves, decided from the ring state and the device's reach end, whatever its origin. What is on the loop meanwhile: a sweep
as a SWEEP frame with SRC 0, DST 0 and the sweep number as its one payload byte, by End A, or the head of the queue by the ends
taken. The SEQ of a sweep is the free value of log 7. -/
def Obligations.LoopTransmitterTakes : Prop :=
  ∀ s : State,
    (s.rm.tx ≠ .idle → s.settle.rm = s.rm)
      ∧ (s.rm.tx = .idle → s.rm.sweepWaiting = true →
          s.settle.rm =
            { s.rm with
              tx := .sweep s.rm.nextSweep s.rm.loopSeqCount true, sweepWaiting := false
              nextSweep := s.rm.nextSweep + 1, loopSeqCount := s.rm.loopSeqCount + 1 })
      ∧ (s.rm.tx = .idle → s.rm.sweepWaiting = false → s.rm.queue = [] → s.settle.rm = s.rm)
      ∧ (s.rm.tx = .idle → s.rm.sweepWaiting = false → ∀ e l, s.rm.queue = e :: l →
          ∃ ends, s.settle.rm = { s.rm with tx := .entry ends }
            ∧ ∀ d : DevIx, e.frame.dst.toNat = d.val + 1 →
              (s.rm.ring = .closed → ends = .endA)
                ∧ (s.rm.ring ≠ .closed → (s.device d).reach = none → ends = .both)
                ∧ (s.rm.ring ≠ .closed → (s.device d).reach = some .endA → ends = .endA)
                ∧ (s.rm.ring ≠ .closed → (s.device d).reach = some .endB → ends = .endB))
      ∧ (s.rm.tx = .idle → s.loopFrame = none)
      ∧ (∀ number count live, s.rm.tx = .sweep number count live →
          s.loopFrame = some
            ({ dst := 0, src := 0, kind := 0x11, seqByte := (Config.loopSeq count).setWidth 8, payload := [number] }, .endA))
      ∧ (∀ ends e l, s.rm.tx = .entry ends → s.rm.queue = e :: l → s.loopFrame = some (e.frame, ends))
      ∧ s.settle.pending = s.pending ∧ s.settle.fc = s.fc ∧ s.settle.csu = s.csu ∧ s.settle.csc = s.csc
      ∧ s.settle.pe = s.pe ∧ s.settle.dc = s.dc ∧ s.settle.ru = s.ru ∧ s.settle.sc = s.sc ∧ s.settle.sau = s.sau

/-- R209, R206, R208: what the station transmitter takes at the end of a command: the oldest ready reply, else the head event,
else the head forwarded copy. The frame that it sends meanwhile, an event or a copy with the value of the station sequence
counter: a REPLY, the EVENT of a record (Table 11-9, with the codes and classes of Table 11-10) or a FORWARDED copy (R214).
STATION_FRAME_SENT (R200, R207 to R209): what was sent in full leaves its queue, and the counter advances past the number of an
event or a copy; on a free transmitter the next thing is taken and then leaves (log 13). R207, law 9: how the event queue takes a
record: appended while it holds fewer than 64; a ROUTINE record is lost on a full queue; an ALARM record then removes the oldest
ROUTINE record, or with none the oldest record, which ends its transmission. That the counter advances when the frame leaves the
transmitter, cut short or not, is the model's reading (DEDUCED, log 13). -/
def Obligations.StationTransmitterResult : Prop :=
  (∀ s : State,
      (s.sp.tx ≠ .idle → s.settle.sp = s.sp)
        ∧ (s.sp.tx = .idle → ∀ l seq payload r, s.sp.replies = l ++ { seq, body := .ready payload } :: r →
            (∀ p ∈ l, ∀ q, p.body ≠ .ready q) →
            s.settle.sp = { s.sp with replies := l ++ { seq, body := .sending payload } :: r, tx := .reply })
        ∧ (s.sp.tx = .idle → (∀ p ∈ s.sp.replies, ∀ q, p.body ≠ .ready q) →
            s.settle.sp =
              if s.sp.events ≠ [] then { s.sp with tx := .event }
              else if s.sp.forwards ≠ [] then { s.sp with tx := .forward }
              else s.sp))
  ∧ (∀ k : EventKind, k.cls = (eventLine k).2)
  ∧ (∀ s : State,
      let sends (kind : Byte) (seq : BitVec 4) (payload : List Byte) : Prop :=
        s.stationFrame = some { dst := 0x40, src := 0, kind, seqByte := seq.setWidth 8, payload }
      (s.sp.tx = .idle → s.stationFrame = none)
      ∧ (∀ l p r payload, s.sp.tx = .reply → s.sp.replies = l ++ p :: r → p.body = .sending payload →
          (∀ x ∈ l, ∀ q, x.body ≠ .sending q) → sends 0x21 p.seq payload)
      ∧ (∀ e l, s.sp.tx = .event → s.sp.events = e :: l → sends 0x22 s.sp.seq (eventBytes e))
      ∧ (∀ c l, s.sp.tx = .forward → s.sp.forwards = c :: l → sends 0x23 s.sp.seq (copyBytes c)))
  ∧ (∀ s : State,
      (∀ e l, s.sp.tx = .event → s.sp.events = e :: l →
        exec .stationFrameSent s = .next { s with sp := { s.sp with tx := .idle, events := l, seq := s.sp.seq + 1 } }.settle)
      ∧ (∀ e l, s.sp.tx = .forward → s.sp.forwards = e :: l →
        exec .stationFrameSent s = .next { s with sp := { s.sp with tx := .idle, forwards := l, seq := s.sp.seq + 1 } }.settle)
      ∧ (∀ l p r payload, s.sp.tx = .reply → s.sp.replies = l ++ p :: r → p.body = .sending payload →
          (∀ x ∈ l ++ r, ∀ q, x.body ≠ .sending q) →
        exec .stationFrameSent s = .next { s with sp := { s.sp with tx := .idle, replies := l ++ r } }.settle)
      ∧ (s.sp.tx = .idle → (∀ p ∈ s.sp.replies, ∀ q, p.body ≠ .ready q) → ∀ e l, s.sp.events = e :: l →
        exec .stationFrameSent s = .next { s with sp := { s.sp with seq := s.sp.seq + 1, events := l } }.settle))
  ∧ (∀ (p : Sp) (r : EventRecord),
      (p.events.length < 64 → p.enqueue r = { p with events := p.events ++ [r] })
      ∧ (64 ≤ p.events.length →
        (r.kind.cls = .routine → p.enqueue r = { p with overflow := true })
        ∧ (r.kind.cls = .alarm → ∀ l x k, p.events = l ++ x :: k →
            (x.kind.cls = .routine ∧ ∀ y ∈ l, y.kind.cls = .alarm) ∨ ((∀ y ∈ p.events, y.kind.cls = .alarm) ∧ l = []) →
            (l ≠ [] ∨ p.tx ≠ .event → p.enqueue r = { p with events := l ++ k ++ [r], overflow := true })
            ∧ (l = [] → p.tx = .event →
              p.enqueue r = { p with events := k ++ [r], overflow := true, tx := .idle, seq := p.seq + 1 }))))

/-- R17, R20, R209: at every step the loop transmitter rests only with no sweep waiting and an empty queue; after every command
the station transmitter rests only with nothing to send. -/
def Obligations.TransmittersStayAtWork : Prop :=
  (∀ s t : State, s.loopAtWork → step s = .next t → t.loopAtWork)
  ∧ (∀ (c : Instr) (s t : State), exec c s = .next t → t.stationAtWork)

/-! ## Time (chapter 2) -/

/-- R28: uptime is 0 after a power-on reset, advances by one on each second tick up to 4,294,967,295, and moves at nothing else,
RESTART and CLOCK SET included. TIMEBASE_DEGRADED, TIMEBASE_RESTORED, CRYSTAL_GAP_WHILE_DEGRADED (R30, R31, R32): the timebase
state and its events. That the watch of 2 s is two second ticks from the loss or the gap, and that TIMEBASE_RESTORED acts only
when it is due, is the model's reading (DEDUCED, log 32); that an event of the other state changes nothing is its choice (DESIGN
CHOICE, log 30). -/
def Obligations.UptimeAndTimebaseResult : Prop :=
  (∀ (c : Instr) (s t : State), exec c s = .next t →
      (∀ b, c = .powerOnReset b → t.uptime = 0)
        ∧ (c = .clockAdvance → t.uptime = min (s.uptime + 1) 4294967295)
        ∧ ((∀ b, c ≠ .powerOnReset b) → c ≠ .clockAdvance → t.uptime = s.uptime))
  ∧ (∀ s : State,
      exec .timebaseDegraded s =
          .next (if s.csu.timebase = .normal then
            { s with
              csu := { s.csu with timebase := .degraded, crystalWatch := some (s.csu.ticks + 2) }
              sp := s.sp.enqueue { s.event .timebaseDegraded with stamp := match s.csu.clock with
                | .set => .clock s.csu.day s.csu.second true
                | .unset => .uptime s.uptime true } }
            else s).settle
        ∧ exec .timebaseRestored s =
          .next (if s.csu.timebase = .degraded ∧ s.due s.csu.crystalWatch then
            { s with
              csu := { s.csu with timebase := .normal, crystalWatch := none }
              sp := s.sp.enqueue { s.event .timebaseRestored with stamp := match s.csu.clock with
                | .set => .clock s.csu.day s.csu.second false
                | .unset => .uptime s.uptime false } }
            else s).settle
        ∧ exec .crystalGapWhileDegraded s =
          .next (if s.csu.timebase = .degraded then
            { s with csu := { s.csu with crystalWatch := some (s.csu.ticks + 2) } } else s).settle)

/-- CLOCK_ADVANCE (R33, R34, R46, R166): the second tick. Clock time moves while SET and wraps at midnight; every after-hours flag
is recomputed from the new instant; every channel in PRE_DISCHARGE counts down, its last tick being left to COUNTDOWN_EXPIRY. When
the day number first tries to pass 65535 CLOCK_EPOCH_END is posted; later midnights post nothing. That its stamp is taken after
the change is the model's (DESIGN CHOICE, log 38). -/
def Obligations.ClockAdvanceResult : Prop :=
  (∀ s : State, ∃ t : State, exec .clockAdvance s = .next t.settle
      ∧ t.csu.ticks = s.csu.ticks + 1 ∧ t.csu.ms = 0 ∧ t.csu.clock = s.csu.clock
      ∧ t.csu.timebase = s.csu.timebase ∧ t.csu.schedules = s.csu.schedules ∧ t.csu.holidays = s.csu.holidays
      ∧ (s.csu.clock = .unset → t.csu.day = s.csu.day ∧ t.csu.weekday = s.csu.weekday ∧ t.csu.second = s.csu.second)
      ∧ (s.csu.clock = .set → s.csu.second + 1 < 86400 →
          t.csu.second = s.csu.second + 1 ∧ t.csu.day = s.csu.day ∧ t.csu.weekday = s.csu.weekday
            ∧ t.csu.epochEnd = s.csu.epochEnd)
      ∧ (s.csu.clock = .set → s.csu.second + 1 = 86400 →
          t.csu.second = 0 ∧ t.csu.weekday = (s.csu.weekday + 1) % 7
            ∧ (s.csu.day < 65535 → t.csu.day = s.csu.day + 1 ∧ t.csu.epochEnd = s.csu.epochEnd)
            ∧ (s.csu.day = 65535 → t.csu.day = 65535 ∧ t.csu.epochEnd = true))
      ∧ (∀ z, t.afterHours z = !t.csu.covers (s.zone z).staffed)
      ∧ (∀ c, t.channel c =
          if (s.channel c).state = .preDischarge then
            if 1 < (s.channel c).countdown then { s.channel c with countdown := (s.channel c).countdown - 1 }
            else { s.channel c with countdownDue := true }
          else s.channel c)
      ∧ t.pending = s.pending ∧ t.fc = s.fc ∧ t.csc = s.csc ∧ t.pe = s.pe ∧ t.dc = s.dc ∧ t.ru = s.ru)
  ∧ (∀ s : State, s.csu.clock = .set → s.csu.second + 1 = 86400 → s.csu.day = 65535 →
      (∀ z, (s.zone z).staffed = 0 ∧ s.afterHours z = false) →
      ∃ t : State, exec .clockAdvance s = .next t.settle ∧ t.rm = s.rm ∧ t.sau = s.sau
        ∧ t.sp =
          if s.csu.epochEnd then s.sp
          else s.sp.enqueue
            { kind := .clockEpochEnd, stamp := .clock 65535 0 (s.csu.timebase == .degraded), door := none, zone := none
              channel := none, subject := none, reason := none })

/-- CLOCK_SET (R35, R29, R46, R133): the clock is set and clamped, the reply carries it, the flags follow, and no timer of a door,
a channel, the store or supervision moves. HOLIDAY_ADD (R38): a present day changes nothing, a full list answers TABLE_FULL, and
otherwise the day takes its place in ascending order. HOLIDAY_DROP (R39): an absent day answers NOT_FOUND; a present one is
removed and the days after it close up. -/
def Obligations.ClockCommandsResult : Prop :=
  (∀ (s : State) (seq : BitVec 4) (day : BitVec 16) (weekday : Byte) (second : BitVec 24), s.takesCommands →
      ∃ t : State, exec (.clockSet seq day weekday second) s = .next t.settle
        ∧ t.csu.day = day.toNat ∧ t.csu.weekday = min weekday.toNat 6 ∧ t.csu.second = min second.toNat 86399
        ∧ t.csu.clock = .set ∧ t.csu.epochEnd = false
        ∧ t.csu.ticks = s.csu.ticks ∧ t.csu.ms = s.csu.ms ∧ t.csu.timebase = s.csu.timebase
        ∧ t.csu.crystalWatch = s.csu.crystalWatch ∧ t.csu.schedules = s.csu.schedules ∧ t.csu.holidays = s.csu.holidays
        ∧ (∀ z, t.afterHours z = !t.csu.covers (s.zone z).staffed)
        ∧ t.sp.replies = s.sp.replies ++ [readyReply seq
            ([0x1A, if 6 < weekday.toNat ∨ 86399 < second.toNat then 1 else 0]
              ++ bytes2 day.toNat ++ bytes1 (min weekday.toNat 6) ++ bytes3 (min second.toNat 86399))]
        ∧ ((∀ z, t.afterHours z = s.afterHours z) →
            t.sp.events = (s.sp.enqueue
              { kind := .clockSet
                stamp := .clock day.toNat (min second.toNat 86399) (s.csu.timebase == .degraded)
                door := none, zone := none, channel := none, subject := none, reason := none }).events
              ∧ t.rm = s.rm ∧ t.sau = s.sau)
        ∧ t.pending = s.pending ∧ t.fc = s.fc ∧ t.csc = s.csc ∧ t.pe = s.pe ∧ t.dc = s.dc ∧ t.ru = s.ru ∧ t.sc = s.sc)
  ∧ (∀ (s : State) (seq : BitVec 4) (day : BitVec 16), s.takesCommands → s.csu.holidays.Pairwise (· < ·) →
      (day.toNat ∈ s.csu.holidays → exec (.holidayAdd seq day) s = .next (s.addReply seq (.ready [0x18, 0x00])).settle)
        ∧ (day.toNat ∉ s.csu.holidays → 32 ≤ s.csu.holidays.length →
            exec (.holidayAdd seq day) s = .next (s.addReply seq (.ready [0x18, 0x08])).settle)
        ∧ (day.toNat ∉ s.csu.holidays → s.csu.holidays.length < 32 →
            ∃ t : State, exec (.holidayAdd seq day) s = .next t.settle
              ∧ t.csu.holidays.Pairwise (· < ·) ∧ (∀ x, x ∈ t.csu.holidays ↔ x = day.toNat ∨ x ∈ s.csu.holidays)
              ∧ (∀ z, t.afterHours z = !t.csu.covers (s.zone z).staffed)
              ∧ t.csu = { s.csu with holidays := t.csu.holidays, afterHours := t.csu.afterHours }
              ∧ t.sp.replies = s.sp.replies ++ [readyReply seq [0x18, 0x00]]
              ∧ t.pending = s.pending ∧ t.fc = s.fc ∧ t.csc = s.csc ∧ t.pe = s.pe ∧ t.dc = s.dc ∧ t.ru = s.ru
              ∧ t.sc = s.sc))
  ∧ (∀ (s : State) (seq : BitVec 4) (day : BitVec 16), s.takesCommands →
      (day.toNat ∉ s.csu.holidays → exec (.holidayDrop seq day) s = .next (s.addReply seq (.ready [0x19, 0x06])).settle)
        ∧ (∀ l r, s.csu.holidays = l ++ day.toNat :: r → day.toNat ∉ l → day.toNat ∉ r →
            ∃ t : State, exec (.holidayDrop seq day) s = .next t.settle
              ∧ t.csu.holidays = l ++ r
              ∧ (∀ z, t.afterHours z = !t.csu.covers (s.zone z).staffed)
              ∧ t.csu = { s.csu with holidays := t.csu.holidays, afterHours := t.csu.afterHours }
              ∧ t.sp.replies = s.sp.replies ++ [readyReply seq [0x19, 0x00]]
              ∧ t.pending = s.pending ∧ t.fc = s.fc ∧ t.csc = s.csc ∧ t.pe = s.pe ∧ t.dc = s.dc ∧ t.ru = s.ru
              ∧ t.sc = s.sc))

/-- R40: a day's type is 7 for a holiday, else its weekday. R41 to R43: when a schedule covers, in the manual's own words:
schedule 0 always; any other only while the clock is SET, through the today instance or, from day 1 on, the yesterday instance of
a slot that is not empty. Its remainder is UNBOUNDED for schedule 0, 0 while the clock is UNSET, and else the largest R of the
covering instances, 0 with none; it is never more than 86400 when the slots are as R37 stores them. R44, R45, and law 7 of R123:
the window test refuses a bounded remainder of at most D; otherwise D′ is D, or 2 × D but at most 7200 under duress, C′ is the
smaller of C and R − D′, and the confirm window ends no later than the remainder. -/
def Obligations.ScheduleCoverAndBudget : Prop :=
  (∀ (c : Csu) (d w : Nat), (d ∈ c.holidays → c.dayType d w = 7) ∧ (d ∉ c.holidays → c.dayType d w = w)) ∧
  (∀ (c : Csu) (n : SchedId),
      let left (k : Nat) : Prop :=
        ∃ (i : Fin 4) (sl : SchedSlot), (c.schedules.get n).get i = some sl
          ∧ ((sl.mask.getLsbD (c.dayType c.day c.weekday) = true ∧ sl.start ≤ c.second / 60
                ∧ c.second / 60 < sl.start + sl.length ∧ k + c.second = (sl.start + sl.length) * 60)
            ∨ (c.day ≠ 0 ∧ sl.mask.getLsbD (c.dayType (c.day - 1) ((c.weekday + 6) % 7)) = true
                ∧ 1440 < sl.start + sl.length ∧ c.second / 60 < sl.start + sl.length - 1440
                ∧ k + c.second = (sl.start + sl.length - 1440) * 60))
      (c.covers n = true ↔
        n = 0 ∨ (c.clock = .set ∧ ∃ (i : Fin 4) (sl : SchedSlot), (c.schedules.get n).get i = some sl
          ∧ ((sl.mask.getLsbD (c.dayType c.day c.weekday) = true ∧ sl.start ≤ c.second / 60
                ∧ c.second / 60 < sl.start + sl.length)
            ∨ (c.day ≠ 0 ∧ sl.mask.getLsbD (c.dayType (c.day - 1) ((c.weekday + 6) % 7)) = true
                ∧ 1440 < sl.start + sl.length ∧ c.second / 60 < sl.start + sl.length - 1440))))
      ∧ (n = 0 → c.remainder n = .unbounded)
      ∧ (n ≠ 0 → c.clock = .unset → c.remainder n = .bounded 0)
      ∧ (n ≠ 0 → c.clock = .set → ∃ r, c.remainder n = .bounded r ∧ (∀ k, left k → k ≤ r)
          ∧ ((r = 0 ∧ ∀ k, ¬ left k) ∨ left r))
      ∧ ((∀ (i : Fin 4) (sl : SchedSlot), (c.schedules.get n).get i = some sl → sl.start ≤ 1439 ∧ sl.length ≤ 1440) →
          ∀ r, c.remainder n = .bounded r → r ≤ 86400))
  ∧ (∀ (delay window : Nat) (duress : Bool),
      budgetOf .unbounded delay window duress
          = some { delay := if duress then min (2 * delay) 7200 else delay, window := window }
        ∧ ∀ r : Nat,
          (r ≤ delay → budgetOf (.bounded r) delay window duress = none)
            ∧ (delay < r → ∃ b, budgetOf (.bounded r) delay window duress = some b
                ∧ b.delay = (if duress then min (2 * delay) 7200 else delay)
                ∧ b.window = min (window : Int) ((r : Int) - b.delay) ∧ (b.delay : Int) + b.window ≤ r))

/-! ## The loop (chapter 1) -/

/-- R1, R2, R213, Table 11-1: a loop end's receiver takes the bytes up to the idle line as a frame exactly when they are bytes
other than SYNC followed by that frame on the wire, with a payload of at most 40. -/
def Obligations.LoopReceiverTakesExactlyFrames : Prop :=
  ∀ (l : List Byte) (f : Frame),
    loopReceive l = some f ↔
      f.payload.length ≤ 40 ∧ ∃ junk : List Byte, (∀ b ∈ junk, b ≠ 0xD5) ∧ l = junk ++ f.wire

/-- LOOP_FRAME_RECEIVED (R1 to R3, R7, R8, R20, R22): what is discarded and what it leaves. Bytes that are no valid frame leave
nothing but the millisecond of their arrival, which is an operand of the command and stays with the clock (DESIGN CHOICE, log 4).
A valid frame restarts the silence timer and ends DEAD (`State.heardAt`); nothing more comes of an own frame that is no SWEEP, of
an own SWEEP at End A or with another number than the pending one, of a wrong address, of a foreign device already reported, or of
a duplicate; a foreign device is reported once. That RING_ALIVE comes before the event of the same frame is the model's (DESIGN
CHOICE, log 15). -/
def Obligations.LoopFrameDiscarded : Prop :=
  ∀ (s : State) (arrival : LoopEnd) (ms : Nat) (l : List Byte), s.csu.ms ≤ ms → ms < 1000 →
    (loopReceive l = none →
      exec (.loopFrameReceived arrival ms l) s = .next { s with csu := { s.csu with ms := ms } }.settle)
    ∧ ∀ f, loopReceive l = some f →
      let u := s.heardAt ms
      (f.src = 0 → f.kind = 0x11 → arrival = .endA ∨ (∀ n, f.payload = [n] → s.rm.pendingSweep ≠ some n) →
        exec (.loopFrameReceived arrival ms l) s = .next u.settle)
      ∧ (f.src = 0 → f.kind ≠ 0x11 → exec (.loopFrameReceived arrival ms l) s = .next u.settle)
      ∧ (63 < f.src.toNat ∨ (f.src ≠ 0 ∧ f.dst ≠ 0 ∧ f.dst ≠ 0x40) →
        exec (.loopFrameReceived arrival ms l) s = .next u.settle)
      ∧ (∀ d : DevIx, f.src.toNat = d.val + 1 → f.dst = 0 ∨ f.dst = 0x40 → (s.device d).role = .noDevice →
        exec (.loopFrameReceived arrival ms l) s =
          .next (if (s.device d).foreign then u
            else
              { u with
                fc := { devices := s.fc.devices.set d { s.device d with foreign := true } d.isLt }
                sp := u.sp.enqueue (s.event .foreignDevice (subject := some (.device d))) }).settle)
      ∧ (∀ d : DevIx, f.src.toNat = d.val + 1 → f.dst = 0 ∨ f.dst = 0x40 → (s.device d).role ≠ .noDevice →
          (s.device d).lastSeq = some (f.seqByte.setWidth 4) → s.acceptedLately (s.device d) ms →
        exec (.loopFrameReceived arrival ms l) s = .next u.settle)

/-- LOOP_FRAME_RECEIVED (R8 to R12): an accepted frame of a device that was not MISSING writes the device's runtime part, is
copied when the device is marked for report, and is handed to its block when it fits the device, which DeviceReportsResult states.
The acceptance time is uptime held to the millisecond (R28), so its second part stops when uptime does. The millisecond of arrival
is an operand and stays with the clock (DESIGN CHOICE, log 4). That RING_ALIVE comes before the events of the same frame is the
model's (DESIGN CHOICE, log 15). -/
def Obligations.LoopFrameAccepted : Prop :=
  ∀ (s : State) (arrival : LoopEnd) (ms : Nat) (l : List Byte) (f : Frame) (d : DevIx), s.csu.ms ≤ ms → ms < 1000 →
    loopReceive l = some f → f.src.toNat = d.val + 1 → f.dst = 0 ∨ f.dst = 0x40 →
    (s.device d).role ≠ .noDevice → (s.device d).presence ≠ .missing →
    (s.device d).lastSeq ≠ some (f.seqByte.setWidth 4) ∨ ¬ s.acceptedLately (s.device d) ms →
    ∃ t : State,
      exec (.loopFrameReceived arrival ms l) s =
        .next (match reportOf (s.device d).role f with | some r => t.route d r | none => t).settle
      ∧ t.rm = { s.rm with
          silence := some (s.csu.ticks + 10), ring := if s.rm.ring = .dead then RingState.split else s.rm.ring }
      ∧ t.csu = { s.csu with ms := ms }
      ∧ t.fc = (s.setDevice d
          { s.device d with
            lastHeard := some s.uptime, lastSeq := some (f.seqByte.setWidth 4), acceptMs := s.uptime * 1000 + ms
            acceptTick := s.csu.ticks, reach := some arrival, presence := .present, since := s.csu.ticks }).fc
      ∧ (let p := if s.rm.ring = .dead then s.sp.enqueue (s.event .ringAlive) else s.sp
        t.sp =
          if (s.device d).report then
            if s.sp.forwards.length < 16 then { p with forwards := s.sp.forwards ++ [{ frame := f, arrival }] }
            else { p with overflow := true }
          else p)
      ∧ t.pending = s.pending ∧ t.csc = s.csc ∧ t.pe = s.pe ∧ t.dc = s.dc ∧ t.ru = s.ru ∧ t.sc = s.sc ∧ t.sau = s.sau

/-- LOOP_FRAME_SENT, SWEEP_DUE (R17, R20, R26): the entry sent leaves the queue; a sweep sent becomes the pending sweep, unless a
RESTART came first; a due sweep waits for the transmitter and the next is due 2 s later. R21: how sweep outcomes move the ring
between CLOSED and SPLIT, for SWEEP_UNRETURNED and for the return of the pending sweep at End B; R22: SILENCE_TIMER_EXPIRY, and a
first valid frame in DEAD that is such a return, which makes the ring SPLIT and then counts. That a sweep in transmission over a
RESTART does not become pending is log 27 (DEDUCED); that LOOP_FRAME_SENT on an idle transmitter and a row that is not due change
nothing is log 30 (DESIGN CHOICE). -/
def Obligations.RingMonitorResult : Prop :=
  (∀ s : State,
      (∀ ends e l, s.rm.tx = .entry ends → s.rm.queue = e :: l →
        exec .loopFrameSent s = .next { s with rm := { s.rm with tx := .idle, queue := l } }.settle)
      ∧ (∀ n k, s.rm.tx = .sweep n k true →
        exec .loopFrameSent s = .next { s with rm := { s.rm with tx := .idle, pendingSweep := some n } }.settle)
      ∧ (∀ n k, s.rm.tx = .sweep n k false → exec .loopFrameSent s = .next { s with rm := { s.rm with tx := .idle } }.settle)
      ∧ (s.rm.tx = .idle → exec .loopFrameSent s = .next s.settle)
      ∧ (∀ n, s.rm.sweepTimer = some n → n ≤ s.csu.ticks →
        exec .sweepDue s =
          .next { s with rm := { s.rm with sweepWaiting := true, sweepTimer := some (n + 2) } }.settle)
      ∧ (∀ n, s.rm.sweepTimer = some n → s.csu.ticks < n → exec .sweepDue s = .next s.settle))
  ∧ (∀ s : State,
      (∀ n, s.rm.pendingSweep = some n →
        exec .sweepUnreturned s = .next (match s.rm.ring with
          | .closed =>
            if s.rm.missCount + 1 < 3 then
              { s with rm := { s.rm with pendingSweep := none, missCount := s.rm.missCount + 1 } }
            else
              { s with
                rm := { s.rm with pendingSweep := none, ring := .split, missCount := 0, returnCount := 0 }
                sp := s.sp.enqueue (s.event .ringSplit) }
          | .split => { s with rm := { s.rm with pendingSweep := none, returnCount := 0 } }
          | .dead => { s with rm := { s.rm with pendingSweep := none } } : State).settle)
      ∧ (s.rm.pendingSweep = none → exec .sweepUnreturned s = .next s.settle)
      ∧ (∀ (n seqByte dst : Byte), s.rm.pendingSweep = some n →
        exec (.loopFrameReceived .endB s.csu.ms (Frame.wire { dst, src := 0, kind := 0x11, seqByte, payload := [n] })) s =
          .next (let r : Rm := { s.rm with pendingSweep := none, silence := some (s.csu.ticks + 10) }
            match s.rm.ring with
            | .closed => { s with rm := { r with missCount := 0 } }
            | .split =>
              if s.rm.returnCount + 1 < 3 then { s with rm := { r with returnCount := s.rm.returnCount + 1 } }
              else
                { s with
                  rm := { r with ring := .closed, missCount := 0, returnCount := 0 }
                  sp := s.sp.enqueue (s.event .ringClosed) }
            | .dead =>
              if s.rm.returnCount + 1 < 3 then
                { s with
                  rm := { r with ring := .split, returnCount := s.rm.returnCount + 1 }
                  sp := s.sp.enqueue (s.event .ringAlive) }
              else
                { s with
                  rm := { r with ring := .closed, missCount := 0, returnCount := 0 }
                  sp := (s.sp.enqueue (s.event .ringAlive)).enqueue (s.event .ringClosed) } : State).settle)
      ∧ (∀ n, s.rm.silence = some n → n ≤ s.csu.ticks →
        exec .silenceTimerExpiry s =
          .next (if s.rm.ring = RingState.dead then { s with rm := { s.rm with silence := none } }
            else
              { s with
                rm := { s.rm with silence := none, ring := .dead, missCount := 0, returnCount := 0 }
                sp := s.sp.enqueue (s.event .ringDead) }).settle)
      ∧ ((∀ n, s.rm.silence = some n → s.csu.ticks < n) → exec .silenceTimerExpiry s = .next s.settle))

/-- DEVICE_MISSING (R24, R25): a supervised device of kind other than NONE that was not MISSING and has not been heard for 30 s
becomes MISSING with its event, and its owner is told; otherwise nothing happens. A door's contact becomes UNKNOWN and the door
goes to FAULT: a PLAIN one discards its passage with GRANT_UNUSED and refuses its waiting escort (R98), a STRONGROOM cancels its
sequence or discards its passage (R129), and DOOR_FAULT follows; no channel stands at its zones here. A detector or abort station
sets its channel's flag, and an abort station counts as RELEASED (R159, R176). That DEVICE_MISSING precedes the owner's events is
the model's (DESIGN CHOICE, log 15). -/
def Obligations.DeviceMissingResult : Prop :=
  ∀ (s : State) (d : DevIx),
    (¬ ((s.device d).role ≠ .noDevice ∧ (s.device d).supervised = true ∧ (s.device d).presence ≠ .missing
        ∧ (s.device d).since + 30 ≤ s.csu.ticks) → exec (.deviceMissing d) s = .next s.settle)
    ∧ ((s.device d).role ≠ .noDevice → (s.device d).supervised = true → (s.device d).presence ≠ .missing →
        (s.device d).since + 30 ≤ s.csu.ticks →
      let g := (s.setDevice d { s.device d with presence := .missing }).tells
        (s.event .deviceMissing (subject := some (.device d)))
      (∃ t : State, exec (.deviceMissing d) s = .next t.settle
        ∧ t.fc = g.fc ∧ t.pending = s.pending ∧ t.csu = s.csu ∧ t.csc = s.csc ∧ t.pe = s.pe
        ∧ (∀ k, (s.device d).role = .doorUnit k →
            (t.door k).contact = .unknown ∧ ((s.door k).entry.kind ≠ .noDoor → (t.door k).state = .fault)
              ∧ (t.door k).entry = (s.door k).entry ∧ (t.door k).bolt = (s.door k).bolt
              ∧ (∀ j, j ≠ k → t.door j = s.door j) ∧ t.ru = s.ru)
        ∧ (∀ c y, (s.device d).role = .detector c y →
            (t.channel c).flags.detectorMissing = true ∧ t.sc.devs = s.sc.devs ∧ t.dc = s.dc ∧ t.ru = s.ru
              ∧ t.sau = s.sau ∧ t.rm = s.rm ∧ t.sp = g.sp)
        ∧ (∀ c, (s.device d).role = .abortStation c →
            (t.channel c).flags.abortMissing = true ∧ (t.scDev d).abortHeld = false ∧ t.ru = s.ru
              ∧ (t.channel c).hold = t.holdCauses c
              ∧ ((s.channel c).state.onlyRecords → t.rm = s.rm ∧ t.sp = g.sp ∧ t.dc = s.dc ∧ t.sau = s.sau
                ∧ (t.channel c).state = (s.channel c).state))
        ∧ ((∀ k, (s.device d).role ≠ .doorUnit k) → (∀ c y, (s.device d).role ≠ .detector c y) →
            (∀ c, (s.device d).role ≠ .abortStation c) →
            t.rm = s.rm ∧ t.dc = s.dc ∧ t.ru = s.ru ∧ t.sc = s.sc ∧ t.sau = s.sau ∧ t.sp = g.sp))
      ∧ ∀ k, (s.device d).role = .doorUnit k → s.noChannelAt k →
        let x := s.door k
        let gone (u : State) : Prop := exec (.deviceMissing d) s = .next u.settle
        let fault : EventRecord := s.event .doorFault (door := some k) (zone := some x.entry.inner)
        let unused (p : Passage) : EventRecord :=
          s.event .grantUnused (door := some k) (zone := some (if p.direction = .exit then p.outer else p.inner))
            (subject := p.list.head?.map (fun c => Subject.credential c.number)) (reason := some 2)
        let bolted (y : Door) : Door :=
          { y with
            contact := .unknown, unlock := none, held := none, boltCommand := .thrown, mismatch := false
            settle := some (s.csu.ticks + 5), state := .fault }
        (x.entry.kind = .noDoor → gone (g.setDoor k { x with contact := .unknown }))
        ∧ (x.entry.kind ≠ .noDoor → x.state = .fault → gone (g.toldDoor k { x with contact := .unknown }))
        ∧ (x.entry.kind = .plain → x.state ≠ .fault →
          let y : Door := { x with contact := .unknown, unlock := none, held := none, passage := none, state := .fault }
          let told (u : State) : State := match x.passage with | some p => u.tells (unused p) | none => u
          (x.slot = none → gone ((told (g.toldDoor k y)).tells fault))
          ∧ (∀ e, x.slot = some e →
            gone ((((told (g.toldDoor k { y with slot := none, pairing := none })).drive e.reader
              (.display (.denied .door))).tells
              (s.event .deny (door := some k) (zone := some x.entry.inner) (subject := some (.credential e.number))
                (reason := some 2))).tells fault)))
        ∧ (x.entry.kind = .strongroom → x.state = .custodyWait ∨ x.state = .delay ∨ x.state = .confirmWait →
          gone ((((g.toldDoor k (bolted
            { x with
              pairing := none, delay := none, display := none, confirm := none, custodyA := none, custodyB := none
              budget := none })).driveOpt x.entry.entryReader (.display (.denied .door))).tells
            (s.event .strongroomCancelled (door := some k) (zone := some x.entry.inner)
              (subject := x.custodyA.map (fun a => Subject.credential a.number)) (reason := some 6))).tells fault))
        ∧ (∀ p, x.entry.kind = .strongroom → x.state = .unbolted → x.passage = some p →
          gone (((g.toldDoor k (bolted { x with passage := none })).tells (unused p)).tells fault))
        ∧ (x.entry.kind = .strongroom → x.state = .secured ∨ x.state = .opened ∨ x.state = .heldOpen ∨ x.state = .forced →
          gone ((g.toldDoor k (bolted x)).tells fault)))

/-- R9, Tables 1-3 and 11-2: which accepted frames of a device are handed on, and as what; any other counts as a HEARTBEAT without
a health byte. R8, R24, R25, R176: the first accepted frame of a MISSING device makes it PRESENT with DEVICE_RETURNED; its
channel's MISSING flags are formed again, and an abort station counts as RELEASED; only then is the frame copied and handed on.
The return of an abort station is stated where its channel is in a state that only records its hold causes (`onlyRecords`);
PRE_DISCHARGE, HELD, RELEASING and DISCHARGED are left out. R11: the events of a HEARTBEAT's health byte. The millisecond of
arrival is an operand (DESIGN CHOICE, log 4). That RING_ALIVE, which the frame posts when the ring is DEAD, comes before
DEVICE_RETURNED is the model's (DESIGN CHOICE, log 15). -/
def Obligations.DeviceReportsResult : Prop :=
  (∀ (role : DevRole) (f : Frame) (r : Report), reportOf role f = some r ↔
      (∃ h, f.kind = 0x07 ∧ f.payload = [h] ∧ r = .heartbeat h)
      ∨ (∃ k side a b c i, role = .reader k side ∧ f.kind = 0x01 ∧ f.payload = [a, b, c, i]
          ∧ r = .badge k side (a.toNat * 65536 + b.toNat * 256 + c.toNat) i.toNat none)
      ∨ (∃ k side a b c i p q, role = .reader k side ∧ f.kind = 0x01 ∧ f.payload = [a, b, c, i, p, q]
          ∧ r = .badge k side (a.toNat * 65536 + b.toNat * 256 + c.toNat) i.toNat (some (p.toNat * 256 + q.toNat)))
      ∨ (∃ k a b c contact bolt handle, role = .doorUnit k ∧ f.kind = 0x02 ∧ f.payload = [a, b, c]
          ∧ (a, contact) ∈ [((0 : Byte), Contact.closed), (1, .opened)] ∧ (b, bolt) ∈ [((0 : Byte), Bolt.thrown), (1, .withdrawn)]
          ∧ (c, handle) ∈ [((0 : Byte), false), (1, true)] ∧ r = .doorStatus k contact bolt handle)
      ∨ (∃ c g a level, role = .detector c g ∧ f.kind = 0x03 ∧ f.payload = [a]
          ∧ (a, level) ∈ [((0 : Byte), DetectorLevel.normal), (1, .alarm), (2, .fault)] ∧ r = .detector c g level)
      ∨ (∃ c a held, role = .abortStation c ∧ f.kind = 0x04 ∧ f.payload = [a] ∧ (a, held) ∈ [((0 : Byte), false), (1, true)]
          ∧ r = .abortStation c held)
      ∨ (∃ c a operated, role = .releaseStation c ∧ f.kind = 0x05 ∧ f.payload = [a]
          ∧ (a, operated) ∈ [((0 : Byte), false), (1, true)] ∧ r = .releaseStation c operated)
      ∨ (∃ z a b c kind, role = .pendantReceiver z ∧ f.kind = 0x06 ∧ f.payload = [a, b, c]
          ∧ (c, kind) ∈ [((0 : Byte), PendantKind.alarm), (1, .manDown), (2, .checkIn)]
          ∧ r = .pendant z (a.toNat * 256 + b.toNat) kind))
  ∧ (∀ (s : State) (arrival : LoopEnd) (ms : Nat) (l : List Byte) (f : Frame) (d : DevIx), s.csu.ms ≤ ms → ms < 1000 →
      loopReceive l = some f → f.src.toNat = d.val + 1 → f.dst = 0 ∨ f.dst = 0x40 →
      (s.device d).role ≠ .noDevice → (s.device d).presence = .missing →
      (s.device d).lastSeq ≠ some (f.seqByte.setWidth 4) ∨ ¬ s.acceptedLately (s.device d) ms →
      let u := s.heardAt ms
      let v := (u.setDevice d
        { s.device d with
          lastHeard := some s.uptime, lastSeq := some (f.seqByte.setWidth 4), acceptMs := s.uptime * 1000 + ms
          acceptTick := s.csu.ticks, reach := some arrival, presence := .present, since := s.csu.ticks }).tells
        (s.event .deviceReturned (subject := some (.device d)))
      let taken (w : State) : Prop :=
        let t : State := if (s.device d).report = true then w.copied { frame := f, arrival } else w
        exec (.loopFrameReceived arrival ms l) s =
          .next (match reportOf (s.device d).role f with | some r => t.route d r | none => t).settle
      ((∀ c g, (s.device d).role ≠ .detector c g) → (∀ c, (s.device d).role ≠ .abortStation c) → taken v)
      ∧ (∀ c g flags, (s.device d).role = .detector c g → v.missingFlags c flags →
          taken (v.setChannel c { s.channel c with flags }))
      ∧ (∀ c flags, (s.device d).role = .abortStation c → v.missingFlags c flags → (s.channel c).state.onlyRecords →
          let w := v.setScDev d { s.scDev d with abortHeld := false }
          taken (w.setChannel c { s.channel c with flags, hold := w.holdCauses c })))
  ∧ (∀ (s : State) (d : DevIx) (h : Byte),
      s.route d (.heartbeat h) =
        let u := s.setDevice d { s.device d with health := h }
        if (s.device d).health = 0 ∧ h ≠ 0 then
          u.tells (s.event .deviceTrouble (subject := some (.device d)) (reason := some h.toNat))
        else if (s.device d).health ≠ 0 ∧ h = 0 then u.tells (s.event .deviceTroubleCleared (subject := some (.device d)))
        else u)

/-- R18, R19, R25: where an originated DRIVE goes. A DISPLAY to a MISSING READER is discarded. Else it replaces the first
ORIGINATED DRIVE, not in transmission, with its destination and output code; else it is appended; else the full queue gives up the
oldest ORIGINATED DISPLAY to a READER or FORWARDED entry not in transmission, or with none such its oldest entry not in
transmission, with TRANSMIT_DISPLACED, whose reason is absent when the frame removed has no output code (log 12). The low four
bits of its SEQ are the free value of log 7. -/
def Obligations.OriginatedDrivePlaced : Prop :=
  ∀ (s : State) (d : DevIx) (o : Output),
    let f : Frame :=
      { dst := BitVec.ofNat 8 (d.val + 1), src := 0, kind := 0x10
        seqByte := (Config.loopSeq s.rm.loopSeqCount).setWidth 8, payload := BitVec.ofNat 8 o.code :: o.argument }
    let e : LoopEntry := { frame := f, origin := .originated }
    let same (x : LoopEntry) : Prop :=
      x.origin = .originated ∧ x.frame.kind = 0x10 ∧ x.frame.payload.head? = some (BitVec.ofNat 8 o.code)
        ∧ x.frame.dst = f.dst
    let yields (x : LoopEntry) : Prop :=
      x.origin = .forwarded
        ∨ (x.frame.kind = 0x10 ∧ x.frame.payload.head? = some 0x06
          ∧ ∃ r : DevIx, x.frame.dst.toNat = r.val + 1 ∧ ∃ k side, (s.device r).role = .reader k side)
    let busy : Nat := match s.rm.tx with | .entry _ => 1 | .idle => 0 | .sweep _ _ _ => 0
    let u : Rm := { s.rm with loopSeqCount := s.rm.loopSeqCount + 1 }
    ((∃ m, o = .display m) → (∃ k side, (s.device d).role = .reader k side) → (s.device d).presence = .missing →
      s.drive d o = s)
    ∧ ((∀ m, o ≠ .display m) ∨ (∀ k side, (s.device d).role ≠ .reader k side) ∨ (s.device d).presence ≠ .missing →
      (∀ l x r, s.rm.queue = l ++ x :: r → busy ≤ l.length → same x → (∀ y ∈ l.drop busy, ¬ same y) →
        s.drive d o = { s with rm := { u with queue := l ++ e :: r } })
      ∧ ((∀ y ∈ s.rm.queue.drop busy, ¬ same y) → s.rm.queue.length < 32 →
        s.drive d o = { s with rm := { u with queue := s.rm.queue ++ [e] } })
      ∧ ((∀ y ∈ s.rm.queue.drop busy, ¬ same y) → 32 ≤ s.rm.queue.length →
        ∀ l x r, s.rm.queue = l ++ x :: r → busy ≤ l.length →
          (yields x ∧ (∀ y ∈ l.drop busy, ¬ yields y)) ∨ ((∀ y ∈ s.rm.queue.drop busy, ¬ yields y) ∧ l.length = busy) →
          s.drive d o =
            { s with
              rm := { u with queue := l ++ r ++ [e] }
              sp := s.sp.enqueue (s.event .transmitDisplaced
                (subject := (deviceAt x.frame.dst.toNat).map Subject.device)
                (reason := if x.frame.kind = 0x10 then x.frame.payload.head?.map BitVec.toNat else none)) }))

/-- LOOP_BOUND_STATION_FRAME (R13 to R16, R200): the reply code of a station frame for the loop, and what is queued. A frame keeps
its SRC, KIND, SEQ and payload; a broadcast becomes one copy per DISPLAY, OTHER or unbound SOUNDER in address order, all or none.
With all four reply places taken only the overflow flag is set. -/
def Obligations.LoopBoundFrameResult : Prop :=
  ∀ (s : State) (seq : BitVec 4) (dst kind : Byte) (payload : List Byte),
    let c := Instr.loopBoundStationFrame seq dst kind payload
    let entry (a : Byte) : LoopEntry :=
      { frame := { dst := a, src := 0x40, kind, seqByte := seq.setWidth 8, payload }, origin := .forwarded }
    let free (r : DevRole) : Prop := r = .sounderFree ∨ r = .display ∨ r = .other
    let shown (d : DevIx) : Prop :=
      ∃ x ∈ s.rm.queue, x.origin = .originated ∧ x.frame.kind = 0x10 ∧ x.frame.payload.head? = some 0x06
        ∧ x.frame.dst.toNat = d.val + 1
    (4 ≤ s.sp.replies.length → exec c s = .next { s with sp := { s.sp with overflow := true } }.settle)
    ∧ (s.sp.replies.length < 4 → kind = 0x11 → exec c s = .next (s.addReply seq (.ready [0x00, 0x05])).settle)
    ∧ (s.sp.replies.length < 4 → kind ≠ 0x11 → ∀ d : DevIx, dst.toNat = d.val + 1 →
      ((s.device d).role = .noDevice → exec c s = .next (s.addReply seq (.ready [0x00, 0x06])).settle)
      ∧ (((s.device d).role ≠ .noDevice ∧ ¬ free (s.device d).role ∧ ∀ k side, (s.device d).role ≠ .reader k side)
          ∨ ((∃ k side, (s.device d).role = .reader k side) ∧ shown d) →
        exec c s = .next (s.addReply seq (.ready [0x00, 0x0B])).settle)
      ∧ (free (s.device d).role ∨ ((∃ k side, (s.device d).role = .reader k side) ∧ ¬ shown d) →
        (s.rm.queue.length + 1 ≤ 24 →
          exec c s =
            .next ({ s with rm := { s.rm with queue := s.rm.queue ++ [entry dst] } }.addReply seq (.ready [0x00, 0x00])).settle)
        ∧ (24 < s.rm.queue.length + 1 → exec c s = .next (s.addReply seq (.ready [0x00, 0x0C])).settle)))
    ∧ (s.sp.replies.length < 4 → kind ≠ 0x11 → dst = 0x7F → ∀ l : List DevIx,
        l.Pairwise (· < ·) → (∀ d, d ∈ l ↔ free (s.device d).role) →
      (l = [] → exec c s = .next (s.addReply seq (.ready [0x00, 0x00])).settle)
      ∧ (s.rm.queue.length + l.length ≤ 24 →
        exec c s =
          .next ({ s with rm := { s.rm with
            queue := s.rm.queue ++ l.map (fun (d : DevIx) => entry (BitVec.ofNat 8 (d.val + 1))) } }.addReply seq
              (.ready [0x00, 0x00])).settle)
      ∧ (l ≠ [] → 24 < s.rm.queue.length + l.length → exec c s = .next (s.addReply seq (.ready [0x00, 0x0C])).settle))

/-- R17, R200, R208, R38: at every step the loop transmit queue keeps at most 32 entries, the reply list 4 places, the forward
queue 16 copies and the holiday list 32 days in ascending order. R207, law 9: the event queue holds at most 64 records. R73: the
pending presentation list holds at most 8, no two of one reader. R198: no received station frame is left waiting for SP between
commands, which is the model's (DESIGN CHOICE, log 6). R186, law 10, R184: the alarm table holds at most 16 records, no two with
the same identity or number, all numbers in 1..255. 3.4, law 8, R54: a number has at most one cache entry and none of a bucket
under write, and the cache at most 48 entries. R57: the fetch queue holds at most 8 requests, no two of one bucket, and at most 8
waiting numbers. -/
def Obligations.ListsStayBounded : Prop :=
  (∀ s t : State, s.listsBounded → step s = .next t → t.listsBounded)
  ∧ (∀ s t : State, step s = .next t → (s.eventsBounded → t.eventsBounded) ∧ (s.waitingSound → t.waitingSound)
      ∧ (s.intakeEmpty → t.intakeEmpty))
  ∧ (∀ s t : State, s.alarmsSound → step s = .next t → t.alarmsSound)
  ∧ (∀ s t : State, s.cacheSound → step s = .next t → t.cacheSound ∧ (s.fetchesSound → t.fetchesSound))

/-! ## Credentials (chapter 3) -/

/-- CRED_PUT, CRED_DROP (R61, R62): bad parameters answer BAD_VALUE and a second write BUSY; else the write record is taken with a
reserved place, and on an idle port it starts: its bucket leaves the cache and is read. The slot test (R49) of sixteen bytes, in
its order: erased, faulted by its check, empty, faulted by its contents, occupied; the fields of an occupied slot's record (R48,
Table 11-5). What a CRED PUT prepares is a slot that the slot test finds occupied by its number: its fifteen bytes with the flag
byte's high bits clear and the check-in interval at most 120, then the slot CRC-8. -/
def Obligations.CredWriteCommandResult : Prop :=
  (∀ (s : State) (seq : BitVec 4), s.takesCommands →
      let taken (c : Instr) (code : Byte) (w : WriteRecord) : Prop :=
        (s.csc.write.isSome = true → exec c s = .next (s.addReply seq (.ready [code, 0x02])).settle)
        ∧ (s.csc.write = none → s.csc.port ≠ .idle →
          exec c s = .next ({ s with csc := { s.csc with write := some w } }.addReply seq (.reserved .write code)).settle)
        ∧ (s.csc.write = none → s.csc.port = .idle →
          exec c s =
            .next ({ s with csc := { s.csc with
              cache := s.csc.cache.filter (fun e => e.number % 2048 != w.number % 2048)
              write := some { w with stage := .read 1 }, port := .write } }.addReply seq (.reserved .write code)).settle)
      (∀ l : List Byte, l.length = 15 →
        let bad : Prop :=
          numberOf (l.take 3) = 0 ∨ numberOf (l.take 3) = 0xFFFFFF ∨ 2 < (byteAt l 3).toNat ∨ 3 < (byteAt l 4).toNat
            ∨ 31 < (byteAt l 7).toNat ∨ (9999 < field l 8 2 ∧ field l 8 2 ≠ 0xFFFF)
        (bad → exec (.credPut seq l) s = .next (s.addReply seq (.ready [0x10, 0x05])).settle)
        ∧ (¬ bad → taken (.credPut seq l) 0x10
            { op := .put, number := numberOf (l.take 3), bytes := putBytes l, clamped := decide (120 < (byteAt l 14).toNat)
              stage := .waiting }))
      ∧ (∀ n : BitVec 24,
        (n = 0 ∨ n = 0xFFFFFF → exec (.credDrop seq n) s = .next (s.addReply seq (.ready [0x11, 0x05])).settle)
        ∧ (n ≠ 0 → n ≠ 0xFFFFFF → taken (.credDrop seq n) 0x11
            { op := .drop, number := n.toNat, bytes := List.replicate 16 0, clamped := false, stage := .waiting })))
  ∧ (∀ b : List Byte, b.length = 16 →
      let f (i : Nat) : Nat := (byteAt b i).toNat
      let n : Nat := f 0 * 65536 + f 1 * 256 + f 2
      let pin : Nat := f 8 * 256 + f 9
      let bad : Prop :=
        n = 0xFFFFFF ∨ 2 < f 3 ∨ 3 < f 4 ∨ 31 < f 7 ∨ (9999 < pin ∧ pin ≠ 0xFFFF) ∨ 120 < f 14
      ((∀ x ∈ b, x = 0xFF) → classifySlot b = .erased)
      ∧ ((∃ x ∈ b, x ≠ 0xFF) → crc8 (b.take 15) ≠ byteAt b 15 → classifySlot b = .faulted)
      ∧ ((∃ x ∈ b, x ≠ 0xFF) → crc8 (b.take 15) = byteAt b 15 →
        (n = 0 → classifySlot b = .empty)
        ∧ (n ≠ 0 → bad → classifySlot b = .faulted)
        ∧ (n ≠ 0 → ¬ bad → classifySlot b = .occupied n ∧ ∃ schedule : SchedId, schedule.val = f 7 ∧
          recordOf b =
            { number := n
              status := if f 3 = 0 then .active else if f 3 = 1 then .suspended else .lost
              cls := if f 4 = 0 then .staff else if f 4 = 1 then .custodian else if f 4 = 2 then .contractor else .visitor
              doorMask := byteAt b 5 ++ byteAt b 6, schedule, pin := if pin = 0xFFFF then none else some pin
              expiry := f 10 * 256 + f 11, escortRequired := decide (f 12 % 2 = 1)
              passbackExempt := decide (f 12 / 2 % 2 = 1), duressEnabled := decide (f 12 / 4 % 2 = 1), issue := f 13
              checkIn := f 14 })))
  ∧ (∀ l : List Byte, l.length = 15 → enrollable (field l 0 3) = true → putGood l = true →
      (putBytes l).length = 16 ∧ classifySlot (putBytes l) = .occupied (field l 0 3)
        ∧ (putBytes l).take 12 = l.take 12 ∧ byteAt (putBytes l) 12 = byteAt l 12 &&& 0x07
        ∧ byteAt (putBytes l) 13 = byteAt l 13 ∧ (byteAt (putBytes l) 14).toNat = min (byteAt l 14).toNat 120
        ∧ byteAt (putBytes l) 15 = crc8 ((putBytes l).take 15))

/-- CRED_LOOK (R56, R58, R68): a cached record is returned raw (log 22) and its entry becomes the most recent; a cached absence
answers NOT_FOUND; otherwise the look waits on the fetch request of its bucket with a reserved place, or answers BUSY. That a look
taken while a write to its bucket is WAITING is taken in these ways too, as R67 has it, and not answered after the write, as the
last sentence of R68 has it, is the model's (DESIGN CHOICE, log 47). -/
def Obligations.CredLookResult : Prop :=
  ∀ (s : State) (seq : BitVec 4) (n : BitVec 24), s.takesCommands →
    let c : Instr := .credLook seq n
    let busy : Prop := exec c s = .next (s.addReply seq (.ready [0x12, 0x02])).settle
    let w : Waiter := { requester := .station, number := n.toNat }
    let joined : List FetchRequest := s.csc.queue.map (fun r =>
      if r.bucket = n.toNat % 2048 then { r with waiters := r.waiters ++ [w] } else r)
    let queued : Prop := ∃ r ∈ s.csc.queue, r.bucket = n.toNat % 2048
    let full : Prop := 8 ≤ (waitingNumbers s.csc.queue).length ∨ (8 ≤ s.csc.queue.length ∧ ¬ queued)
    let started (queue : List FetchRequest) (port : Port) : Prop :=
      ∃ cache, exec c s =
          .next ({ s with csc := { s.csc with cache, queue, port, look := some n.toNat } }.addReply seq
            (.reserved .look 0x12)).settle
        ∧ (s.csc.underWrite (n.toNat % 2048) = true → cache = s.csc.cache)
        ∧ (s.csc.underWrite (n.toNat % 2048) = false → s.csc.cache.length < 48 →
            cache = { number := n.toNat, state := .fetching } :: s.csc.cache)
        ∧ (s.csc.underWrite (n.toNat % 2048) = false → 48 ≤ s.csc.cache.length →
            ∀ l x r, s.csc.cache = l ++ x :: r → x.state ≠ .fetching → (∀ y ∈ r, y.state = .fetching) →
              cache = { number := n.toNat, state := .fetching } :: (l ++ r))
    (n = 0 ∨ n = 0xFFFFFF → exec c s = .next (s.addReply seq (.ready [0x12, 0x05])).settle)
    ∧ (n ≠ 0 → n ≠ 0xFFFFFF → s.csc.look.isSome = true → busy)
    ∧ (n ≠ 0 → n ≠ 0xFFFFFF → s.csc.look = none →
      (∀ l e r, s.csc.cache = l ++ e :: r → e.number = n.toNat → (∀ x ∈ l ++ r, x.number ≠ n.toNat) →
        (∀ slot, e.state = .valid slot →
          exec c s =
            .next ({ s with csc := { s.csc with cache := e :: (l ++ r) } }.addReply seq (.ready ([0x12, 0x00] ++ slot))).settle)
        ∧ (e.state = .negative →
          exec c s = .next ({ s with csc := { s.csc with cache := e :: (l ++ r) } }.addReply seq (.ready [0x12, 0x06])).settle)
        ∧ (e.state = .fetching →
          exec c s =
            .next ({ s with csc := { s.csc with queue := joined, look := some n.toNat } }.addReply seq
              (.reserved .look 0x12)).settle))
      ∧ ((∀ x ∈ s.csc.cache, x.number ≠ n.toNat) →
        (n.toNat ∈ waitingNumbers s.csc.queue →
          exec c s =
            .next ({ s with csc := { s.csc with queue := joined, look := some n.toNat } }.addReply seq
              (.reserved .look 0x12)).settle)
        ∧ (n.toNat ∉ waitingNumbers s.csc.queue → full → busy)
        ∧ (n.toNat ∉ waitingNumbers s.csc.queue → ¬ full → queued → started joined s.csc.port)
        ∧ (n.toNat ∉ waitingNumbers s.csc.queue → ¬ full → ¬ queued →
          let r : FetchRequest :=
            { bucket := n.toNat % 2048, waiters := [w], attempt := 1, inCycle := false, firstNumber := n.toNat }
          (s.csc.port ≠ .idle → started (s.csc.queue ++ [r]) s.csc.port)
          ∧ (s.csc.port = .idle → s.csc.queue = [] → s.csc.write = none → started [{ r with inCycle := true }] .fetch))))

/-- BUCKET_READ_TIMEOUT, BUCKET_READ_COMPLETE (R50 to R53, R59, R63, R70): the read that runs is of the four slots of its bucket,
by their byte addresses; a completed read with a faulted slot is a timeout; a first faulted attempt is repeated; a second ends the
fetch or the write as a store fault, that of a fetch naming the first waiter the request had, withdrawn since or not (R60;
DEDUCED, log 20), and answering those that are left; a good read of a write finds its target slot. A read left over from before a
RESTART (DEDUCED, log 21) is repeated, and a second fault is reported; it answers no one, and the port goes to a waiting write or
the head request (R51). Two clauses are the model's. That BUCKET_READ_TIMEOUT changes nothing on an idle port, where no read runs
whose wait it could end (log 3), is DESIGN CHOICE, log 30. That a lone CRED LOOK is answered STORE_FAULT by the read that ends
also while a write of its bucket is WAITING, as R67 has the waiters of that read answered before the write starts, and not after
the write, as the last sentence of R68 has it, is DESIGN CHOICE, log 47. -/
def Obligations.BucketReadResult : Prop :=
  ∀ s : State,
    (∀ r q, s.csc.port = .fetch → s.csc.queue = r :: q →
      s.csc.cycle = some (.bucketRead ((List.range 4).map (fun k => 64 * r.bucket + 16 * k))))
    ∧ (∀ w a, s.csc.port = .write → s.csc.write = some w → w.stage = .read a →
      s.csc.cycle = some (.bucketRead ((List.range 4).map (fun k => 64 * (w.number % 2048) + 16 * k))))
    ∧ (∀ slots, (∃ b ∈ slots, classifySlot b = .faulted) → exec (.bucketReadComplete slots) s = exec .bucketReadTimeout s)
    ∧ (s.csc.port = .idle → exec .bucketReadTimeout s = .next s.settle)
    ∧ (∀ r q, s.csc.port = .fetch → s.csc.queue = r :: q → r.attempt = 1 →
      exec .bucketReadTimeout s = .next { s with csc := { s.csc with queue := { r with attempt := 2 } :: q } }.settle)
    ∧ (∀ r q, s.csc.port = .fetch → s.csc.queue = r :: q → r.attempt = 2 → (∀ w, s.csc.write = some w → w.stage = .waiting) →
      let cache : List CacheEntry :=
        s.csc.cache.filter (fun e => !(e.state.isFetching && (r.waiters.map Waiter.number).contains e.number))
      let freed : Csc := s.csc.freed cache q
      let u : State :=
        { s.tells (s.event .storeFault (subject := some (.credential r.firstNumber)) (reason := some 1)) with
          csc := { s.csc with cache } }
      (∃ t : State, exec .bucketReadTimeout s = .next t.settle ∧ t.csc = { freed with look := t.csc.look }
        ∧ t.pe.waiting = s.pe.waiting.filter (fun p => !r.waiters.any (fun x => x.requester == .reader p.reader)))
      ∧ (r.waiters = [] → exec .bucketReadTimeout s = .next { u with csc := freed }.settle)
      ∧ (∀ n, r.waiters = [{ requester := .station, number := n }] →
        exec .bucketReadTimeout s =
          .next { u with
            csc := { freed with look := none }
            sp := { u.sp with replies := s.sp.replies.map (fun p : ReplyPlace => match p.body with
              | .reserved .look c => { p with body := .ready [c, 0x09] }
              | .reserved .write _ | .reserved .restart _ | .ready _ | .sending _ => p) } }.settle)
      ∧ (∀ n d k p m, r.waiters = [{ requester := .reader d, number := n }] →
          s.pe.waiting = k ++ p :: m → p.reader = d → (∀ y ∈ k ++ m, y.reader ≠ d) →
        exec .bucketReadTimeout s =
          .next { { u with pe := { waiting := k ++ m } }.decidePresentation p .storeFault with csc := freed }.settle))
    ∧ (∀ w, s.csc.port = .write → s.csc.write = some w → w.stage = .read 1 →
      exec .bucketReadTimeout s = .next { s with csc := { s.csc with write := some { w with stage := .read 2 } } }.settle)
    ∧ (∀ w, s.csc.port = .write → s.csc.write = some w → w.stage = .read 2 → s.sp.restartWaiting = false →
      exec .bucketReadTimeout s =
        .next ((s.writeOver 0x09).tells
          (s.event .storeFault (subject := some (.credential w.number)) (reason := some 1))).settle)
    ∧ (∀ w a slots, s.csc.port = .write → s.csc.write = some w → w.stage = .read a →
        (∀ b ∈ slots, classifySlot b ≠ .faulted) →
      (∀ l b r, slots = l ++ b :: r →
          (classifySlot b = .occupied w.number ∧ ∀ x ∈ l, classifySlot x ≠ .occupied w.number)
            ∨ (w.op = .put ∧ (∀ x ∈ slots, classifySlot x ≠ .occupied w.number) ∧ (classifySlot b).isEmpty = true
              ∧ ∀ x ∈ l, (classifySlot x).isEmpty = false) →
        exec (.bucketReadComplete slots) s =
          .next { s with csc := { s.csc with write := some { w with stage := .slotWrite l.length } } }.settle)
      ∧ ((∀ x ∈ slots, classifySlot x ≠ .occupied w.number) →
          w.op = .drop ∨ (∀ x ∈ slots, (classifySlot x).isEmpty = false) → s.sp.restartWaiting = false →
        exec (.bucketReadComplete slots) s =
          .next (s.writeOver (if w.op = WriteOp.put then 0x07 else 0x06)).settle))
    ∧ (∀ n, s.csc.port = .orphan 1 n →
      exec .bucketReadTimeout s = .next { s with csc := { s.csc with port := .orphan 2 n } }.settle)
    ∧ (∀ a n, s.csc.port = .orphan a n → (∀ w, s.csc.write = some w → w.stage = .waiting) →
      let freed : Csc := s.csc.freed s.csc.cache s.csc.queue
      (a = 2 →
        exec .bucketReadTimeout s =
          .next { s.tells (s.event .storeFault (subject := some (.credential n)) (reason := some 1)) with csc := freed }.settle)
      ∧ ∀ slots, (∀ b ∈ slots, classifySlot b ≠ .faulted) →
        exec (.bucketReadComplete slots) s = .next { s with csc := freed }.settle)

/-- BUCKET_READ_COMPLETE (R52, R55, R59, R62, R68, R75): a good read of the head request gives its waiters their answers and frees
the port. The first slot occupied by a number is its answer, cached VALID, or with none NOT_ENROLLED, cached NEGATIVE, at the most
recent place, whether an entry waited for it or none did; a CRED LOOK that waits alone is replied to, and a lone reader's waiting
presentation is decided with that answer. A credential write that waits starts next, before the fetch requests behind, and drops
its bucket from the cache once the waiters have their answers (R51, R62). One clause is the model's: that a lone CRED LOOK is
answered from the read also while a write of its bucket is WAITING, as R67 has the waiters of that read answered from the contents
before the write, and not after the write, as the last sentence of R68 has it (DESIGN CHOICE, log 47). -/
def Obligations.FetchEndsGood : Prop :=
  ∀ (s : State) (r : FetchRequest) (q : List FetchRequest) (slots : List (List Byte)),
    s.csc.port = .fetch → s.csc.queue = r :: q → (∀ b ∈ slots, classifySlot b ≠ .faulted) →
    let freed (cache : List CacheEntry) : Csc := s.csc.freed cache q
    let answered (n : Nat) (c : CacheState) (a : Answer) (data : List Byte) : Prop :=
      (∃ k b m, slots = k ++ b :: m ∧ classifySlot b = .occupied n ∧ (∀ y ∈ k, classifySlot y ≠ .occupied n)
          ∧ c = .valid b ∧ a = .found b ∧ data = 0x00 :: b)
        ∨ ((∀ y ∈ slots, classifySlot y ≠ .occupied n) ∧ c = .negative ∧ a = .notEnrolled ∧ data = [0x06])
    let cached (n : Nat) (c : CacheState) (cache : List CacheEntry) : Prop :=
      (∃ l x k, s.csc.cache = l ++ { number := n, state := x } :: k ∧ (∀ e ∈ l ++ k, e.number ≠ n) ∧ s.csc.cache.length ≤ 48
          ∧ cache = { number := n, state := c } :: (l ++ k))
        ∨ ((∀ e ∈ s.csc.cache, e.number ≠ n) ∧ s.csc.cache.length < 48 ∧ cache = { number := n, state := c } :: s.csc.cache)
        ∨ ((∀ e ∈ s.csc.cache, e.number ≠ n) ∧ 48 ≤ s.csc.cache.length
          ∧ ∃ l x k, s.csc.cache = l ++ x :: k ∧ x.state ≠ .fetching ∧ (∀ e ∈ k, e.state = .fetching)
            ∧ cache = { number := n, state := c } :: (l ++ k))
    (s.csc.write = none → ∃ t : State, exec (.bucketReadComplete slots) s = .next t.settle
      ∧ t.csc.queue = (match q with | x :: l => { x with inCycle := true } :: l | [] => [])
      ∧ t.csc.port = (if q = [] then .idle else .fetch) ∧ t.csc.write = none
      ∧ t.pe.waiting = s.pe.waiting.filter (fun p => !r.waiters.any (fun x => x.requester == .reader p.reader))
      ∧ t.pending = s.pending ∧ t.fc = s.fc ∧ t.csu = s.csu)
    ∧ (∀ n c a data cache, (∀ w, s.csc.write = some w → w.stage = .waiting) →
        r.waiters = [{ requester := .station, number := n }] → n % 2048 = r.bucket →
        answered n c a data → cached n c cache →
      exec (.bucketReadComplete slots) s =
        .next { s with
          csc := { freed cache with look := none }
          sp := { s.sp with replies := s.sp.replies.map (fun p : ReplyPlace => match p.body with
            | .reserved .look code => { p with body := .ready (code :: data) }
            | .reserved .write _ | .reserved .restart _ | .ready _ | .sending _ => p) } }.settle)
    ∧ (∀ n c a data cache d k p m, (∀ w, s.csc.write = some w → w.stage = .waiting) →
        r.waiters = [{ requester := .reader d, number := n }] → n % 2048 = r.bucket → answered n c a data → cached n c cache →
        s.pe.waiting = k ++ p :: m → p.reader = d → (∀ y ∈ k ++ m, y.reader ≠ d) →
      let u : State := { s with csc := { s.csc with cache }, pe := { waiting := k ++ m } }
      exec (.bucketReadComplete slots) s = .next { u.decidePresentation p a with csc := freed cache }.settle)
    ∧ (∀ w, s.csc.write = some w → w.stage = .waiting →
      ∃ t : State, exec (.bucketReadComplete slots) s = .next t.settle
        ∧ t.csc.write = some { w with stage := .read 1 } ∧ t.csc.port = .write ∧ t.csc.queue = q
        ∧ ∀ e ∈ t.csc.cache, e.number % 2048 ≠ w.number % 2048)

/-- SLOT_WRITE_COMPLETE, SLOT_WRITE_TIMEOUT, READ_BACK_COMPLETE, READ_BACK_TIMEOUT (R50, R51, R64 to R66, Table 3-2), no RESTART
waiting: the byte address of the slot that is written and read back, the stages of a write and how it ends, with its reply and
event. -/
def Obligations.WriteStagesResult : Prop :=
  ∀ (s : State) (w : WriteRecord) (k : Nat), s.csc.write = some w → s.sp.restartWaiting = false →
    let fault (reason : Nat) : Host.Outcome State Fault Refusal :=
      .next ((s.writeOver 0x09).tells
        (s.event .storeFault (subject := some (.credential w.number)) (reason := some reason))).settle
    (s.csc.port = .write → k < 4 →
      (w.stage = .slotWrite k → s.csc.cycle = some (.slotWrite (64 * (w.number % 2048) + 16 * k) w.bytes))
        ∧ (w.stage = .readBack k → s.csc.cycle = some (.slotRead (64 * (w.number % 2048) + 16 * k)))
        ∧ 64 * (w.number % 2048) + 16 * k + 15 < 131072)
    ∧ (w.stage = .slotWrite k →
      exec .slotWriteComplete s =
          .next { s with csc := { s.csc with write := some { w with stage := .readBack k } } }.settle
        ∧ exec .slotWriteTimeout s = fault 2)
    ∧ (w.stage = .readBack k →
      exec (.readBackComplete w.bytes) s =
          .next ((s.writeOver (if w.clamped then 0x01 else 0x00)).tells
            (s.event .credChanged (subject := some (.credential w.number))
              (reason := some (match w.op with | .put => 1 | .drop => 2)))).settle
        ∧ (∀ slot, slot ≠ w.bytes → exec (.readBackComplete slot) s = fault 3)
        ∧ exec .readBackTimeout s = fault 3)

/-! ## Presentations (chapter 4) -/

/-- R72 to R74, R58, R94: what becomes of a presentation that arrives, for the pending list and before the checks; a BADGE that is
no lone worker's check-in only arrives, and PanelDevicesResult states one that is. On a miss the number is joined to the fetch it
waits on, is answered BUSY, or is joined to its bucket's request or given a new one, with a FETCHING entry unless the bucket is
under write. While a RESTART waits, a lookup that answers WAIT leaves no waiter and no FETCHING entry behind, and the presentation
is refused with LIST_FULL, or granted with an empty list for an exit. -/
def Obligations.PresentationArrives : Prop :=
  (∀ (s : State) (d : DevIx) (k : DoorId) (side : Side) (number issue : Nat) (pin : Option Nat),
    (∀ z, z ≠ 0 → (s.lone z).condition = some number →
      (s.door k).entry.kind = .noDoor ∨ ((s.door k).entry.outer ≠ z ∧ (s.door k).entry.inner ≠ z)) →
    s.route d (.badge k side number issue pin) =
      s.arrive { reader := d, door := k, side, number, issue, pin, arrival := s.uptime })
  ∧ ∀ (s : State) (p : Presentation),
    let t := s.arrive p
    let n := p.number
    let refused : Prop := (s.door p.door).entry.kind = .noDoor ∨ (p.side = .entry ∧ (s.door p.door).state = .fault)
    let w : Waiter := { requester := .reader p.reader, number := n }
    let listFull (u : State) : Prop :=
      (p.side = .entry → t = u.denied p .wait 1) ∧ (p.side = .exit → t = u.decidePresentation p .busy)
    let joined : List FetchRequest := s.csc.queue.map (fun r =>
      if r.bucket = n % 2048 then { r with waiters := r.waiters ++ [w] } else r)
    let waits (c : Csc) : Prop := t = { s with csc := c, pe := { waiting := s.pe.waiting ++ [p] } }
    let clean : Prop :=
      ∀ r ∈ s.csc.queue, (r.waiters ≠ [] ∨ r.inCycle = true) ∧ ∀ x ∈ r.waiters, x.requester ≠ .reader p.reader
    let fetching : CacheEntry := { number := n, state := .fetching }
    let room (kept cache : List CacheEntry) : Prop :=
      (s.csc.underWrite (n % 2048) = true ∧ kept = s.csc.cache ∧ cache = kept)
        ∨ (s.csc.underWrite (n % 2048) = false ∧ s.csc.cache.length < 48 ∧ kept = s.csc.cache ∧ cache = fetching :: kept)
        ∨ (s.csc.underWrite (n % 2048) = false ∧ 48 ≤ s.csc.cache.length
          ∧ ∃ l x r, s.csc.cache = l ++ x :: r ∧ x.state ≠ .fetching ∧ (∀ y ∈ r, y.state = .fetching)
            ∧ kept = l ++ r ∧ cache = fetching :: kept)
    let started (kept cache : List CacheEntry) (queue left : List FetchRequest) (port : Port) : Prop :=
      (s.sp.restartWaiting = false → waits { s.csc with cache, queue, port })
        ∧ (s.sp.restartWaiting = true → clean → listFull { s with csc := { s.csc with cache := kept, queue := left, port } })
    ((∃ q ∈ s.pe.waiting, q.reader = p.reader) → t = s.drive p.reader (.display .wait))
    ∧ ((∀ q ∈ s.pe.waiting, q.reader ≠ p.reader) →
      (8 ≤ s.pe.waiting.length → listFull s)
      ∧ (s.pe.waiting.length < 8 → refused → t = s.denied p (.denied .door) 2)
      ∧ (s.pe.waiting.length < 8 → ¬ refused →
        (n = 0 ∨ n = 0xFFFFFF → t = s.decidePresentation p .notEnrolled)
        ∧ (n ≠ 0 → n ≠ 0xFFFFFF →
          (∀ l e r, s.csc.cache = l ++ e :: r → e.number = n → (∀ x ∈ l ++ r, x.number ≠ n) →
            let u : State := { s with csc := { s.csc with cache := e :: (l ++ r) } }
            (∀ slot, e.state = .valid slot → t = u.decidePresentation p (.found slot))
            ∧ (e.state = .negative → t = u.decidePresentation p .notEnrolled)
            ∧ (e.state = .fetching → s.sp.restartWaiting = false → waits { s.csc with queue := joined })
            ∧ (e.state = .fetching → s.sp.restartWaiting = true → clean → n ∈ waitingNumbers s.csc.queue → listFull s))
          ∧ ((∀ x ∈ s.csc.cache, x.number ≠ n) →
            let queued : Prop := ∃ r ∈ s.csc.queue, r.bucket = n % 2048
            let full : Prop := 8 ≤ (waitingNumbers s.csc.queue).length ∨ (8 ≤ s.csc.queue.length ∧ ¬ queued)
            let r : FetchRequest := { bucket := n % 2048, waiters := [w], attempt := 1, inCycle := false, firstNumber := n }
            (n ∈ waitingNumbers s.csc.queue → s.sp.restartWaiting = false → waits { s.csc with queue := joined })
            ∧ (n ∈ waitingNumbers s.csc.queue → s.sp.restartWaiting = true → clean → listFull s)
            ∧ (n ∉ waitingNumbers s.csc.queue →
              (full → t = s.decidePresentation p .busy)
              ∧ (∀ kept cache, ¬ full → room kept cache →
                (queued → started kept cache joined s.csc.queue s.csc.port)
                ∧ (¬ queued → s.csc.port ≠ .idle → started kept cache (s.csc.queue ++ [r]) s.csc.queue s.csc.port)
                ∧ (¬ queued → s.csc.port = .idle → s.csc.queue = [] → s.csc.write = none →
                  started kept cache [{ r with inCycle := true }] [{ r with inCycle := true, waiters := [] }] .fetch)))))))

/-- R77 to R85, R91, R92: the checks of an entry up to the suppression lockout, in their order; the first that fails gives the
reader's message and the reason. The number of the reason STATUS in LOST_CARD_PRESENTED is the model's (DESIGN CHOICE, log 46),
and so is the place of the DISPLAY frame before the event (DESIGN CHOICE, log 15). -/
def Obligations.EntryChecksInOrder : Prop :=
  ∀ (s : State) (p : Presentation), p.side = .entry →
    let x := s.door p.door
    let z := x.entry.inner
    (x.entry.kind = .noDoor ∨ x.state = .fault → ∀ a, s.decidePresentation p a = s.denied p (.denied .door) 2)
    ∧ (x.entry.kind ≠ .noDoor → x.state ≠ .fault →
      s.decidePresentation p .notEnrolled = s.denied p (.denied .card) 3
      ∧ s.decidePresentation p .storeFault = s.denied p (.denied .door) 4
      ∧ s.decidePresentation p .busy = s.denied p (.denied .door) 5
      ∧ ∀ slot : List Byte,
        let r := recordOf slot
        let t := s.decidePresentation p (.found slot)
        let c4 : Prop := r.status = .active ∧ p.issue = r.issue
        let c5 : Prop := c4 ∧ (r.expiry = 0 ∨ (s.csu.clock = .set ∧ s.csu.day ≤ r.expiry))
        let c6 : Prop := c5 ∧ r.doorMask.getLsbD p.door.val = true
        let c7 : Prop := c6 ∧ s.csu.covers r.schedule = true ∧ s.csu.covers x.entry.schedule = true
        let needed : Prop := x.entry.pinMode = .always ∨ (x.entry.pinMode = .afterHours ∧ s.afterHours z = true)
        let c8 : Prop := c7 ∧ (¬ needed ∨ ∃ own, r.pin = some own ∧ p.pin = some own)
        let elsewhere (y : ZoneId) : Prop := r.passbackExempt = false ∧ s.standsIn p.number = some y ∧ y ≠ x.entry.outer
        (r.status = .suspended → t = s.denied p (.denied .card) 6)
        ∧ (r.status = .lost → t = s.denied p (.denied .card) 6 .lostCardPresented)
        ∧ (r.status = .active → p.issue ≠ r.issue → t = s.denied p (.denied .card) 7)
        ∧ (c4 → ¬ c5 → t = s.denied p (.denied .card) 8)
        ∧ (c5 → ¬ c6 → t = s.denied p (.denied .access) 9)
        ∧ (c6 → ¬ c7 → t = s.denied p (.denied .access) 10)
        ∧ (c7 → needed → r.pin = none → t = s.denied p (.denied .pin) 12)
        ∧ (c7 → needed → r.pin ≠ none → p.pin = none → t = s.denied p .pinPrompt 11)
        ∧ (∀ own given, c7 → needed → r.pin = some own → p.pin = some given → given ≠ own →
            r.duressEnabled = false ∨ given ≠ own - own % 10 + (own % 10 + 1) % 10 → t = s.denied p (.denied .pin) 12)
        ∧ (∀ y, c8 → elsewhere y → x.entry.passback = .strict → t = s.denied p (.denied .access) 13)
        ∧ (∀ c, c8 → (∀ y, ¬ elsewhere y) → s.channelOf z = some c →
            (s.channel c).state = .firstAlarm ∨ (s.channel c).state = .preDischarge ∨ (s.channel c).state = .held
              ∨ (s.channel c).state = .releasing ∨ (s.channel c).state = .discharged →
            t = s.denied p (.denied .zone) 14))

/-- R82, R83, R185, R186: a duress PIN passes check 8 and raises a DURESS alarm in the outer zone, whatever becomes of the
presentation; the duress PIN is never the record's own. R84: at a SOFT door a credential that stands elsewhere passes check 9 with
PASSBACK_SOFT, at a door of mode NONE without it, and then goes on as an exempt one. R86: check 11 counts the places held,
reserved and needed against the zone's limit and the pool's 240, and is refused with ROSTER_FULL. -/
def Obligations.DuressPassbackAndCapacity : Prop :=
  (∀ n, duressPin n / 10 = n / 10 ∧ duressPin n % 10 = (n % 10 + 1) % 10 ∧ duressPin n ≠ n)
  ∧ ∀ (s : State) (p : Presentation) (slot : List Byte) (own : Nat), p.side = .entry →
    s.doorRefuses p.door = false → s.checkRecord p (recordOf slot) = none → s.pinNeeded (s.door p.door).entry = true →
    (recordOf slot).pin = some own → (recordOf slot).duressEnabled = true → p.pin = some (duressPin own) →
    ((∀ r ∈ s.sau.alarms, r.identity ≠ .duress p.number) → s.sau.alarms.length < 16 →
      ∃ n, (s.decidePresentation p (.found slot)).sau.alarms =
        s.sau.alarms ++ [{ number := n, identity := .duress p.number, zone := (s.door p.door).entry.outer
                           door := some p.door, raised := s.stamp, acked := none }])
    ∧ ((∃ r ∈ s.sau.alarms, r.identity = .duress p.number) →
      (s.decidePresentation p (.found slot)).sau.alarms = s.sau.alarms)
  ∧ (∀ (s : State) (p : Presentation) (slot exempt : List Byte) (y : ZoneId), p.side = .entry →
      s.doorRefuses p.door = false → s.checkRecord p (recordOf slot) = none →
      s.checkPin (s.door p.door).entry (recordOf slot) p.pin = .pass → (recordOf slot).passbackExempt = false →
      recordOf exempt = { recordOf slot with passbackExempt := true } → s.standsIn p.number = some y →
      y ≠ (s.door p.door).entry.outer →
      ((s.door p.door).entry.passback = .soft →
        s.decidePresentation p (.found slot) =
          (s.tells (s.event .passbackSoft (door := some p.door) (zone := some y)
            (subject := some (.credential p.number)))).decidePresentation p (.found exempt))
      ∧ ((s.door p.door).entry.passback = .noCheck →
        s.decidePresentation p (.found slot) = s.decidePresentation p (.found exempt)))
  ∧ (∀ (s : State) (p : Presentation) (slot : List Byte), p.side = .entry →
      let x := s.door p.door
      let z := x.entry.inner
      let r := recordOf slot
      let reserved (q : ZoneId → Bool) (n : PassageCred → Bool) : Nat := (allDoors.flatMap (fun k =>
        match (s.door k).passage with
        | some a =>
          if (a.direction = .entry ∧ q a.inner = true) ∨ (a.direction = .exit ∧ q a.outer = true) then a.list.filter n else []
        | none => [])).length
      let needed : Nat :=
        if x.entry.kind = .strongroom then
          if x.state = .opened ∨ x.state = .heldOpen ∨ x.state = .forced then 1 else 2
        else if (r.cls = .staff ∨ r.cls = .custodian) ∧ x.slot ≠ none then 2 else 1
      let inZone : Nat := ((s.roster z).filter (fun e => e.number != p.number)).length
        + reserved (fun y => y == z) (fun c => c.number != p.number) + needed
      let inPool : Nat := s.poolCount + reserved (fun y => y != 0) (fun _ => true)
        - (if ∃ y, ∃ e ∈ s.roster y, e.number = p.number then 1 else 0) + needed
      (z = 0 ∨ (inZone ≤ (s.zone z).limit ∧ inPool ≤ 240) → s.noCapacity p r.cls = none)
      ∧ (s.doorRefuses p.door = false → s.checkRecord p r = none → s.checkPin x.entry r p.pin = .pass →
          s.passbackZone p r = none → s.zoneLockedOut z = false → z ≠ 0 →
        ((s.zone z).limit < inZone → s.decidePresentation p (.found slot) = s.denied p (.denied .zone) 1 .rosterFull)
        ∧ (inZone ≤ (s.zone z).limit → 240 < inPool →
          s.decidePresentation p (.found slot) = s.denied p (.denied .zone) 2 .rosterFull)))

/-- R89, R90, R99, R100: an entry that passes every check at a LOCKED plain door, and an exit there: the door is unlocked for the
passage, the reader shows GRANTED and GRANT is posted. A CONTRACTOR or VISITOR who enters there, and anyone who leaves, is granted
alone and leaves the pairing slot as it is (R109). R107, R108, R110: an escort presentation there with an empty slot waits in it;
a STAFF or CUSTODIAN entry then completes the pairing, both stand in the passage, and GRANT is posted for each, PE's partner first
and DC's escort after it, an order that is the model's (DESIGN CHOICE, log 15). -/
def Obligations.PlainGrantResult : Prop :=
  (∀ (s : State) (p : Presentation) (slot : List Byte),
      let x := s.door p.door
      let r := recordOf slot
      x.entry.kind = .plain → x.state = .locked →
      let me : PassageCred := { number := p.number, cls := r.cls }
      let unlocked (y : Door) (direction : Direction) (list : List PassageCred) : State :=
        ((s.setDoor p.door
            { y with
              state := .unlocked, unlock := some (s.csu.ticks + x.entry.unlockWindow)
              passage := some { direction, outer := x.entry.outer, inner := x.entry.inner, list, custodian := false } }
          ).driveOpt x.entry.unit (.unlock x.entry.unlockWindow)).drive p.reader (.display .granted)
      let told (zone : ZoneId) (direction : Direction) (number : Option Nat) : EventRecord :=
        s.event .grant (door := some p.door) (zone := some zone) (subject := number.map Subject.credential)
          (reason := some direction.code)
      (p.side = .exit →
        s.decidePresentation p (.found slot)
            = (unlocked x .exit [me]).tells (told x.entry.outer .exit (some p.number))
        ∧ ∀ a, (∀ b, a ≠ .found b) →
          s.decidePresentation p a = (unlocked x .exit []).tells (told x.entry.outer .exit none))
      ∧ (p.side = .entry → s.checkRecord p r = none → s.checkPin x.entry r p.pin = .pass → s.passbackZone p r = none →
          s.zoneLockedOut x.entry.inner = false → s.noCapacity p r.cls = none → s.needsEscort x.entry r = false →
        (x.slot = none ∨ (r.cls ≠ .staff ∧ r.cls ≠ .custodian) →
          s.decidePresentation p (.found slot)
            = (unlocked x .entry [me]).tells (told x.entry.inner .entry (some p.number)))
        ∧ (∀ e, x.slot = some e → r.cls = .staff ∨ r.cls = .custodian →
          s.decidePresentation p (.found slot)
            = (((unlocked { x with slot := none, pairing := none } .entry [me, { number := e.number, cls := e.cls }]).drive
                e.reader (.display .granted)).tells (told x.entry.inner .entry (some p.number))).tells
              (told x.entry.inner .entry (some e.number)))))
  ∧ (∀ (s : State) (k : DoorId) (e : Escort), (s.door k).entry.kind = .plain → (s.door k).state = .locked →
      let x := s.door k
      x.slot = none →
        s.escortPresented k e =
          ((s.setDoor k { x with slot := some e, pairing := some (s.csu.ticks + x.entry.pairing) }).drive e.reader
            (.display .escortWait)).tells
            (s.event .escortWaiting (door := some k) (zone := some x.entry.inner)
              (subject := some (.credential e.number))))

/-- R89, R90, R101, R99: a grant at a PLAIN door that is not LOCKED. In UNLOCKED a repeat of the held passage is TAKEN and any
other dropped with DENY DOOR_BUSY; a door that stands open confirms the passage at once, with the waiting escort of a pairing
partner behind (R110); an exit in FAULT unlocks the door and leaves both zones UNKNOWN. R87, R108: who needs an escort, and what
an escort presentation does: it joins a held passage, waits, or is answered again or refused. That a pairing partner who repeats
the held passage is TAKEN too is DEDUCED (log 40), and the order of the events of one row is the model's (DESIGN CHOICE, log 15).
-/
def Obligations.OtherGrantsResult : Prop :=
  (∀ (s : State) (p : Presentation) (slot : List Byte),
      let x := s.door p.door
      let r := recordOf slot
      let me : PassageCred := { number := p.number, cls := r.cls }
      let way : Direction := match p.side with | .entry => .entry | .exit => .exit
      let through (list : List PassageCred) : Passage :=
        { direction := way, outer := x.entry.outer, inner := x.entry.inner, list, custodian := false }
      let t := s.decidePresentation p (.found slot)
      let shown (u : State) : State := u.drive p.reader (.display .granted)
      let granted (u : State) : State := (shown u).tells (s.grantTold p (some p.number))
      let standsOpen : Prop := x.state = .opened ∨ x.state = .heldOpen ∨ x.state = .forced
      x.entry.kind = .plain → p.side = .exit ∨ s.passesChecks p r →
      (∀ h, x.state = .unlocked → x.passage = some h → h.direction = way → (∃ c ∈ h.list, c.number = p.number) → t = granted s)
      ∧ (∀ h, x.state = .unlocked → x.passage = some h → h.direction ≠ way ∨ (∀ c ∈ h.list, c.number ≠ p.number) →
          t = s.denied p .wait 16)
      ∧ (standsOpen → p.side = .exit ∨ x.slot = none ∨ (r.cls ≠ .staff ∧ r.cls ≠ .custodian) →
          ∃ u, s.passageConfirmed u p.door (through [me]) ∧ t = granted u)
      ∧ (∀ e, standsOpen → p.side = .entry → x.slot = some e → r.cls = .staff ∨ r.cls = .custodian →
          ∃ u, s.passageConfirmed u p.door (through [me, { number := e.number, cls := e.cls }])
            ∧ t = (((shown (u.setDoor p.door { x with slot := none, pairing := none })).drive e.reader
                (.display .granted)).tells (s.grantTold p (some p.number))).tells (s.grantTold p (some e.number)))
      ∧ (x.state = .fault → p.side = .exit → s.noChannelAt p.door → s.loneCopiesCurrent →
          ∃ u, (shown (s.driveOpt x.entry.unit (.unlock x.entry.unlockWindow))).openedUnattributed u p.door x
              [s.event .unattributedEgress (door := some p.door) (zone := some x.entry.inner) (reason := some 3)]
            ∧ t = u.tells (s.grantTold p (some p.number))))
  ∧ (∀ (s : State) (p : Presentation) (a : Answer), p.side = .exit → (∀ b, a ≠ .found b) →
      (s.door p.door).entry.kind = .plain → (s.door p.door).state = .unlocked →
      s.decidePresentation p a = s.denied p .wait 16)
  ∧ (∀ (s : State) (p : Presentation) (slot : List Byte), p.side = .entry → s.doorRefuses p.door = false →
      let x := (s.door p.door).entry
      let r := recordOf slot
      (s.needsEscort x r = true ↔ x.kind = .plain ∧ (r.cls = .contractor ∨ r.cls = .visitor) ∧ r.escortRequired = true
        ∧ ∀ e ∈ s.roster x.inner, e.cls ≠ .staff ∧ e.cls ≠ .custodian)
      ∧ (s.checkRecord p r = none → s.checkPin x r p.pin = .pass → s.passbackZone p r = none →
          s.zoneLockedOut x.inner = false → s.noCapacity p r.cls = none → s.needsEscort x r = true →
        s.decidePresentation p (.found slot) =
          s.escortPresented p.door { reader := p.reader, number := p.number, cls := r.cls }))
  ∧ (∀ (s : State) (k : DoorId) (e : Escort),
      let x := s.door k
      let shown (u : State) (m : Message) : State := u.drive e.reader (.display m)
      let told (kind : EventKind) (reason : Option Nat) : EventRecord :=
        s.event kind (door := some k) (zone := some x.entry.inner) (subject := some (.credential e.number)) (reason := reason)
      let joinable : Prop := ∃ h c, x.state = .unlocked ∧ x.passage = some h ∧ h.direction = .entry ∧ h.list = [c]
        ∧ (c.cls = .staff ∨ c.cls = .custodian)
      (∀ h c, x.state = .unlocked → x.passage = some h → h.direction = .entry → h.list = [c] →
          c.cls = .staff ∨ c.cls = .custodian →
        s.escortPresented k e =
          (shown (s.setDoor k { x with passage := some { h with list := [c, { number := e.number, cls := e.cls }] } })
            .granted).tells (told .grant (some 1)))
      ∧ (¬ joinable →
        (x.slot = none →
          s.escortPresented k e =
            (shown (s.setDoor k { x with slot := some e, pairing := some (s.csu.ticks + x.entry.pairing) }) .escortWait).tells
              (told .escortWaiting none))
        ∧ (∀ w, x.slot = some w → w.number = e.number → s.escortPresented k e = shown s .escortWait)
        ∧ (∀ w, x.slot = some w → w.number ≠ e.number → s.escortPresented k e = (shown s .wait).tells (told .deny (some 16)))))

/-! ## Doors (chapters 5 and 6) -/

/-- R97, R104 to R106: a contact change at a PLAIN door that is not unlocked, no channel standing at its zones: closing locks the
door, a held or forced one with its event; an opening that nobody permitted makes it FORCED, or OPEN when the handle or a first
report shows it, and both zones UNKNOWN. The model's is the order of the events: the door's own event, DOOR_FORCED or
UNATTRIBUTED_EGRESS, before ZONE_UNKNOWN, and the outer zone's before the inner one's (DESIGN CHOICE, log 15). -/
def Obligations.PlainContactResult : Prop :=
  ∀ (s : State) (u : DevIx) (k : DoorId) (b : Bolt) (handle : Bool),
    let x := s.door k
    let t (c : Contact) : State := s.route u (.doorStatus k c b handle)
    x.entry.kind = .plain → s.doorView k = x.view → s.channelOf x.entry.outer = none → s.channelOf x.entry.inner = none →
    s.loneCopiesCurrent →
    (x.contact = .opened → ∀ r : Option EventKind,
        (x.state = .opened ∧ r = none) ∨ (x.state = .heldOpen ∧ r = some .doorClosedAfterHeld)
          ∨ (x.state = .forced ∧ r = some .doorClosedAfterForced) →
      let v := ((s.setDoor k
          { x with contact := .closed, bolt := some b, state := .locked, held := none, unlock := none
                   passage := none }).setDoorView k
        (some { outer := x.entry.outer, inner := x.entry.inner, contact := .closed })).driveOpt x.entry.unit .lock
      t .closed = match r with
        | some e => v.tells (s.event e (door := some k) (zone := some x.entry.inner))
        | none => v)
    ∧ (x.state = .locked → x.contact = .closed ∨ x.contact = .unknown →
      (t .opened).door k =
          (if x.contact = .closed ∧ handle = false then { x with contact := .opened, bolt := some b, state := .forced }
          else
            { x with contact := .opened, bolt := some b, state := .opened, unlock := none, passage := none
                     held := some (s.csu.ticks + x.entry.heldLimit) })
        ∧ (∀ j, j ≠ k → (t .opened).door j = s.door j)
        ∧ (t .opened).ru = (let one (z : ZoneId) (r : Ru) : Ru :=
              if z = 0 then r else { r with status := r.status.set z .unknown z.isLt }
            one x.entry.inner (one x.entry.outer s.ru))
        ∧ (t .opened).sp = (let unknown (z : ZoneId) (p : Sp) : Sp :=
              if z ≠ 0 ∧ s.zoneStatus z = .known then p.enqueue (s.event .zoneUnknown (zone := some z) (reason := some 1))
              else p
            let first : EventRecord :=
              if x.contact = .closed ∧ handle = false then
                s.event .doorForced (door := some k) (zone := some x.entry.inner)
              else
                s.event .unattributedEgress (door := some k) (zone := some x.entry.inner)
                  (reason := some (if x.contact = .unknown then 2 else 1))
            if x.entry.outer = x.entry.inner then unknown x.entry.outer (s.sp.enqueue first)
            else unknown x.entry.inner (unknown x.entry.outer (s.sp.enqueue first)))
        ∧ (t .opened).rm = s.rm ∧ (t .opened).sau = s.sau ∧ (t .opened).fc = s.fc ∧ (t .opened).csu = s.csu
        ∧ (t .opened).csc = s.csc ∧ (t .opened).pe = s.pe ∧ (t .opened).pending = s.pending)
    ∧ (x.state = .locked → x.contact = .unknown →
      (t .closed).door k = { x with contact := .closed, bolt := some b } ∧ (t .closed).ru = s.ru ∧ (t .closed).rm = s.rm
        ∧ (t .closed).sp = s.sp)

/-- R102, R143 to R145: an opening in UNLOCKED confirms the held passage. The door stands OPEN; a named credential leaves every
list and joins the tail of its destination's if there is room, and otherwise that zone becomes UNKNOWN, with ROSTER_OVERFLOW, by
reason ZONE or POOL, before ZONE_UNKNOWN CAPACITY where it was KNOWN; a passage that names no one makes both tracked zones
UNKNOWN. That RU's events come before PASSAGE is the model's (DESIGN CHOICE, log 15). -/
def Obligations.PassageConfirmedByOpening : Prop :=
  ∀ (s : State) (u : DevIx) (k : DoorId) (b : Bolt) (p : Passage),
    let x := s.door k
    let t := s.route u (.doorStatus k .opened b false)
    x.entry.kind = .plain → x.state = .unlocked → x.contact ≠ .opened → x.passage = some p →
    t.door k =
        { x with contact := .opened, bolt := some b, state := .opened, unlock := none, passage := none
                 held := some (s.csu.ticks + x.entry.heldLimit) }
      ∧ (∀ j, j ≠ k → t.door j = s.door j)
      ∧ t.pending = s.pending ∧ t.fc = s.fc ∧ t.csu = s.csu ∧ t.csc = s.csc ∧ t.pe = s.pe ∧ t.ru.zones = s.ru.zones
      ∧ (p.list = [] ∨ p.direction = .station →
          t.ru.rosters = s.ru.rosters
            ∧ ∀ z, t.zoneStatus z = if z ≠ 0 ∧ (z = p.outer ∨ z = p.inner) then .unknown else s.zoneStatus z)
      ∧ (∀ c dest, p.list = [c] → (p.direction = .entry ∧ dest = p.inner) ∨ (p.direction = .exit ∧ dest = p.outer) →
          let left (z : ZoneId) : List RosterEntry := (s.roster z).filter (fun e => e.number != c.number)
          let room : Prop := (left dest).length < (s.zone dest).limit ∧ (allZones.map (fun z => (left z).length)).sum < 240
          (∀ z, z ≠ dest → t.roster z = left z ∧ t.zoneStatus z = s.zoneStatus z)
          ∧ (dest = 0 → t.roster dest = left dest ∧ t.zoneStatus dest = s.zoneStatus dest)
          ∧ (dest ≠ 0 → room →
              t.roster dest = left dest ++ [{ number := c.number, cls := c.cls, entered := s.uptime, custodian := p.custodian }]
                ∧ t.zoneStatus dest = s.zoneStatus dest)
          ∧ (dest ≠ 0 → ¬ room → t.roster dest = left dest ∧ t.zoneStatus dest = .unknown
            ∧ (s.noListeners → s.doorView k = x.view →
              let overflow : State := s.tells
                (s.event .rosterOverflow (door := some k) (zone := some dest) (subject := some (.credential c.number))
                  (reason := some (if (s.zone dest).limit ≤ (left dest).length then 1 else 2)))
              let passage : EventRecord :=
                s.event .passage (door := some k) (zone := some dest) (subject := some (.credential c.number))
                  (reason := some (if p.direction = .exit then 2 else 1))
              t.rm = s.rm ∧ t.sau.alarms = s.sau.alarms
                ∧ t.sp = ((if s.zoneStatus dest = .known then
                    overflow.tells (s.event .zoneUnknown (zone := some dest) (reason := some 2))
                  else overflow).tells passage).sp)))

/-- R125, R126, R128: a contact change at a STRONGROOM that no channel stands beside. An opening in SECURED is judged, after
cancelling a sequence that runs; in UNBOLTED, as in UNLOCKED at a PLAIN door, it confirms the passage (R102), by the handle an
entry with UNATTRIBUTED_EGRESS and both zones UNKNOWN; closing secures the door, a held or forced one with its event. R132: while
the contact is CLOSED and the settle timer stopped, a reported bolt other than the command is told once and driven again, and its
end is told. The model's: the order of the events, a door's own event before ZONE_UNKNOWN, the outer zone first, and RU's before
PASSAGE (DESIGN CHOICE, log 15); that the bolt reported in the closing frame is not compared (DEDUCED, log 16). -/
def Obligations.StrongroomContactResult : Prop :=
  (∀ (s : State) (u : DevIx) (k : DoorId) (b : Bolt) (handle : Bool),
      let x := s.door k
      let t (c : Contact) : State := s.route u (.doorStatus k c b handle)
      x.entry.kind = .strongroom → s.noChannelAt k →
      (x.state = .secured → x.contact ≠ .opened → s.loneCopiesCurrent →
        s.openedUnattributed (t .opened) k (s.judged k x b handle).1 [(s.judged k x b handle).2])
      ∧ (x.state = .custodyWait ∨ x.state = .delay ∨ x.state = .confirmWait → x.contact ≠ .opened → s.loneCopiesCurrent →
        let v := (s.toldDoor k (x.reported .opened b)).cancelled k (.denied .door) 5
        let j := s.judged k { v.door k with contact := x.contact } b handle
        v.openedUnattributed (t .opened) k j.1 [j.2])
      ∧ (x.contact = .opened → ∀ r : Option EventKind,
          (x.state = .opened ∧ r = none) ∨ (x.state = .heldOpen ∧ r = some .doorClosedAfterHeld)
            ∨ (x.state = .forced ∧ r = some .doorClosedAfterForced) →
        let v := (s.toldDoor k
          { x.reported .closed b with
            state := .secured, unlock := none, held := none, passage := none, pairing := none, custodyA := none
            custodyB := none, budget := none, delay := none, display := none, confirm := none, boltCommand := .thrown
            mismatch := false, settle := some (s.csu.ticks + 5) }).driveOpt x.entry.unit .boltThrow
        t .closed = match r with
          | some e => v.tells (s.event e (door := some k) (zone := some x.entry.inner))
          | none => v))
  ∧ (∀ (s : State) (u : DevIx) (k : DoorId) (b : Bolt) (handle : Bool) (p : Passage),
      let x := s.door k
      let t := s.route u (.doorStatus k .opened b handle)
      (x.entry.kind = .strongroom ∧ x.state = .unbolted) ∨ (x.entry.kind = .plain ∧ x.state = .unlocked) →
      x.contact ≠ .opened → x.passage = some p → s.doorView k = x.view → s.noListeners →
      let v := s.toldDoor k
        { x.reported .opened b with
          state := .opened, unlock := none, passage := none, held := some (s.csu.ticks + x.entry.heldLimit) }
      (handle = false ∨ p.direction = .exit → v.passageConfirmed t k p)
      ∧ (handle = true → p.direction ≠ .exit →
        t.ru = (v.passageMoved p).bothUnknown p.outer p.inner ∧ t.dc = v.dc ∧ t.rm = s.rm ∧ s.keepsFront t
          ∧ t.sau.alarms = s.sau.alarms
          ∧ (let egress : EventRecord :=
              s.event .unattributedEgress (door := some k) (zone := some x.entry.inner) (reason := some 1)
            (p.direction = .entry → p.list ≠ [] →
              t.sp = State.unknownTold { s with ru := s.passageMoved p, sp := s.movesTold k p } p.outer p.inner
                [s.passageEvent k p, egress])
            ∧ (p.list = [] ∨ p.direction = .station →
              t.sp = ((s.unknownTold p.outer p.inner []).enqueue (s.passageEvent k p)).enqueue egress))))
  ∧ (∀ (s : State) (u : DevIx) (k : DoorId) (b : Bolt) (handle : Bool),
      let x := s.door k
      let t := s.route u (.doorStatus k .closed b handle)
      let y : Door := { x with bolt := some b }
      x.entry.kind = .strongroom → x.contact = .closed → x.state ≠ .fault →
      (x.settle ≠ none → t = s.setDoor k y)
      ∧ (x.settle = none → b ≠ x.boltCommand → x.mismatch = false →
        t = ((s.setDoor k { y with mismatch := true }).tells
            (s.event .boltMismatch (door := some k) (zone := some x.entry.inner)
              (reason := some (match b with | .thrown => 0 | .withdrawn => 1)))).driveOpt x.entry.unit
          (match x.boltCommand with | .thrown => .boltThrow | .withdrawn => .boltWithdraw))
      ∧ (x.settle = none → b ≠ x.boltCommand → x.mismatch = true → t = s.setDoor k y)
      ∧ (x.settle = none → b = x.boltCommand → x.mismatch = true →
        t = (s.setDoor k { y with mismatch := false }).tells
          (s.event .boltMismatchCleared (door := some k) (zone := some x.entry.inner)))
      ∧ (x.settle = none → b = x.boltCommand → x.mismatch = false → t = s.setDoor k y))

/-- R131: a channel that enters the lockout set cancels the sequence of a STRONGROOM whose inner zone is its own, or bolts one
that was UNBOLTED for an entry again, and leaves every other door; a detector, a RELEASE_STATION and a MANUAL RELEASE line that
make it enter the set from NORMAL bring this about (R162, R163, R165). R98, R129: the first DOOR_STATUS of a door in FAULT ends
it, no channel standing at its zones: CLOSED locks or secures it, OPEN opens it with UNATTRIBUTED_EGRESS and both zones UNKNOWN,
each with DOOR_FAULT_CLEARED; that the door's own events come before ZONE_UNKNOWN, the outer zone's first, is the model's (DESIGN
CHOICE, log 15). The SOUNDERs of a tone are taken in ascending address order (DESIGN CHOICE, log 15). -/
def Obligations.LockoutAndFaultEndResult : Prop :=
  (∀ (s : State) (z : ZoneId) (k : DoorId),
      let x (j : DoorId) : Door := s.door j
      let concerned (j : DoorId) : Prop := (x j).entry.kind = .strongroom ∧ (x j).entry.inner = z
        ∧ ((x j).state = .custodyWait ∨ (x j).state = .delay ∨ (x j).state = .confirmWait
          ∨ ((x j).state = .unbolted ∧ ∃ p, (x j).passage = some p ∧ p.direction = .entry))
      ((∀ j, ¬ concerned j) → s.lockoutEntered z = s)
      ∧ (concerned k → (∀ j, j ≠ k → ¬ concerned j) →
        ((x k).state ≠ .unbolted → s.lockoutEntered z = s.cancelled k (.denied .zone) 8)
        ∧ (∀ p, (x k).state = .unbolted → (x k).passage = some p →
          s.lockoutEntered z =
            (((s.setDoor k
                { x k with
                  unlock := none, passage := none, state := .secured, boltCommand := .thrown, mismatch := false
                  settle := some (s.csu.ticks + 5) }).driveOpt (x k).entry.unit .boltThrow).driveOpt (x k).entry.entryReader
                (.display (.denied .zone))).tells
              (s.event .strongroomCancelled (door := some k) (zone := some z)
                (subject := p.list.head?.map (fun c => Subject.credential c.number)) (reason := some 8)))))
  ∧ (∀ (s : State) (c : ChannelId) (z : ZoneId), (s.channel c).state = .normal → (s.channel c).zone = some z →
      let ch := s.channel c
      let told (kind : EventKind) (reason : Nat) : EventRecord :=
        s.event kind (zone := some z) (channel := some c) (reason := some reason)
      (∀ (d : DevIx) (g : Group), (s.device d).role = .detector c g → (s.scDev d).level ≠ some .alarm →
        let u := (s.setScDev d { s.scDev d with level := some .alarm, latch := true }).tells (told .detectorAlarm (d.val + 1))
        (ch.coincidence = true → (∃ h, h ≠ g ∧ ∀ e, (s.device e).role = .detector c h → (s.scDev e).latch = false) →
          s.route d (.detector c g .alarm) =
            ((u.setChannel c { ch with state := .firstAlarm }).tells
              (told .channelFirstAlarm (match g with | .groupA => 0 | .groupB => 1))).lockoutEntered z)
        ∧ (ch.coincidence = false → s.route d (.detector c g .alarm) = (u.countdownStarted c).lockoutEntered z))
      ∧ (∀ d : DevIx, (s.scDev d).release ≠ some true →
        s.route d (.releaseStation c true) =
          (((s.setScDev d { s.scDev d with release := some true }).tells (told .manualRelease (d.val + 1))).countdownStarted
            c).lockoutEntered z)
      ∧ (∀ (raw : Bool) (recovery : Timer), s.line (.manualRelease c) = { raw, qualifier := .pulse .pressed recovery } →
        exec (.pressTimerExpiry (.manualRelease c)) s =
          .next ((((s.setLine (.manualRelease c) { raw, qualifier := .pulse .spent none }).tells
            (told .manualRelease 0x0100)).countdownStarted c).lockoutEntered z).settle))
  ∧ (∀ (s : State) (u : DevIx) (k : DoorId) (b : Bolt) (handle : Bool),
      let x := s.door k
      let t (c : Contact) : State := s.route u (.doorStatus k c b handle)
      let cleared (reason : Nat) : EventRecord :=
        s.event .doorFaultCleared (door := some k) (zone := some x.entry.inner) (reason := some reason)
      x.state = .fault → s.noChannelAt k →
      (x.entry.kind = .plain → x.contact ≠ .closed →
        t .closed = ((s.toldDoor k
          { x.reported .closed b with state := .locked, held := none, unlock := none, passage := none }).driveOpt x.entry.unit
            .lock).tells (cleared 1))
      ∧ (x.entry.kind = .strongroom → x.contact ≠ .closed →
        t .closed = ((s.toldDoor k
          { x.reported .closed b with
            state := .secured, unlock := none, held := none, passage := none, pairing := none, custodyA := none
            custodyB := none, budget := none, delay := none, display := none, confirm := none, boltCommand := .thrown
            mismatch := false, settle := some (s.csu.ticks + 5) }).driveOpt x.entry.unit .boltThrow).tells (cleared 1))
      ∧ (x.entry.kind = .plain ∨ x.entry.kind = .strongroom → x.contact ≠ .opened → s.loneCopiesCurrent →
        s.openedUnattributed (t .opened) k
          { x.reported .opened b with
            state := .opened, unlock := none, passage := none, held := some (s.csu.ticks + x.entry.heldLimit) }
          [cleared 2, s.event .unattributedEgress (door := some k) (zone := some x.entry.inner) (reason := some 2)]))

/-- UNLOCK_TIMER_EXPIRY, HELD_OPEN_TIMER_EXPIRY, PAIRING_TIMER_EXPIRY (R103, R104, R111), CUSTODY_PAIRING_EXPIRY,
DISPLAY_TIMER_EXPIRY, DELAY_TIMER_EXPIRY, CONFIRM_TIMER_EXPIRY, STRONGROOM_UNLOCK_EXPIRY, BOLT_SETTLE_EXPIRY (R121 to R125, R132,
R117, R118), each when its timer is due (log 2). That DELAY_TIMER_EXPIRY keeps the budget in CONFIRM_WAIT, where Table 6-1 lists
only the custodians, is DEDUCED (log 41). -/
def Obligations.DoorTimersResult : Prop :=
  (∀ (s : State) (k : DoorId) (n : Nat), n ≤ s.csu.ticks →
      let x := s.door k
      (x.state = .unlocked → x.unlock = some n →
        let u := (s.setDoor k { x with state := .locked, held := none, unlock := none, passage := none }).driveOpt x.entry.unit
          .lock
        (x.passage = none → exec (.unlockTimerExpiry k) s = .next u.settle)
        ∧ (∀ p z, x.passage = some p → z = (if p.direction = .exit then p.outer else p.inner) →
          exec (.unlockTimerExpiry k) s =
            .next (u.tells (s.event .grantUnused (door := some k) (zone := some z)
              (subject := p.list.head?.map (fun c => Subject.credential c.number)) (reason := some 1))).settle))
      ∧ (x.state = .opened → x.held = some n →
        exec (.heldOpenTimerExpiry k) s =
          .next ((s.setDoor k { x with state := .heldOpen, held := none }).tells
            (s.event .doorHeldOpen (door := some k) (zone := some x.entry.inner))).settle)
      ∧ (∀ e, x.slot = some e → x.pairing = some n →
        exec (.pairingTimerExpiry k) s =
          .next (((s.setDoor k { x with slot := none, pairing := none }).drive e.reader (.display (.denied .escort))).tells
            (s.event .deny (door := some k) (zone := some x.entry.inner) (subject := some (.credential e.number))
              (reason := some 17))).settle))
  ∧ (∀ (s : State) (k : DoorId) (n : Nat), n ≤ s.csu.ticks →
      let x := s.door k
      (x.state = .custodyWait → x.pairing = some n →
        exec (.custodyPairingExpiry k) s = .next (s.cancelled k (.denied .access) 1).settle)
      ∧ (x.state = .delay → x.display = some n →
        exec (.displayTimerExpiry k) s =
          .next ((s.setDoor k { x with display := some (s.csu.ticks + 60) }).driveOpt x.entry.entryReader
            (.display (.delay (x.delay.getD 0 - s.csu.ticks)))).settle)
      ∧ (∀ b, x.state = .delay → x.delay = some n → x.budget = some b →
        (1 ≤ b.window →
          exec (.delayTimerExpiry k) s =
            .next (((s.setDoor k
                { x with delay := none, display := none, confirm := some (s.csu.ticks + b.window.toNat)
                         confirmOpening := some s.uptime, state := .confirmWait }).driveOpt x.entry.entryReader
              (.display .confirm)).tells (s.event .confirmOpen (door := some k) (zone := some x.entry.inner))).settle)
        ∧ (b.window ≤ 0 → exec (.delayTimerExpiry k) s = .next (s.cancelled k .windowClosed 2).settle))
      ∧ (x.state = .confirmWait → x.confirm = some n →
        exec (.confirmTimerExpiry k) s = .next (s.cancelled k (.denied .access) 3).settle)
      ∧ (∀ p z, x.state = .unbolted → x.unlock = some n → x.passage = some p →
          z = (if p.direction = .exit then p.outer else p.inner) →
        exec (.strongroomUnlockExpiry k) s =
          .next (((s.setDoor k
              { x with
                state := .secured, unlock := none, held := none, passage := none, pairing := none, custodyA := none
                custodyB := none, budget := none, delay := none, display := none, confirm := none, boltCommand := .thrown
                mismatch := false, settle := some (s.csu.ticks + 5) }).driveOpt x.entry.unit .boltThrow).tells
            (s.event .grantUnused (door := some k) (zone := some z)
              (subject := p.list.head?.map (fun c => Subject.credential c.number)) (reason := some 1))).settle)
      ∧ (x.settle = some n → exec (.boltSettleExpiry k) s = .next (s.setDoor k { x with settle := none }).settle))

/-- R119, R120, R124: two custodians and a confirmation. The first at a SECURED strongroom starts the pairing interval, the second
takes the budget of the three schedules and starts the delay, or is refused by the window test: the record clears, BOLT_THROW goes
to the unit (R117), and DENY WINDOW_TOO_SHORT names the second. One of them confirming inside the window withdraws the bolt for
both, with BOLT_WITHDRAW to the unit and STRONGROOM_UNBOLTED naming the one who confirmed. R88: an entry at a STRONGROOM that
passes checks 1 to 11 comes to this with the slot's class and schedule, the reader, the arrival and the duress mark of check 8; a
duress PIN has raised its alarm in the outer zone before check 9 (R83), and a SOFT door that passes a credential standing
elsewhere has posted PASSBACK_SOFT before check 10 (R84). -/
def Obligations.CustodySequence : Prop :=
  (∀ (s : State) (p : Presentation) (slot : List Byte),
    let x := s.door p.door
    let r := recordOf slot
    let given (u : State) (duress : Bool) : State := u.custodyPresented
      { reader := p.reader, door := p.door, number := p.number, cls := r.cls, schedule := r.schedule, arrival := p.arrival, duress }
    let passes9 (u v : State) : Prop :=
      (u.passbackZone p r = none ∧ v = u) ∨ (∃ z, u.passbackZone p r = some z ∧ x.entry.passback = .noCheck ∧ v = u)
        ∨ (∃ z, u.passbackZone p r = some z ∧ x.entry.passback = .soft ∧ v = u.tells
            (u.event .passbackSoft (door := some p.door) (zone := some z) (subject := some (.credential p.number))))
    let passes10And11 (v : State) : Prop := v.zoneLockedOut x.entry.inner = false ∧ v.noCapacity p r.cls = none
    p.side = .entry → x.entry.kind = .strongroom → x.state ≠ .fault → s.checkRecord p r = none →
      (∀ v, s.checkPin x.entry r p.pin = .pass → passes9 s v → passes10And11 v →
        s.decidePresentation p (.found slot) = given v false)
      ∧ (∀ v, s.checkPin x.entry r p.pin = .duress →
          passes9 (s.raiseAlarm (.duress p.number) x.entry.outer (some p.door)) v → passes10And11 v →
        s.decidePresentation p (.found slot) = given v true))
  ∧ (∀ (s : State) (c : Custody),
    let x := s.door c.door
    let show' (u : State) (m : Message) : State := u.driveOpt x.entry.entryReader (.display m)
    let names (kind : EventKind) (reason : Option Nat) : EventRecord :=
      s.event kind (door := some c.door) (zone := some x.entry.inner) (subject := some (.credential c.number)) (reason := reason)
    let me : Custodian := { number := c.number, schedule := c.schedule, duress := c.duress }
    (x.state = .secured → c.cls = .custodian →
      s.custodyPresented c =
        (show' (s.setDoor c.door
          { x with custodyA := some me, pairing := some (s.csu.ticks + x.entry.pairing), state := .custodyWait })
          .custodyWait).tells (names .custodyStarted none))
    ∧ (x.state = .secured → c.cls ≠ .custodian →
      s.custodyPresented c = (show' s (.denied .access)).tells (names .deny (some 18)))
    ∧ (∀ a, x.state = .custodyWait → x.custodyA = some a → c.number ≠ a.number → c.cls = .custodian →
      let left := ((s.csu.remainder x.entry.schedule).min (s.csu.remainder a.schedule)).min (s.csu.remainder c.schedule)
      let budget := budgetOf left x.entry.timeDelay x.entry.confirmWindow (a.duress || c.duress)
      (∀ b, budget = some b →
        s.custodyPresented c =
          (show' (s.setDoor c.door
            { x with
              custodyB := some me, budget := some b, pairing := none, delay := some (s.csu.ticks + b.delay)
              display := some (s.csu.ticks + 60), state := .delay }) (.delay b.delay)).tells (names .delayStarted none))
      ∧ (budget = none →
        s.custodyPresented c =
          (show' ((s.setDoor c.door
              { x with
                state := .secured, unlock := none, held := none, passage := none, pairing := none, custodyA := none
                custodyB := none, budget := none, delay := none, display := none, confirm := none, boltCommand := .thrown
                mismatch := false, settle := some (s.csu.ticks + 5) }).driveOpt x.entry.unit .boltThrow)
            (.denied .access)).tells (names .deny (some 19))))
    ∧ (∀ a b, x.state = .confirmWait → x.custodyA = some a → x.custodyB = some b → c.number = a.number ∨ c.number = b.number →
        x.confirmOpening.getD 0 ≤ c.arrival →
      s.custodyPresented c =
        (show' ((s.setDoor c.door
            { x with
              confirm := none, boltCommand := .withdrawn, mismatch := false, settle := some (s.csu.ticks + 5)
              passage := some
                { direction := .entry, outer := x.entry.outer, inner := x.entry.inner
                  list := [{ number := a.number, cls := .custodian }, { number := b.number, cls := .custodian }]
                  custodian := true }
              custodyA := none, custodyB := none, budget := none
              unlock := some (s.csu.ticks + x.entry.unlockWindow), state := .unbolted }).driveOpt x.entry.unit .boltWithdraw)
          .granted).tells (names .strongroomUnbolted (some 1)))
    ∧ (x.state = .confirmWait → c.arrival < x.confirmOpening.getD 0 → s.custodyPresented c = show' s .confirm)
    ∧ (x.state = .delay → s.custodyPresented c = show' s (.delay (x.delay.getD 0 - s.csu.ticks))))

/-- R127: an exit grant at a STRONGROOM withdraws the bolt from SECURED, after cancelling a sequence that runs, is repeated in
UNBOLTED, and is dropped with DENY DOOR_BUSY otherwise; at a door that stands open it is confirmed at once. R120, R124 to R126: a
custody presentation that repeats custodian A, that is refused, and one in UNBOLTED and at a door that stands open. The order of
the events, of the cancelled sequence before GRANT, and of RU before PASSAGE before GRANT, is the model's (DESIGN CHOICE, log 15).
-/
def Obligations.StrongroomGrantsResult : Prop :=
  (∀ (s : State) (p : Presentation) (a : Answer), p.side = .exit → (s.door p.door).entry.kind = .strongroom →
      let x := s.door p.door
      let t := s.decidePresentation p a
      ∀ list : List PassageCred,
        (∃ b, a = .found b ∧ list = [{ number := p.number, cls := (recordOf b).cls }]) ∨ ((∀ b, a ≠ .found b) ∧ list = []) →
      let through : Passage :=
        { direction := .exit, outer := x.entry.outer, inner := x.entry.inner, list, custodian := false }
      let granted (u : State) : State :=
        (u.drive p.reader (.display .granted)).tells (s.grantTold p (list.head?.map PassageCred.number))
      let withdrawn (u : State) : State :=
        granted ((u.setDoor p.door
          { u.door p.door with
            boltCommand := .withdrawn, mismatch := false, settle := some (s.csu.ticks + 5), passage := some through
            unlock := some (s.csu.ticks + x.entry.unlockWindow), state := .unbolted }).driveOpt x.entry.unit .boltWithdraw)
      (x.state = .secured → t = withdrawn s)
      ∧ (x.state = .custodyWait ∨ x.state = .delay ∨ x.state = .confirmWait →
          t = withdrawn (s.cancelled p.door (.denied .door) 4))
      ∧ (∀ h, x.state = .unbolted → x.passage = some h →
        (h.direction = .exit → h.list.map PassageCred.number = list.map PassageCred.number → t = granted s)
        ∧ (h.direction ≠ .exit ∨ h.list.map PassageCred.number ≠ list.map PassageCred.number → t = s.denied p .wait 16))
      ∧ (x.state = .opened ∨ x.state = .heldOpen ∨ x.state = .forced →
          ∃ u, s.passageConfirmed u p.door through ∧ t = granted u)
      ∧ (x.state = .fault → t = s.denied p .wait 16))
  ∧ (∀ (s : State) (c : Custody),
      let x := s.door c.door
      let t := s.custodyPresented c
      let show' (u : State) (m : Message) : State := u.driveOpt x.entry.entryReader (.display m)
      let refused (m : Message) (reason : Nat) : State :=
        (show' s m).tells (s.event .deny (door := some c.door) (zone := some x.entry.inner)
          (subject := some (.credential c.number)) (reason := some reason))
      (∀ a, x.state = .custodyWait → x.custodyA = some a → c.number = a.number → t = show' s .custodyWait)
      ∧ (∀ a, x.state = .custodyWait → x.custodyA = some a → c.number ≠ a.number → c.cls ≠ .custodian →
          t = refused (.denied .access) 18)
      ∧ (∀ a b, x.state = .confirmWait → x.custodyA = some a → x.custodyB = some b → c.number ≠ a.number → c.number ≠ b.number →
          x.confirmOpening.getD 0 ≤ c.arrival → t = refused (.denied .access) 18)
      ∧ (∀ h, x.state = .unbolted → x.passage = some h →
        (h.direction = .entry → (∃ e ∈ h.list, e.number = c.number) → t = show' s .granted)
        ∧ (h.direction ≠ .entry ∨ (∀ e ∈ h.list, e.number ≠ c.number) → t = refused .wait 16))
      ∧ (x.state = .opened ∨ x.state = .heldOpen ∨ x.state = .forced →
        (c.cls ≠ .custodian → t = refused (.denied .access) 18)
        ∧ (c.cls = .custodian →
          ∃ u, s.passageConfirmed u c.door
              { direction := .entry, outer := x.entry.outer, inner := x.entry.inner
                list := [{ number := c.number, cls := c.cls }], custodian := true }
            ∧ t = show' u .granted)))

/-- DOOR_GRANT, STRONGROOM_CANCEL (R112, R130, R118): the refusals, an opening for a person leaving among them; the release of a
LOCKED plain door; the release of one in FAULT, whose UNLOCK and STATION_GRANT go out, both zones becoming UNKNOWN (stated whole
where no channel stands at them, the order of the events being the model's, DESIGN CHOICE, log 15); the end of a strongroom's
sequence and the bolting of one that was UNBOLTED for an entry. -/
def Obligations.DoorCommandsResult : Prop :=
  ∀ (s : State) (seq : BitVec 4) (n : Byte), s.takesCommands →
    let grant (code : Byte) : Prop := exec (.doorGrant seq n) s = .next (s.addReply seq (.ready [0x38, code])).settle
    let cancel (code : Byte) : Prop := exec (.strongroomCancel seq n) s = .next (s.addReply seq (.ready [0x39, code])).settle
    (16 ≤ n.toNat → grant 0x04 ∧ cancel 0x04)
    ∧ ∀ k : DoorId, n.toNat = k.val →
      let x := s.door k
      let lockedOut : Prop := ∃ c, s.channelOf x.entry.inner = some c
        ∧ ((s.channel c).state = .firstAlarm ∨ (s.channel c).state = .preDischarge ∨ (s.channel c).state = .held
          ∨ (s.channel c).state = .releasing ∨ (s.channel c).state = .discharged)
      (x.entry.kind = .noDoor → grant 0x06 ∧ cancel 0x06)
      ∧ (x.entry.kind = .plain → cancel 0x06)
      ∧ (x.entry.kind = .strongroom → grant 0x0A)
      ∧ (x.entry.kind = .plain → lockedOut → grant 0x0A)
      ∧ (x.entry.kind = .plain → x.state ≠ .locked → x.state ≠ .fault → grant 0x0A)
      ∧ (x.entry.kind = .plain → ¬ lockedOut → x.state = .locked →
        exec (.doorGrant seq n) s =
          .next ((((s.setDoor k
              { x with
                state := .unlocked, unlock := some (s.csu.ticks + x.entry.unlockWindow)
                passage := some
                  { direction := .station, outer := x.entry.outer, inner := x.entry.inner, list := [], custodian := false } }
              ).driveOpt x.entry.unit (.unlock x.entry.unlockWindow)).tells
            (s.event .stationGrant (door := some k) (zone := some x.entry.inner))).addReply seq (.ready [0x38, 0x00])).settle)
      ∧ (x.entry.kind = .plain → ¬ lockedOut → x.state = .fault →
        ∃ t : State, exec (.doorGrant seq n) s = .next t.settle
          ∧ t.dc = s.dc ∧ t.ru.rosters = s.ru.rosters
          ∧ (∀ z, t.zoneStatus z = if z ≠ 0 ∧ (z = x.entry.outer ∨ z = x.entry.inner) then .unknown else s.zoneStatus z)
          ∧ t.sp.replies = s.sp.replies ++ [readyReply seq [0x38, 0x00]]
          ∧ t.fc = s.fc ∧ t.csu = s.csu ∧ t.csc = s.csc ∧ t.pe = s.pe ∧ t.pending = s.pending)
      ∧ (x.entry.kind = .plain → ¬ lockedOut → x.state = .fault → s.noChannelAt k → s.loneCopiesCurrent →
        ∃ u : State, (s.driveOpt x.entry.unit (.unlock x.entry.unlockWindow)).openedUnattributed u k x
            [s.event .stationGrant (door := some k) (zone := some x.entry.inner)]
          ∧ exec (.doorGrant seq n) s = .next (u.addReply seq (.ready [0x38, 0x00])).settle)
      ∧ (x.entry.kind = .strongroom → x.state = .custodyWait ∨ x.state = .delay ∨ x.state = .confirmWait →
        exec (.strongroomCancel seq n) s =
          .next ((s.cancelled k (.denied .access) 7).addReply seq (.ready [0x39, 0x00])).settle)
      ∧ (∀ p, x.entry.kind = .strongroom → x.state = .unbolted → x.passage = some p → p.direction = .entry →
        exec (.strongroomCancel seq n) s =
          .next (((((s.setDoor k
              { x with
                unlock := none, passage := none, state := .secured, boltCommand := .thrown, mismatch := false
                settle := some (s.csu.ticks + 5) }).driveOpt x.entry.unit .boltThrow).driveOpt x.entry.entryReader
              (.display (.denied .access))).tells
            (s.event .strongroomCancelled (door := some k) (zone := some x.entry.inner)
              (subject := p.list.head?.map (fun c => Subject.credential c.number)) (reason := some 7))).addReply seq
              (.ready [0x39, 0x00])).settle)
      ∧ (x.entry.kind = .strongroom → x.state = .secured ∨ x.state = .opened ∨ x.state = .heldOpen ∨ x.state = .forced
          ∨ x.state = .fault → cancel 0x0A)
      ∧ (∀ p, x.entry.kind = .strongroom → x.state = .unbolted → x.passage = some p → p.direction = .exit → cancel 0x0A)

/-- R117, law 6: at every step a strongroom's bolt command is WITHDRAWN only in UNBOLTED, OPEN or HELD_OPEN. R85, law 5: no entry
into a zone whose channel is in the lockout set changes a door or a roster. -/
def Obligations.BoltsAndLockoutHold : Prop :=
  (∀ s t : State, s.boltOnlyOpen → step s = .next t → t.boltOnlyOpen)
  ∧ (∀ (s : State) (p : Presentation) (a : Answer) (c : ChannelId), p.side = .entry →
      s.channelOf (s.door p.door).entry.inner = some c →
      (s.channel c).state = .firstAlarm ∨ (s.channel c).state = .preDischarge ∨ (s.channel c).state = .held
        ∨ (s.channel c).state = .releasing ∨ (s.channel c).state = .discharged →
      (s.decidePresentation p a).dc = s.dc ∧ (s.decidePresentation p a).ru = s.ru)

/-! ## Rosters (chapter 7) -/

/-- ZONE_VERIFY_CLEAR, ZONE_VERIFY_KEEP, ZONE_UNKNOWN (R147 to R149, R152): the refusals, the new list and status, and the event.
That ZONE_VERIFIED CLEAR carries the count 0 is DEDUCED (log 34). -/
def Obligations.ZoneCommandsResult : Prop :=
  ∀ (s : State) (seq : BitVec 4) (n : Byte), s.takesCommands →
    let answers (c : Instr) (payload : List Byte) : Prop := exec c s = .next (s.addReply seq (.ready payload)).settle
    (n = 0 ∨ 11 < n.toNat →
      answers (.zoneVerifyClear seq n) [0x20, 0x04] ∧ answers (.zoneVerifyKeep seq n) [0x21, 0x04]
        ∧ answers (.zoneUnknown seq n) [0x22, 0x04])
    ∧ ∀ z : ZoneId, z ≠ 0 → n.toNat = z.val →
      let done (c : Instr) (ru : Ru) (r : EventRecord) (payload : List Byte) : Prop :=
        ∃ t : State, exec c s = .next t.settle ∧ t.ru = ru
          ∧ t.sp.replies = s.sp.replies ++ [readyReply seq payload]
          ∧ (s.channelOf z = none → (s.lone z).afterHours = false → t.sp.events = (s.sp.enqueue r).events ∧ t.rm = s.rm)
          ∧ t.pending = s.pending ∧ t.fc = s.fc ∧ t.csu = s.csu ∧ t.csc = s.csc ∧ t.pe = s.pe ∧ t.dc = s.dc
          ∧ t.sc.devs = s.sc.devs ∧ t.sau.alarms = s.sau.alarms
      (∀ c, s.channelOf z = some c → (s.channel c).state = .releasing →
        answers (.zoneVerifyClear seq n) [0x20, 0x0A] ∧ answers (.zoneVerifyKeep seq n) [0x21, 0x0A])
      ∧ ((∀ c, s.channelOf z = some c → (s.channel c).state ≠ .releasing) →
        done (.zoneVerifyClear seq n)
            { s.ru with rosters := s.ru.rosters.set z [] z.isLt, status := s.ru.status.set z .known z.isLt }
            (s.event .zoneVerified (zone := some z) (reason := some 0x0100)) [0x20, 0x00]
          ∧ done (.zoneVerifyKeep seq n) { s.ru with status := s.ru.status.set z .known z.isLt }
            (s.event .zoneVerified (zone := some z) (reason := some (0x0200 + (s.roster z).length % 256))) [0x21, 0x00])
      ∧ (s.zoneStatus z = .known →
        done (.zoneUnknown seq n) { s.ru with status := s.ru.status.set z .unknown z.isLt }
          (s.event .zoneUnknown (zone := some z) (reason := some 3)) [0x22, 0x00])
      ∧ (s.zoneStatus z = .unknown → answers (.zoneUnknown seq n) [0x22, 0x00])

/-- Laws 3 and 4: at every step a credential stands in at most one roster entry, the pool holds at most 240 entries and none for
zone 0, and no zone gains an entry while it holds as many as its limit. Table 7-2: a tracked zone becomes KNOWN by a verification
command for it, whether taken as its row or inside a received station frame, or by a ZONE CLEAR KEY bound to it, and by nothing
else. -/
def Obligations.RostersStaySound : Prop :=
  (∀ s t : State, step s = .next t → (s.standsOnce → t.standsOnce) ∧ (s.poolBounded → t.poolBounded)
      ∧ ∀ z, (t.roster z).length ≤ max (s.roster z).length (s.zone z).limit)
  ∧ (∀ (c : Instr) (s t : State) (z : ZoneId), s.intakeEmpty → exec c s = .next t → z ≠ 0 → s.zoneStatus z = .unknown →
      t.zoneStatus z = .known →
      (∃ seq n, (c = .zoneVerifyClear seq n ∨ c = .zoneVerifyKeep seq n) ∧ n.toNat = z.val)
        ∨ (∃ (l pre post : List Byte) (code n seqByte : Byte), c = .stationFrameReceived l
          ∧ (code = 0x20 ∨ code = 0x21) ∧ n.toNat = z.val
          ∧ s.sp.rx ++ l = pre ++ (Frame.wire { dst := 0, src := 0x40, kind := 0x20, seqByte, payload := [code, n] }).drop 1 ++ post)
        ∨ (∃ g, c = .settleTimerExpiry (.general g) ∧ s.lineFunction g = .zoneClearKey z ∧ (s.line (.general g)).raw = true))

/-! ## Suppression channels (chapter 8) -/

/-- R158, R162, R164, R165: a DETECTOR frame. A level other than the last one is posted; an ALARM sets the latch where the
channel's state keeps latches; the first group in alarm makes a coincidence channel FIRST_ALARM, and both groups, or one where
coincidence is not required, start the countdown, HELD at once if a hold cause stands, each with its event and its tone frames
(R177); a channel that was NORMAL enters the lockout set, of which DC is told. No roster changes. The SOUNDERs of a tone are taken
in ascending address order (DESIGN CHOICE, log 15). -/
def Obligations.DetectionResult : Prop :=
  ∀ (s : State) (d : DevIx) (c : ChannelId) (g : Group), (s.device d).role = .detector c g →
    let ch := s.channel c
    let t (level : DetectorLevel) : State := s.route d (.detector c g level)
    let told (k : EventKind) : EventRecord :=
      s.event k (zone := ch.zone) (channel := some c) (reason := some (d.val + 1))
    let other (h : Group) : Prop := ∃ e : DevIx, e ≠ d ∧ (s.device e).role = .detector c h ∧ (s.scDev e).latch = true
    let both : Prop := ∀ h : Group, h = g ∨ other h
    (∀ level, level ≠ .alarm → (s.scDev d).level = some level → t level = s)
    ∧ (∀ level k, (level = .normal ∧ k = .detectorNormal) ∨ (level = .fault ∧ k = .detectorFault) →
        (s.scDev d).level ≠ some level →
      t level = (s.setScDev d { s.scDev d with level := some level }).tells (told k))
    ∧ (ch.state = .unused ∨ ch.state = .lockedOut → (s.scDev d).level ≠ some .alarm →
      t .alarm = (s.setScDev d { s.scDev d with level := some .alarm }).tells (told .detectorAlarm))
    ∧ (ch.state = .unused ∨ ch.state = .lockedOut → (s.scDev d).level = some .alarm → t .alarm = s)
    ∧ (ch.state ≠ .unused → ch.state ≠ .lockedOut →
      (t .alarm).scDev d = { s.scDev d with level := some .alarm, latch := true }
        ∧ (∀ e, e ≠ d → (t .alarm).scDev e = s.scDev e) ∧ (∀ e, e ≠ c → (t .alarm).channel e = s.channel e)
        ∧ (t .alarm).ru = s.ru ∧ (t .alarm).sau.alarms = s.sau.alarms ∧ s.keepsFront (t .alarm)
        ∧ (let v : State := if (s.scDev d).level = some .alarm then s else s.tells (told .detectorAlarm)
          let u := v.setScDev d { s.scDev d with level := some .alarm, latch := true }
          (ch.state = .normal → ch.coincidence = true → ¬ both →
            t .alarm = ((u.setChannel c { ch with state := .firstAlarm }).tells
              (s.event .channelFirstAlarm (zone := ch.zone) (channel := some c)
                (reason := some (match g with | .groupA => 0 | .groupB => 1)))).lockoutSetEntered c)
          ∧ (ch.state = .normal → ch.coincidence = false ∨ both → t .alarm = (u.countdownStarted c).lockoutSetEntered c)
          ∧ (ch.state = .firstAlarm → both → t .alarm = u.countdownStarted c)
          ∧ (ch.state ≠ .normal → ch.state ≠ .firstAlarm ∨ ¬ both → t .alarm = u)))

/-- R160, Table 8-2: the hold-cause set that SC's copies give. R159, R166, R167: an ABORT_STATION frame sets the station's state
and the set is formed again, which stops a countdown or lets it go on, with the tone frames of the change (R177); a set that
changes while HELD is reported by HOLD_CHANGED, and each cause that joins while RELEASING or in an unfinished soak by
HOLD_AFTER_RELEASE (R171), in the order of Table 8-2 (DESIGN CHOICE, log 15). R163, R165: a RELEASE_STATION frame that newly says
OPERATED is a manual release, reported in every state; it starts the countdown of a channel in NORMAL or FIRST_ALARM. R185, R192:
PENDANT frames. R72: a BADGE that is a lone worker's check-in is the check-in, which LoneTimersResult states, and then, whatever
becomes of it, the arrival that PresentationArrives states, on the state after it. The SOUNDERs of a tone are taken in ascending
address order (DESIGN CHOICE, log 15). -/
def Obligations.PanelDevicesResult : Prop :=
  (∀ (s : State) (c : ChannelId),
      ((s.channel c).zone = none → s.holdCauses c = .empty)
      ∧ ∀ z, (s.channel c).zone = some z →
        let h := s.holdCauses c
        (h.abort = true ↔ (s.channel c).abortLine = true
            ∨ ∃ d, (s.device d).role = .abortStation c ∧ (s.scDev d).abortHeld = true)
        ∧ (h.occupied = true ↔ (s.zoneView z).count ≠ 0) ∧ (h.unknown = true ↔ (s.zoneView z).status = .unknown)
        ∧ (h.alarm = true ↔ (s.zoneView z).alarm = true)
        ∧ (h.enclosure = true ↔ ∃ k v, s.doorView k = some v ∧ (v.outer = z ∨ v.inner = z) ∧ v.contact ≠ .closed))
  ∧ (∀ (s : State) (d : DevIx) (c : ChannelId) (held : Bool),
      let ch := s.channel c
      let u := s.setScDev d { s.scDev d with abortHeld := held }
      let h := u.holdCauses c
      let t := s.route d (.abortStation c held)
      let told (kind : EventKind) (n : Nat) : EventRecord :=
        s.event kind (zone := ch.zone) (channel := some c) (reason := some n)
      (ch.state.onlyRecords ∨ (ch.state = .discharged ∧ ch.soakComplete = true) → t = u.setChannel c { ch with hold := h })
      ∧ (ch.state = .held → h ≠ .empty →
        let v := u.setChannel c { ch with hold := h, abortSeen := ch.abortSeen || h.abort }
        (h = ch.hold → t = v) ∧ (h ≠ ch.hold → t = v.tells (told .holdChanged h.bits)))
      ∧ (ch.state = .releasing ∨ (ch.state = .discharged ∧ ch.soakComplete = false) →
        t = ((h.joined ch.hold).map (told .holdAfterRelease)).foldl State.tells (u.setChannel c { ch with hold := h }))
      ∧ (ch.state = .preDischarge → h = .empty → t = u.setChannel c { ch with hold := .empty })
      ∧ (ch.state = .preDischarge → h ≠ .empty → t = u.countdownHeld c h)
      ∧ (ch.state = .held → h = .empty → t = u.countdownResumed c))
  ∧ (∀ (s : State) (d : DevIx) (c : ChannelId) (operated : Bool),
      let ch := s.channel c
      let u := s.setScDev d { s.scDev d with release := some operated }
      let t := s.route d (.releaseStation c operated)
      (operated = false ∨ (s.scDev d).release = some true → t = u)
      ∧ (operated = true → (s.scDev d).release ≠ some true →
        let v := u.tells (s.event .manualRelease (zone := ch.zone) (channel := some c) (reason := some (d.val + 1)))
        (ch.state ≠ .normal → ch.state ≠ .firstAlarm → t = v)
        ∧ (ch.state = .firstAlarm → t = v.countdownStarted c)
        ∧ (ch.state = .normal → t = (v.countdownStarted c).lockoutSetEntered c)))
  ∧ (∀ (s : State) (d : DevIx) (z : ZoneId) (id : Nat),
      s.route d (.pendant z id .alarm) = s.raiseAlarm (.personal id) z none
        ∧ s.route d (.pendant z id .manDown) = s.raiseAlarm (.manDown id) z none
        ∧ s.route d (.pendant z id .checkIn) = s.checkIn z)
  ∧ (∀ (s : State) (d : DevIx) (k : DoorId) (side : Side) (n issue : Nat) (pin : Option Nat) (z : ZoneId), z ≠ 0 →
      (s.lone z).condition = some n → (∀ y, y ≠ z → (s.lone y).condition ≠ some n) → (s.door k).entry.kind ≠ .noDoor →
      (s.door k).entry.outer = z ∨ (s.door k).entry.inner = z →
      s.route d (.badge k side n issue pin) =
        (s.checkIn z).arrive { reader := d, door := k, side, number := n, issue, pin, arrival := s.uptime })

/-- SETTLE_TIMER_EXPIRY of an abort line (R159, R160, R166, R167, R177, R180): the hold-cause set is formed again with the line's
level. Any cause stops a countdown, which keeps its count; with none left the countdown goes on, from the whole length after an
abort in RESTART mode; each with its event and its tone frames. The SOUNDERs of a tone are taken in ascending address order
(DESIGN CHOICE, log 15). -/
def Obligations.AbortHoldsCountdown : Prop :=
  ∀ (s : State) (c : ChannelId) (raw old : Bool), s.line (.abort c) = { raw, qualifier := .level old true } →
    let ch := s.channel c
    let u := (s.setLine (.abort c) { raw, qualifier := .level raw false }).setChannel c { ch with abortLine := raw }
    let h := u.holdCauses c
    let settled (t : State) : Prop := exec (.settleTimerExpiry (.abort c)) s = .next t.settle
    (ch.zone ≠ none → raw = true → h.abort = true)
    ∧ (ch.state = .preDischarge → h ≠ .empty → settled (u.countdownHeld c h))
    ∧ (ch.state = .preDischarge → h = .empty → settled (u.setChannel c { ch with abortLine := raw, hold := .empty }))
    ∧ (ch.state = .held → h = .empty → settled (u.countdownResumed c))

/-- COUNTDOWN_EXPIRY, DRIVE_TIMER_EXPIRY, VALVE_CONFIRM_TIMEOUT, SOAK_TIMER_EXPIRY, TONE_REFRESH (R166, R168 to R172, R177), each
when it is due (log 2), with the tone frames of R177. DRIVE_READBACK_CHANGE, DRIVE_FAULT, DRIVE_FAULT_CLEARED (R169): a changed
readback starts, restarts or ends the 50 ms count (log 29), and the count's end sets or clears DRIVE_FAULT with its event. The
SOUNDERs of a tone are taken in ascending address order (DESIGN CHOICE, log 15); those of a refresh are the ones bound when it is
due (DESIGN CHOICE, log 45); that an active readback is the reason code 1 of DRIVE_FAULT and an inactive one 0 is the model's
(DESIGN CHOICE, log 48). -/
def Obligations.ChannelTimersResult : Prop :=
  (∀ (s : State) (c : ChannelId) (n : Nat), n ≤ s.csu.ticks →
      let ch := s.channel c
      let told (kind : EventKind) : EventRecord := s.event kind (zone := ch.zone) (channel := some c)
      (ch.state = .preDischarge → ch.countdownDue = true → ch.hold = .empty →
        let v := s.setChannel c
          { ch with
            state := .releasing, countdown := 0, countdownDue := false, driveOn := true
            drive := some (s.csu.ticks + ch.driveTime)
            phase := if ch.valveLine = true then .confirmed else .waiting
            confirm := if ch.valveLine = true then none else some (s.csu.ticks + ch.confirmTimeout)
            readCount :=
              if ch.readback = true then (if ch.flags.driveFault = true then .agreeing else .stopped)
              else (if ch.flags.driveFault = true then .stopped else .disagreeing) }
        exec (.countdownExpiry c) s =
          .next (((if ch.valveLine = true then v.tells (told .releaseConfirmed) else v).patternTold c .release).tells
            (told .channelRelease)).settle)
      ∧ (ch.state = .releasing → ch.drive = some n →
        let v := s.setChannel c
          { ch with
            state := .discharged, driveOn := false, drive := none, confirm := none, phase := .idle
            soak := some (s.csu.ticks + ch.soakTime), soakComplete := false
            flags := { ch.flags with confirmFailed := ch.flags.confirmFailed || ch.phase == .waiting }
            readCount :=
              if ch.readback = true then (if ch.flags.driveFault = true then .stopped else .disagreeing)
              else (if ch.flags.driveFault = true then .agreeing else .stopped) }
        exec (.driveTimerExpiry c) s =
          .next (if ch.phase = ConfirmPhase.waiting then v.tells (told .releaseConfirmFailed) else v).settle)
      ∧ (ch.phase = .waiting → ch.confirm = some n →
        exec (.valveConfirmTimeout c) s =
          .next ((s.setChannel c
            { ch with phase := .failed, confirm := none, flags := { ch.flags with confirmFailed := true } }).tells
              (told .releaseConfirmFailed)).settle)
      ∧ (ch.state = .discharged → ch.soak = some n →
        exec (.soakTimerExpiry c) s =
          .next ((s.setChannel c { ch with soak := none, soakComplete := true }).tells (told .soakComplete)).settle)
      ∧ (ch.refresh = some n →
        exec (.toneRefresh c) s =
          .next ((s.setChannel c { ch with refresh := some (n + 30) }).toned (s.sounders c)
            (match ch.state with
              | .preDischarge => .preDischarge
              | .held => .held
              | .releasing | .discharged => .release
              | .unused | .normal | .firstAlarm | .lockedOut => .off)).settle))
  ∧ (∀ (s : State) (c : ChannelId),
      let ch := s.channel c
      (∀ level : Bool,
        exec (.driveReadbackChange c level) s =
          .next (s.setChannel c
            { ch with
              readback := level
              readCount :=
                if level = ch.driveOn then (if ch.flags.driveFault = true then .agreeing else .stopped)
                else (if ch.flags.driveFault = true then .stopped else .disagreeing) }).settle)
      ∧ (ch.readCount = .disagreeing → ch.readback ≠ ch.driveOn →
        exec (.driveFault c) s =
          .next ((s.setChannel c { ch with flags := { ch.flags with driveFault := true }, readCount := .stopped }).tells
            (s.event .driveFault (zone := ch.zone) (channel := some c)
              (reason := some (if ch.readback = true then 1 else 0)))).settle)
      ∧ (ch.readCount = .agreeing → ch.readback = ch.driveOn →
        exec (.driveFaultCleared c) s =
          .next ((s.setChannel c { ch with flags := { ch.flags with driveFault := false }, readCount := .stopped }).tells
            (s.event .driveFaultCleared (zone := ch.zone) (channel := some c))).settle))

/-- CHANNEL_RESET, CHANNEL_LOCKOUT, CHANNEL_RESTORE (R173 to R175, R177): the refusals, and the channel that each leaves with its
tone frames, its event and its reply. That OFF is sent at a channel that was silent too, without a notice to SAU, is DEDUCED (log
17). The SOUNDERs of a tone are taken in ascending address order (DESIGN CHOICE, log 15). -/
def Obligations.ChannelCommandsResult : Prop :=
  ∀ (s : State) (seq : BitVec 4) (n : Byte), s.takesCommands →
    let answers (c : Instr) (payload : List Byte) : Prop := exec c s = .next (s.addReply seq (.ready payload)).settle
    (6 ≤ n.toNat →
      answers (.channelReset seq n) [0x28, 0x04] ∧ answers (.channelLockout seq n) [0x29, 0x04]
        ∧ answers (.channelRestore seq n) [0x2A, 0x04])
    ∧ ∀ c : ChannelId, n.toNat = c.val →
      let ch := s.channel c
      let key : Prop := ∃ g, s.key g = some c
      let done (i : Instr) (t : State) (kind : EventKind) (reason : Option Nat) (payload : List Byte) : Prop :=
        exec i s = .next ((t.tells (s.event kind (zone := ch.zone) (channel := some c) (reason := reason))).addReply seq
          (.ready payload)).settle
      (ch.state = .unused ∨ ch.state = .normal ∨ ch.state = .releasing ∨ ch.state = .lockedOut
          ∨ (ch.state = .discharged ∧ ch.soakComplete = false) → answers (.channelReset seq n) [0x28, 0x0A])
      ∧ (ch.state = .firstAlarm ∨ ch.state = .preDischarge ∨ ch.state = .held
          ∨ (ch.state = .discharged ∧ ch.soakComplete = true) →
        ∀ st, (key ∧ st = .lockedOut) ∨ (¬ key ∧ st = .normal) →
          done (.channelReset seq n)
            (((s.latchesCleared c).setChannel c
              { ch with
                countdown := 0, countdownDue := false, soak := none, soakComplete := false, abortSeen := false
                flags := { ch.flags with confirmFailed := false }, phase := .idle, state := st }).silenced c ch.state)
            .channelReset none [0x28, 0x00])
      ∧ (ch.state = .releasing ∨ ch.state = .discharged → answers (.channelLockout seq n) [0x29, 0x0A])
      ∧ (ch.state = .lockedOut →
        exec (.channelLockout seq n) s =
          .next ((s.setChannel c { ch with stationLockout := true }).addReply seq (.ready [0x29, 0x00])).settle)
      ∧ (ch.state = .unused ∨ ch.state = .normal ∨ ch.state = .firstAlarm ∨ ch.state = .preDischarge ∨ ch.state = .held →
        done (.channelLockout seq n)
          ((s.setChannel c
            { ch with
              stationLockout := true, state := .lockedOut, countdown := 0, countdownDue := false, abortSeen := false }).silenced c
            ch.state)
          .channelLockedOut (some 1) [0x29, 0x00])
      ∧ (ch.stationLockout = false → answers (.channelRestore seq n) [0x2A, 0x0A])
      ∧ (ch.stationLockout = true → ch.state = .lockedOut → ¬ key →
        done (.channelRestore seq n)
          ((s.latchesCleared c).setChannel c
            { ch with
              stationLockout := false, abortSeen := false
              state := match ch.zone with | some _ => .normal | none => .unused })
          .channelRestored (some 1) [0x2A, 0x00])
      ∧ (ch.stationLockout = true → key ∨ ch.state ≠ .lockedOut →
        exec (.channelRestore seq n) s =
          .next ((s.setChannel c { ch with stationLockout := false }).addReply seq (.ready [0x2A, 0x00])).settle)

/-- R169, law 1: at every step a channel's RELEASE DRIVE line is active only while the channel is RELEASING. R168, law 2: a
channel enters RELEASING only by its own COUNTDOWN_EXPIRY out of PRE_DISCHARGE, and, its hold causes being current, only while its
zone is KNOWN and empty, without alarm, abort or open door. -/
def Obligations.ReleasingOnlyFromCountdown : Prop :=
  (∀ s t : State, s.drivesOnlyReleasing → step s = .next t → t.drivesOnlyReleasing)
  ∧ (∀ (i : Instr) (s t : State) (c : ChannelId), exec i s = .next t → (s.channel c).state ≠ .releasing →
      (t.channel c).state = .releasing →
      i = .countdownExpiry c ∧ (s.channel c).state = .preDischarge ∧ (s.channel c).countdownDue = true
        ∧ ∀ z : ZoneId, z ≠ 0 → (s.channel c).zone = some z → s.holdsCurrent → s.copiesCurrent →
          s.zoneStatus z = .known ∧ s.roster z = [] ∧ (∀ r ∈ s.sau.alarms, r.zone ≠ z) ∧ s.alarmOverflow z = false
            ∧ (s.channel c).abortLine = false
            ∧ (∀ d : DevIx, (s.device d).role = .abortStation c → (s.scDev d).abortHeld = false)
            ∧ (∀ k : DoorId, (s.door k).entry.kind ≠ .noDoor → (s.door k).entry.outer = z ∨ (s.door k).entry.inner = z →
                (s.door k).contact = .closed))

/-- R160, R161, R152, R187: at every step every hold-cause set stays the one that SC's copies give, and the copies stay what RU,
SAU and DC hold. R165 to R167: at every step no cause stands at a channel in PRE_DISCHARGE, and one at least at a channel in HELD,
so that a contact report, a zone notice, an alarm notice and an abort each stop a countdown, and the end of the last cause lets it
go on. -/
def Obligations.HoldsAndCopiesStayCurrent : Prop :=
  ∀ s t : State, step s = .next t →
    (s.holdsCurrent → t.holdsCurrent) ∧ (s.copiesCurrent → t.copiesCurrent) ∧ (s.holdsActed → t.holdsActed)

/-! ## Staff alarms and local lines (chapter 9) -/

/-- LEVEL_LINE_CHANGE, PULSE_LINE_CHANGE, RECOVERY_TIMER_EXPIRY (R180, R181): how a raw change moves a line's qualifier. A row
that repeats the raw level is no change, and changes nothing (DESIGN CHOICE, log 30). The 1 s of recovery is counted as R29 counts
seconds (log 2, log 31). PRESS_TIMER_EXPIRY (R181, R182, R163, R185): a press of the whole time latches the line. A STAFF BUTTON
raises its alarm, and a MANUAL RELEASE line starts the countdown of a channel in NORMAL or FIRST_ALARM, with its tone frames
(R177), and is reported in every state. The SOUNDERs of a tone are taken in ascending address order (DESIGN CHOICE, log 15). -/
def Obligations.LineQualifierResult : Prop :=
  (∀ (s : State) (l : InputLine) (raw level : Bool),
      ((s.line l).raw = level →
        exec (.levelLineChange l level) s = .next s.settle ∧ exec (.pulseLineChange l level) s = .next s.settle)
      ∧ (∀ active settling, s.line l = { raw, qualifier := .level active settling } → level ≠ raw →
        exec (.levelLineChange l level) s =
          .next (s.setLine l { raw := level, qualifier := .level active (decide (level ≠ active)) }).settle)
      ∧ (∀ q recovery, s.line l = { raw, qualifier := .pulse q recovery } →
        (q = .ready ∨ q = .pressed → level ≠ raw →
          exec (.pulseLineChange l level) s =
            .next (s.setLine l
              { raw := level, qualifier := .pulse (if level = true then .pressed else .ready) recovery }).settle)
        ∧ (q = .spent → level ≠ raw →
          exec (.pulseLineChange l level) s =
            .next (s.setLine l
              { raw := level, qualifier := .pulse .spent (if level = true then none else some (s.csu.ticks + 1)) }).settle)
        ∧ (q = .spent → ∀ n, recovery = some n → exec (.recoveryTimerExpiry l) s =
            .next (if n ≤ s.csu.ticks then s.setLine l { raw, qualifier := .pulse .ready none } else s).settle)))
  ∧ (∀ (s : State) (raw : Bool) (recovery : Timer),
      (∀ (g : GiId) (z : ZoneId), s.line (.general g) = { raw, qualifier := .pulse .pressed recovery } →
          s.lineFunction g = .staffButton z →
        exec (.pressTimerExpiry (.general g)) s =
          .next ((s.setLine (.general g) { raw, qualifier := .pulse .spent none }).raiseAlarm (.button g) z none).settle)
      ∧ (∀ c : ChannelId, s.line (.manualRelease c) = { raw, qualifier := .pulse .pressed recovery } →
        let ch := s.channel c
        let u := (s.setLine (.manualRelease c) { raw, qualifier := .pulse .spent none }).tells
          (s.event .manualRelease (zone := ch.zone) (channel := some c) (reason := some 0x0100))
        (ch.state ≠ .normal → ch.state ≠ .firstAlarm → exec (.pressTimerExpiry (.manualRelease c)) s = .next u.settle)
        ∧ (ch.state = .firstAlarm → exec (.pressTimerExpiry (.manualRelease c)) s = .next (u.countdownStarted c).settle)
        ∧ (ch.state = .normal →
          exec (.pressTimerExpiry (.manualRelease c)) s = .next ((u.countdownStarted c).lockoutSetEntered c).settle)))

/-- SETTLE_TIMER_EXPIRY (R180, R182, R150, R170, R174): a level that has settled reaches the owner of the line. A ZONE CLEAR KEY
verifies its zone unless the channel is RELEASING; VALVE CONFIRM confirms a release, late if it had failed, and is reported
outside one; a LOCKOUT KEY locks its quiet channel out; a key that lets go does nothing to a zone. That ZONE_VERIFIED KEY carries
the count 0 is DEDUCED (log 34), and so is the OFF that a quiet channel's SOUNDERs are sent (log 17). The SOUNDERs of a tone are
taken in ascending address order (DESIGN CHOICE, log 15). -/
def Obligations.SettledLineResult : Prop :=
  ∀ (s : State) (raw old : Bool),
    (∀ (g : GiId) (z : ZoneId), s.line (.general g) = { raw, qualifier := .level old true } →
        s.lineFunction g = .zoneClearKey z →
      let u := s.setLine (.general g) { raw, qualifier := .level raw false }
      (raw = false → exec (.settleTimerExpiry (.general g)) s = .next u.settle)
      ∧ (raw = true → ∀ c, s.channelOf z = some c → (s.channel c).state = .releasing →
        exec (.settleTimerExpiry (.general g)) s =
          .next (u.tells (s.event .zoneVerifyRefused (zone := some z) (reason := some 1))).settle)
      ∧ (raw = true → (∀ c, s.channelOf z = some c → (s.channel c).state ≠ .releasing) →
        ∃ t : State, exec (.settleTimerExpiry (.general g)) s = .next t.settle
          ∧ t.ru = { s.ru with rosters := s.ru.rosters.set z [] z.isLt, status := s.ru.status.set z .known z.isLt }
          ∧ t.line (.general g) = { raw, qualifier := .level raw false } ∧ t.sau.alarms = s.sau.alarms
          ∧ t.dc = s.dc ∧ s.keepsFront t
          ∧ (s.channelOf z = none → (s.lone z).afterHours = false →
            t.rm = s.rm ∧ t.sp = s.sp.enqueue (s.event .zoneVerified (zone := some z) (reason := some 0x0300)))))
    ∧ (∀ c : ChannelId, s.line (.valveConfirm c) = { raw, qualifier := .level old true } →
      let ch := s.channel c
      let u := s.setLine (.valveConfirm c) { raw, qualifier := .level raw false }
      let told (kind : EventKind) (reason : Option Nat) : EventRecord :=
        s.event kind (zone := ch.zone) (channel := some c) (reason := reason)
      (raw = false → exec (.settleTimerExpiry (.valveConfirm c)) s =
        .next (u.setChannel c { ch with valveLine := false }).settle)
      ∧ (raw = true → ch.state = .releasing → ch.phase = .waiting ∨ ch.phase = .failed →
        exec (.settleTimerExpiry (.valveConfirm c)) s =
          .next ((u.setChannel c { ch with valveLine := true, phase := .confirmed, confirm := none }).tells
            (told .releaseConfirmed (if ch.phase = .failed then some 1 else none))).settle)
      ∧ (raw = true → ch.state = .releasing → ch.phase = .idle ∨ ch.phase = .confirmed →
        exec (.settleTimerExpiry (.valveConfirm c)) s = .next (u.setChannel c { ch with valveLine := true }).settle)
      ∧ (raw = true → ch.state ≠ .releasing →
        exec (.settleTimerExpiry (.valveConfirm c)) s =
          .next ((u.setChannel c { ch with valveLine := true }).tells (told .valveUncommanded none)).settle))
    ∧ (∀ (g : GiId) (c : ChannelId), s.line (.general g) = { raw, qualifier := .level old true } →
        s.lineFunction g = .lockoutKey c →
      (raw = true → (s.channel c).state = .normal →
        exec (.settleTimerExpiry (.general g)) s =
          .next (((((s.setLine (.general g) { raw, qualifier := .level raw false }).setKey g (some c)).setChannel c
              { s.channel c with state := .lockedOut, countdown := 0, countdownDue := false, abortSeen := false }).toned
              (s.sounders c) .off).tells
            (s.event .channelLockedOut (zone := (s.channel c).zone) (channel := some c) (reason := some 2))).settle))

/-- SETTLE_TIMER_EXPIRY of a LOCKOUT KEY (R174, R175, R177): at a channel of any state, with its tone frames, OFF being sent at a
channel that was silent too (DEDUCED, log 17), and the key that lets go. Of an abort line (R160, R167, R171): a set that changes
while HELD is reported by HOLD_CHANGED, and each cause that joins while RELEASING or in an unfinished soak by HOLD_AFTER_RELEASE,
in the order of Table 8-2, which is the model's (DESIGN CHOICE, log 15). ALARM_CLEAR and ALARM_CLEAR_ZONE (R191, R194): the end of
the OVERDUE alarm starts the interval of the zone's lone worker again, with the prompt count at 0 (DESIGN CHOICE, log 35). The
SOUNDERs of a tone are taken in ascending address order (DESIGN CHOICE, log 15). -/
def Obligations.KeysHoldsAndOverdueResult : Prop :=
  (∀ (s : State) (raw old : Bool) (g : GiId) (c : ChannelId), s.line (.general g) = { raw, qualifier := .level old true } →
      s.lineFunction g = .lockoutKey c →
      let ch := s.channel c
      let u := s.setLine (.general g) { raw, qualifier := .level raw false }
      let settled (t : State) : Prop := exec (.settleTimerExpiry (.general g)) s = .next t.settle
      let told : EventRecord := s.event .channelLockedOut (zone := ch.zone) (channel := some c) (reason := some 2)
      let locked : Channel := { ch with state := .lockedOut, countdown := 0, countdownDue := false, abortSeen := false }
      (raw = false → settled ((u.setKey g none).keyLetGo c))
      ∧ (raw = true →
        (ch.state = .unused ∨ ch.state = .normal ∨ ch.state = .firstAlarm ∨ ch.state = .preDischarge ∨ ch.state = .held →
          settled ((((u.setKey g (some c)).setChannel c locked).silenced c ch.state).tells told))
        ∧ (ch.state = .releasing ∨ ch.state = .discharged ∨ ch.state = .lockedOut → settled (u.setKey g (some c)))))
  ∧ (∀ (s : State) (c : ChannelId) (raw old : Bool), s.line (.abort c) = { raw, qualifier := .level old true } →
      let ch := s.channel c
      let u := (s.setLine (.abort c) { raw, qualifier := .level raw false }).setChannel c { ch with abortLine := raw }
      let h := u.holdCauses c
      let settled (t : State) : Prop := exec (.settleTimerExpiry (.abort c)) s = .next t.settle
      let told (kind : EventKind) (n : Nat) : EventRecord :=
        s.event kind (zone := ch.zone) (channel := some c) (reason := some n)
      (ch.state = .held → h ≠ .empty →
        let v := u.setChannel c { ch with abortLine := raw, hold := h, abortSeen := ch.abortSeen || h.abort }
        (h = ch.hold → settled v) ∧ (h ≠ ch.hold → settled (v.tells (told .holdChanged h.bits))))
      ∧ (ch.state = .releasing ∨ (ch.state = .discharged ∧ ch.soakComplete = false) →
        settled (((h.joined ch.hold).map (told .holdAfterRelease)).foldl State.tells
          (u.setChannel c { ch with abortLine := raw, hold := h })))
      ∧ (ch.state.onlyRecords ∨ (ch.state = .discharged ∧ ch.soakComplete = true) →
        settled (u.setChannel c { ch with abortLine := raw, hold := h })))
  ∧ (∀ (s : State) (seq : BitVec 4) (n : Byte) (z : ZoneId) (m : Nat), s.takesCommands → z ≠ 0 →
      (s.lone z).state = .overdue → (s.lone z).condition = some m →
      let l := s.lone z
      let seconds : Nat := s.checkInInterval z m * 60
      let running : Lone :=
        { l with
          state := .running, interval := seconds, intervalTimer := some (s.csu.ticks + seconds), graceTimer := none
          repeatTimer := none, prompts := 0 }
      (∀ a r b, s.sau.alarms = a ++ r :: b → r.number = n.toNat → (∀ y ∈ a, y.number ≠ n.toNat) → r.acked ≠ none →
        ∃ t : State, exec (.alarmClear seq n) s = .next t.settle ∧ t.sau.alarms = a ++ b
          ∧ t.lone z = (if r.identity = .overdue m then running else l)
          ∧ ∀ y, (s.lone y).condition ≠ some m → r.identity = .overdue m → t.lone y = s.lone y)
      ∧ (n.toNat = z.val → s.alarmOverflow z = true →
        ∃ t : State, exec (.alarmClearZone seq n) s = .next t.settle ∧ t.sau.alarms = s.sau.alarms
          ∧ t.lone z = (if ∃ r ∈ s.sau.alarms, r.identity = .overdue m then l else running)
          ∧ ∀ y, y ≠ z → t.lone y = s.lone y))

/-- R184 to R187: a raise request. An alarm already in the table is repeated; else a record with the next free number joins a
table that has room, or takes the place of the oldest ACKNOWLEDGED record; else the zone's alarm-overflow flag is set. Where a
change of the hold causes of the zones concerned is only recorded, the events are STAFF_ALARM_REPEAT, STAFF_ALARM_RAISED,
STAFF_ALARM_CLEARED DISPLACED and then RAISED, or RAISED with number 0 and ALARM_TABLE_FULL. No door or roster changes. -/
def Obligations.RaiseRequestResult : Prop :=
  ∀ (s : State) (i : AlarmIdentity) (z : ZoneId) (door : Option DoorId), s.alarmsSound →
    let t := s.raiseAlarm i z door
    let added (l : List AlarmRecord) (n : Nat) : Prop :=
      t.sau.alarms = l ++ [{ number := n, identity := i, zone := z, door, raised := s.stamp, acked := none }]
        ∧ 1 ≤ n ∧ n ≤ 255 ∧ (∀ r ∈ l, r.number ≠ n) ∧ t.sau.nextNumber = n % 255 + 1
        ∧ (∀ m, m < (n + 255 - s.sau.nextNumber) % 255 → ∃ r ∈ l, r.number = (s.sau.nextNumber + m - 1) % 255 + 1)
    let told (kind : EventKind) (n : Nat) : EventRecord :=
      s.event kind (door := door) (zone := some z)
        (subject := match i with
          | .duress m | .overdue m => some (.credential m)
          | .personal m | .manDown m => some (.pendant m)
          | .button _ => none)
        (reason := some ((match i with
          | .duress _ => 1 | .personal _ => 2 | .manDown _ => 3 | .button _ => 4 | .overdue _ => 5) * 256 + n % 256))
    let calm (y : ZoneId) : Prop := ∀ c, s.channelOf y = some c → (s.channel c).state.onlyRecords
    t.dc = s.dc ∧ t.ru = s.ru ∧ s.keepsFront t
    ∧ (∀ r ∈ s.sau.alarms, r.identity = i → t = s.tells (told .staffAlarmRepeat r.number))
    ∧ ((∀ r ∈ s.sau.alarms, r.identity ≠ i) →
      (s.sau.alarms.length < 16 → t.sau.overflow = s.sau.overflow ∧ ∃ n, added s.sau.alarms n
        ∧ (calm z → t.rm = s.rm ∧ t.sp = s.sp.enqueue (told .staffAlarmRaised n)))
      ∧ (∀ l x r, s.sau.alarms.length = 16 → s.sau.alarms = l ++ x :: r → x.acked ≠ none → (∀ y ∈ l, y.acked = none) →
        t.sau.overflow = s.sau.overflow ∧ ∃ n, added (l ++ r) n
          ∧ (calm z → calm x.zone → t.rm = s.rm
            ∧ t.sp = (s.sp.enqueue (s.event .staffAlarmCleared (reason := some (0x0100 + x.number % 256)))).enqueue
                (told .staffAlarmRaised n)))
      ∧ (s.sau.alarms.length = 16 → (∀ y ∈ s.sau.alarms, y.acked = none) →
        t.sau.alarms = s.sau.alarms ∧ t.sau.overflow = s.sau.overflow.set z true z.isLt
          ∧ (calm z → t.rm = s.rm
            ∧ t.sp = (s.sp.enqueue (told .staffAlarmRaised 0)).enqueue (s.event .alarmTableFull (zone := some z)))))

/-- ALARM_ACK, ALARM_CLEAR, ALARM_CLEAR_ZONE (R188, R189): the refusals, the record acknowledged or removed, the flag cleared, and
each one's reply. -/
def Obligations.AlarmCommandsResult : Prop :=
  ∀ (s : State) (seq : BitVec 4) (n : Byte), s.takesCommands →
    let answers (c : Instr) (payload : List Byte) : Prop := exec c s = .next (s.addReply seq (.ready payload)).settle
    ((∀ r ∈ s.sau.alarms, r.number ≠ n.toNat) →
      answers (.alarmAck seq n) [0x30, 0x06] ∧ answers (.alarmClear seq n) [0x31, 0x06])
    ∧ (∀ l r k, s.sau.alarms = l ++ r :: k → r.number = n.toNat → (∀ x ∈ l, x.number ≠ n.toNat) →
      (r.acked ≠ none → answers (.alarmAck seq n) [0x30, 0x00])
      ∧ (r.acked = none →
        answers (.alarmClear seq n) [0x31, 0x0A]
        ∧ exec (.alarmAck seq n) s =
          .next (((s.setAlarms (l ++ { r with acked := some s.stamp } :: k)).tells
            (s.event .staffAlarmAcked (reason := some (r.identity.reason r.number)))).addReply seq
              (.ready [0x30, 0x00])).settle)
      ∧ (r.acked ≠ none →
        ∃ t : State, exec (.alarmClear seq n) s = .next t.settle ∧ t.sau.alarms = l ++ k
          ∧ t.sau.overflow = s.sau.overflow ∧ t.sp.replies = s.sp.replies ++ [readyReply seq [0x31, 0x00]]
          ∧ t.dc = s.dc ∧ t.ru = s.ru ∧ s.keepsFront t
          ∧ ((∀ m, r.identity ≠ .overdue m) → s.channelOf r.zone = none →
            t.rm = s.rm ∧ t.sp.events =
              (s.sp.enqueue (s.event .staffAlarmCleared (reason := some (0x0200 + r.number % 256)))).events)))
    ∧ (12 ≤ n.toNat → answers (.alarmClearZone seq n) [0x32, 0x04])
    ∧ (∀ z : ZoneId, n.toNat = z.val →
      (s.alarmOverflow z = false → answers (.alarmClearZone seq n) [0x32, 0x00])
      ∧ (s.alarmOverflow z = true →
        ∃ t : State, exec (.alarmClearZone seq n) s = .next t.settle
          ∧ t.sau.overflow = s.sau.overflow.set z false z.isLt ∧ t.sau.alarms = s.sau.alarms
          ∧ t.sp.replies = s.sp.replies ++ [readyReply seq [0x32, 0x00]]
          ∧ t.dc = s.dc ∧ t.ru = s.ru ∧ s.keepsFront t
          ∧ (s.channelOf z = none → (s.lone z).state ≠ .overdue →
            t.rm = s.rm ∧ t.sp.events = (s.sp.enqueue (s.event .alarmOverflowCleared (zone := some z))).events)))

/-- INTERVAL_TIMER_EXPIRY, PROMPT_REPEAT, GRACE_TIMER_EXPIRY (R193, R195), each when it is due (log 2): the prompts with their
numbers, and the OVERDUE alarm. The zone's SOUNDERs are sent PROMPT, and OFF at its end, but only while the channel's pattern, as
SAU knows it, is OFF. R192: a check-in restarts a RUNNING interval and ends a prompt with LONE_WORKER_CHECKED_IN; IDLE and OVERDUE
ignore it. R190: the end of the lone condition ends the prompt. R195: a pattern that returns to OFF sends the prompt again. The
SOUNDERs of a tone are taken in ascending address order, and the frames of a prompt come before its event (DESIGN CHOICE, log 15).
That the interval and the prompt count are 0 in the timer that has become IDLE, and the prompt count 0 in one that a check-in has
set RUNNING, is the model's (DESIGN CHOICE, log 35). -/
def Obligations.LoneTimersResult : Prop :=
  (∀ (s : State) (z : ZoneId) (n : Nat), n ≤ s.csu.ticks →
      let l := s.lone z
      let prompt (k : Nat) : EventRecord :=
        s.event .loneWorkerPrompt (zone := some z) (subject := l.condition.map Subject.credential) (reason := some k)
      (l.state = .running → l.intervalTimer = some n →
        exec (.intervalTimerExpiry z) s =
          .next (((s.setLone z
            { l with
              state := .prompt, intervalTimer := none, graceTimer := some (s.csu.ticks + (s.zone z).grace), prompts := 1
              repeatTimer := if 30 < (s.zone z).grace then some (s.csu.ticks + 30) else none }).zoneToned z .prompt).tells
                (prompt 1)).settle)
      ∧ (∀ g, l.state = .prompt → l.repeatTimer = some n → l.graceTimer = some g →
        exec (.promptRepeat z) s =
          .next (((s.setLone z
            { l with prompts := l.prompts + 1, repeatTimer := if n + 30 < g then some (n + 30) else none }).zoneToned z
              .prompt).tells (prompt (l.prompts + 1))).settle)
      ∧ (l.state = .prompt → l.graceTimer = some n →
        let u := s.setLone z { l with state := .overdue, graceTimer := none, repeatTimer := none }
        exec (.graceTimerExpiry z) s =
          .next ((match l.condition with | some m => u.raiseAlarm (.overdue m) z none | none => u).zoneToned z .off).settle))
  ∧ (∀ (s : State) (z : ZoneId),
      let l := s.lone z
      (l.state = .idle ∨ l.state = .overdue → s.checkIn z = s)
      ∧ (l.state = .running → s.checkIn z = s.setLone z { l with intervalTimer := some (s.csu.ticks + l.interval) })
      ∧ (∀ n, l.state = .prompt → l.condition = some n →
        let seconds := s.checkInInterval z n * 60
        s.checkIn z =
          ((s.setLone z
            { l with
              state := .running, interval := seconds, intervalTimer := some (s.csu.ticks + seconds), graceTimer := none
              repeatTimer := none, prompts := 0 }).zoneToned z .off).tells
            (s.event .loneWorkerCheckedIn (zone := some z) (subject := some (.credential n))))
      ∧ (l.state = .prompt → l.condition ≠ none →
        s.loneAfterHours z false =
          (s.setLone z
            { l with
              afterHours := false, state := .idle, interval := 0, intervalTimer := none, graceTimer := none
              repeatTimer := none, prompts := 0 }).zoneToned z .off)
      ∧ (l.state = .prompt →
        s.toneNotice z .off =
          ({ s with sau := { s.sau with tones := s.sau.tones.set z .off z.isLt } } : State).toned
            (allDevices63.filter (fun d => (s.device d).role == .sounderZone z)) .prompt))

/-- R46: at every step each after-hours flag keeps telling whether the zone's staffed schedule covers. R190, law 12: SAU's copies
of the rosters and the after-hours flags stay current at every step, and a lone-worker timer is out of IDLE only while the zone's
roster holds exactly one entry and the zone is after hours. -/
def Obligations.AfterHoursAndLoneStayCurrent : Prop :=
  (∀ s t : State, s.afterHoursCurrent → step s = .next t → t.afterHoursCurrent)
  ∧ (∀ s t : State, s.loneCopiesCurrent → s.loneOnlyAlone → step s = .next t →
      t.loneCopiesCurrent ∧ t.loneOnlyAlone
        ∧ ∀ z : ZoneId, z ≠ 0 → (t.lone z).state ≠ .idle → (t.roster z).length = 1 ∧ t.afterHours z = true)

/-! ## The station port (chapter 10) -/

/-- R198, R199, Table 11-1: a station receiver that holds nothing takes a frame from the wire after any bytes other than SYNC, and
SP takes it by its addresses. R201: a COMMAND with an empty payload, with a code of no command, or with another length than Table
11-4 gives its code is answered BAD_VALUE and does nothing else; the length of a TABLE WRITE is R205's. Of several frames in one
row SP takes the first, one more waits for SP, and a third that is completed while one waits is discarded; that SP takes none
before the row's last byte is the model's (DESIGN CHOICE, log 6). A frame whose CRC differs, a LEN over 40 and a gap leave no
trace but the bytes the receiver then holds; that STATION_LEN_OVER_40 acts when at most a SYNC is held is DEDUCED (log 26). A byte
that is not SYNC is discarded between frames. -/
def Obligations.StationReceiverTakesFrame : Prop :=
  (∀ (s : State) (junk : List Byte) (f : Frame), s.sp.rx = [] → s.intakeEmpty → (∀ b ∈ junk, b ≠ 0xD5) →
      f.payload.length ≤ 40 →
      (f.src ≠ 0x40 ∨ (f.dst = 0 ∧ f.kind ≠ 0x20) ∨ (63 < f.dst.toNat ∧ f.dst ≠ 0x7F) →
        exec (.stationFrameReceived (junk ++ f.wire)) s = .next s.settle)
      ∧ (f.src = 0x40 → (1 ≤ f.dst.toNat ∧ f.dst.toNat ≤ 63) ∨ f.dst = 0x7F →
        exec (.stationFrameReceived (junk ++ f.wire)) s =
          exec (.loopBoundStationFrame (f.seqByte.setWidth 4) f.dst f.kind f.payload) s)
      ∧ (f.src = 0x40 → f.dst = 0 → f.kind = 0x20 → s.takesCommands →
        let answers (code : Byte) : Prop :=
          exec (.stationFrameReceived (junk ++ f.wire)) s =
            .next (s.addReply (f.seqByte.setWidth 4) (.ready [code, 0x05])).settle
        let commands : List (Byte × Nat) :=
          [(0x01, 3), (0x02, 2), (0x10, 16), (0x11, 4), (0x12, 4), (0x18, 3), (0x19, 3), (0x1A, 7), (0x20, 2), (0x21, 2),
            (0x22, 2), (0x28, 2), (0x29, 2), (0x2A, 2), (0x30, 2), (0x31, 2), (0x32, 2), (0x38, 2), (0x39, 2), (0x3E, 1),
            (0x3F, 1)]
        (f.payload = [] → answers 0x00)
        ∧ (∀ (code : Byte) (l : List Byte), f.payload = code :: l → code ≠ 0x03 →
            (∀ e ∈ commands, e.1 = code → e.2 ≠ f.payload.length) → answers code)))
  ∧ (∀ s : State,
      (∀ b : Byte, s.intakeEmpty →
        exec (.stationFrameGap b) s = .next { s with sp := { s.sp with rx := if b = 0xD5 then [b] else [] } }.settle)
      ∧ (∀ len : Byte, 40 < len.toNat → s.sp.rx.length ≤ 1 →
        exec (.stationLenOver40 len) s = .next { s with sp := { s.sp with rx := [] } }.settle)
      ∧ (∀ (dst src kind seqByte c1 c2 : Byte) (payload : List Byte), s.sp.rx = [] → s.intakeEmpty → payload.length ≤ 40 →
          c1.toNat * 256 + c2.toNat ≠
            (crc16 (BitVec.ofNat 8 payload.length :: dst :: src :: kind :: seqByte :: payload)).toNat →
        exec (.stationFrameReceived
            (0xD5 :: BitVec.ofNat 8 payload.length :: dst :: src :: kind :: seqByte :: payload ++ [c1, c2])) s =
          .next s.settle)
      ∧ (∀ l : List Byte, s.sp.rx = [] → s.intakeEmpty → (∀ b ∈ l, b ≠ 0xD5) →
        exec (.stationFrameReceived l) s = .next s.settle)
      ∧ (∀ f g h : Frame, s.sp.rx = [] → s.intakeEmpty → f.payload.length ≤ 40 → g.payload.length ≤ 40 →
          h.payload.length ≤ 40 →
        exec (.stationFrameReceived (f.wire ++ g.wire)) s = .next ((s.stationFrameTaken f).stationFrameTaken g).settle
          ∧ exec (.stationFrameReceived (f.wire ++ g.wire ++ h.wire)) s = exec (.stationFrameReceived (f.wire ++ g.wire)) s))

/-- R201, Table 11-4: a command row is the COMMAND frame of its code and parameters: receiving that frame does what the row does,
which is the model's reading of the row (DESIGN CHOICE, log 5). R200, R207, R211: a command that finds four places taken is lost
and sets the overflow flag; while a RESTART waits every command but STATUS is answered BUSY. -/
def Obligations.CommandRowIsItsFrame : Prop :=
  (∀ (c : Instr) (seq : BitVec 4) (code : Byte) (s : State), commandOf c = some (seq, code) → c.wellFormed = true →
      s.sp.rx = [] → s.intakeEmpty →
      exec (.stationFrameReceived
          (Frame.wire { dst := 0, src := 0x40, kind := 0x20, seqByte := seq.setWidth 8, payload := commandPayload c })) s =
        exec c s)
  ∧ (∀ (c : Instr) (seq : BitVec 4) (code : Byte) (s : State), commandOf c = some (seq, code) →
      (4 ≤ s.sp.replies.length → exec c s = .next { s with sp := { s.sp with overflow := true } }.settle)
      ∧ (s.sp.replies.length < 4 → s.sp.restartWaiting = true → code ≠ 0x3E →
        exec c s = .next (s.addReply seq (.ready [code, 0x02])).settle))

/-- TABLE_POINT (R203): the cursor moves to an entry of a table, or stays. STATUS (R210, 11.3): the twenty bytes, and the overflow
flag cleared; it is answered while a RESTART waits too (R211). The order of the fault flags is that of Table 8-4 (log 9).
TABLE_READ (R204, Table 11-6): the count is tested; the entries from the cursor on are returned, as many as the count, the end of
the table and the room of a reply allow, and the cursor advances by them. A reply holds floor(35 / read size) entries and never
more than 4, and every entry inside its table is read as the bytes of Table 11-6: the codes of an enumeration are its places in
its list (DEDUCED, log 10), a field that the entry does not name is 0 (DEDUCED, log 33), and the presence byte of an ALARM entry
is a free value (log 8). That a LEVEL line's qualifier reads 1 when ACTIVE and 0 when INACTIVE is the model's (DESIGN CHOICE, log
48). -/
def Obligations.PointReadAndStatusResult : Prop :=
  (∀ (s : State) (seq : BitVec 4) (table index : Byte), s.takesCommands →
      let answers (code : Byte) (u : State) : Prop :=
        exec (.tablePoint seq table index) s = .next (u.addReply seq (.ready [0x01, code])).settle
      (table = 0 ∨ 9 < table.toNat → answers 0x03 s)
      ∧ ∀ (t : TableId) (n : Nat),
          (table, t, n) ∈ [((1 : Byte), TableId.device, 63), (2, .door, 16), (3, .zone, 12), (4, .channel, 6),
            (5, .schedule, 32), (6, .line, 8), (7, .holiday, 32), (8, .roster, 240), (9, .alarm, 16)] →
          (n ≤ index.toNat → answers 0x04 s)
          ∧ (index.toNat < n → answers 0x00 { s with sp := { s.sp with cursorTable := t, cursorIndex := index.toNat } }))
  ∧ (∀ (s : State) (seq : BitVec 4), s.sp.replies.length < 4 →
      ∃ head : List Byte, exec (.status seq) s =
          .next ({ s with sp := { s.sp with overflow := false } }.addReply seq (.ready (([0x3E, 0x00] : List Byte) ++ head
            ++ allChannels.map (fun c : ChannelId => BitVec.ofNat 8 (match (s.channel c).state with
              | .unused => 0 | .normal => 1 | .firstAlarm => 2 | .preDischarge => 3 | .held => 4 | .releasing => 5
              | .discharged => 6 | .lockedOut => 7))
            ++ allChannels.map (fun c : ChannelId => BitVec.ofNat 8
              ((if (s.channel c).flags.detectorMissing = true then 1 else 0)
                + (if (s.channel c).flags.abortMissing = true then 2 else 0)
                + (if (s.channel c).flags.confirmFailed = true then 4 else 0)
                + (if (s.channel c).flags.driveFault = true then 8 else 0)))))).settle
        ∧ head =
          [match s.rm.ring with | .closed => 0 | .split => 1 | .dead => 2,
            match s.csu.clock with | .unset => 0 | .set => 1,
            match s.csu.timebase with | .normal => 0 | .degraded => 1,
            match s.sp.cause with | .powerOn => 0 | .restartCommand => 1,
            if s.sp.overflow = true then 1 else 0, BitVec.ofNat 8 s.sp.events.length, BitVec.ofNat 8 s.poolCount,
            BitVec.ofNat 8 s.sau.alarms.length])
  ∧ ((∀ (s : State) (seq : BitVec 4) (count : Byte), s.takesCommands →
        let t := s.sp.cursorTable
        let i := s.sp.cursorIndex
        let n : Nat := min (min count.toNat (t.entries - i)) t.perReply
        (count = 0 ∨ 4 < count.toNat → exec (.tableRead seq count) s = .next (s.addReply seq (.ready [0x02, 0x05])).settle)
        ∧ (1 ≤ count.toNat → count.toNat ≤ 4 → ∀ code : Byte,
            (code = 0x04 ∧ t.entries - i < count.toNat ∧ t.entries - i ≤ t.perReply)
              ∨ (code = 0x00 ∧ (count.toNat ≤ t.entries - i ∨ t.perReply < t.entries - i)) →
          exec (.tableRead seq count) s =
            .next ({ s with sp := { s.sp with cursorIndex := i + n } }.addReply seq
              (.ready ([0x02, code, BitVec.ofNat 8 t.code, BitVec.ofNat 8 i, BitVec.ofNat 8 n]
                ++ (List.range n).flatMap (fun k => s.entryBytes t (i + k))))).settle))
    ∧ (∀ (s : State) (t : TableId) (size : Nat),
        (t, size) ∈ [(TableId.device, 12), (.door, 34), (.zone, 9), (.channel, 21), (.schedule, 21), (.line, 3), (.holiday, 3),
          (.roster, 10), (.alarm, 24)] →
        t.perReply = min 4 (35 / size) ∧ ∀ i, i < t.entries → (s.entryBytes t i).length = size)
    ∧ (∀ s : State,
        (∀ d : DevIx, s.entryBytes .device d.val = s.deviceEntry d)
        ∧ (∀ (k : DoorId) (n : Nat), (doorStates (s.door k).entry.kind)[n]? = some (s.door k).state →
            s.entryBytes .door k.val = s.doorEntry k n)
        ∧ (∀ z : ZoneId, s.entryBytes .zone z.val = s.zoneEntry z)
        ∧ (∀ c : ChannelId, s.entryBytes .channel c.val = s.channelEntry c)
        ∧ (∀ n : SchedId, s.entryBytes .schedule n.val = s.scheduleEntry n)
        ∧ (∀ g : GiId, s.entryBytes .line g.val = s.lineEntry g)
        ∧ (∀ i, s.entryBytes .holiday i = match s.csu.holidays[i]? with | some d => 1 :: bytes2 d | none => [0, 0, 0])
        ∧ (∀ i, s.entryBytes .roster i =
            match (allZones.flatMap (fun z => if z = 0 then [] else (s.roster z).map (rosterEntry z)))[i]? with
            | some l => l
            | none => [0, 0, 0, 0, 0, 0, 0, 0, 0, 0])
        ∧ (∀ i,
            (∀ r, s.sau.alarms[i]? = some r → ∃ presence, s.entryBytes .alarm i = alarmEntry r presence)
            ∧ (s.sau.alarms[i]? = none → ∀ b ∈ s.entryBytes .alarm i, b = 0))))

/-- TABLE_WRITE (R205): what is written, and the codes. A read-only table, a payload that is no whole number of entries and a
cursor at the end change nothing; that a read-only table answers before the length is looked at is DEDUCED (log 18). The entries
of a write are handed to the owner in order, each on what the earlier ones left, until the table's end. A ZONE entry (R140), a
SCHEDULE entry (R36, R37) and a LINE entry (R183) of one write are stored with their numbers clamped, or refused. -/
def Obligations.TableWriteResult : Prop :=
  ∀ (s : State) (seq : BitVec 4) (l : List Byte), s.takesCommands →
    let t := s.sp.cursorTable
    let i := s.sp.cursorIndex
    let answers (u : State) (payload : List Byte) : Prop :=
      exec (.tableWrite seq l) s = .next (u.addReply seq (.ready payload)).settle
    let moved (u : State) : State := { u with sp := { u.sp with cursorIndex := i + 1 } }
    (t = .holiday ∨ t = .roster ∨ t = .alarm → answers s [0x03, 0x03])
    ∧ (∀ size, (t, size) ∈ [(TableId.device, 4), (.door, 17), (.zone, 6), (.channel, 8), (.schedule, 20), (.line, 2)] →
      (l = [] ∨ l.length % size ≠ 0 → answers s [0x03, 0x05])
      ∧ (l ≠ [] → l.length % size = 0 → t.entries ≤ i → answers s [0x03, 0x04])
      ∧ (l ≠ [] → l.length % size = 0 → i < t.entries →
        let n : Nat := min (l.length / size) (t.entries - i)
        ∃ (u : Nat → State) (code : Nat → ReplyCode), u 0 = s
          ∧ (∀ k, k < n →
              let w := (u k).writeEntry t (i + k) ((l.drop (size * k)).take size)
              u (k + 1) = { w.1 with sp := { w.1.sp with cursorTable := t, cursorIndex := i + k + 1 } } ∧ code k = w.2)
          ∧ ∀ overall : ReplyCode,
              (n < l.length / size ∧ overall = .badIndex)
                ∨ (n = l.length / size ∧ (∀ k, k < n → code k = .accept) ∧ overall = .accept)
                ∨ (n = l.length / size ∧ ∃ j, j < n ∧ code j ≠ .accept ∧ (∀ k, k < j → code k = .accept) ∧ overall = code j) →
            answers (u n) (0x03 :: BitVec.ofNat 8 overall.code
              :: (List.range n).map (fun k => BitVec.ofNat 8 (code k).code))))
    ∧ (t = .zone → l.length = 6 →
      (i = 0 → answers (moved s) [0x03, 0x04, 0x04])
      ∧ ∀ z : ZoneId, z ≠ 0 → i = z.val →
        (31 < (byteAt l 1).toNat → answers (moved s) [0x03, 0x05, 0x05])
        ∧ ((byteAt l 1).toNat = (s.zone z).staffed.val → ∀ limit checkIn grace : Nat, ∀ code : Byte,
            limit = max 1 (min 64 (byteAt l 0).toNat) → checkIn = max 5 (min 120 (byteAt l 2).toNat) →
            grace = max 30 (min 600 (field l 3 2)) →
            code = (if limit = (byteAt l 0).toNat ∧ checkIn = (byteAt l 2).toNat ∧ grace = field l 3 2 then 0x00 else 0x01) →
          answers (moved (s.setZone z { limit, staffed := (s.zone z).staffed, checkIn, grace })) [0x03, code, code]))
    ∧ (t = .schedule → l.length = 20 → i = 0 → answers (moved s) [0x03, 0x04, 0x04])
    ∧ (t = .schedule → l.length = 20 → ∀ n : SchedId, n ≠ 0 → i = n.val →
      ∃ (u : State) (code : Byte), answers u [0x03, code, code] ∧ u.sp.cursorIndex = i + 1 ∧ (code = 0x00 ∨ code = 0x01)
        ∧ (∀ k : Fin 4, (u.csu.schedules.get n).get k =
            (let mask := byteAt l (5 * k.val)
            let a := field l (5 * k.val + 1) 2
            let len := field l (5 * k.val + 3) 2
            if mask = 0 then none else some { mask, start := min a 1439, length := max 1 (min 1440 len) }))
        ∧ (∀ m, m ≠ n → u.csu.schedules.get m = s.csu.schedules.get m)
        ∧ (∀ z, u.afterHours z = !u.csu.covers (s.zone z).staffed)
        ∧ (code = 0x00 ↔ ∀ k : Fin 4, byteAt l (5 * k.val) = 0
            ∨ (field l (5 * k.val + 1) 2 ≤ 1439 ∧ 1 ≤ field l (5 * k.val + 3) 2 ∧ field l (5 * k.val + 3) 2 ≤ 1440))
        ∧ u.fc = s.fc ∧ u.dc = s.dc ∧ u.ru = s.ru ∧ u.sc = s.sc ∧ u.csc = s.csc ∧ u.pe = s.pe)
    ∧ (t = .line → l.length = 2 → ∀ g : GiId, i = g.val → s.lineFunction g = .unused →
      (3 < (byteAt l 0).toNat ∨ ((byteAt l 0 = 1 ∨ byteAt l 0 = 2) ∧ 11 < (byteAt l 1).toNat)
          ∨ (byteAt l 0 = 2 ∧ byteAt l 1 = 0) ∨ (byteAt l 0 = 3 ∧ 5 < (byteAt l 1).toNat) →
        answers (moved s) [0x03, 0x05, 0x05])
      ∧ (∀ z : ZoneId, byteAt l 0 = 1 → (byteAt l 1).toNat = z.val → ∀ q : PulseState,
          q = (if (s.line (.general g)).raw = true then .spent else .ready) →
        answers (moved ((s.setLineFunction g (.staffButton z)).setLine (.general g)
          { raw := (s.line (.general g)).raw, qualifier := .pulse q none })) [0x03, 0x00, 0x00])
      ∧ (∀ c : ChannelId, byteAt l 0 = 3 → (byteAt l 1).toNat = c.val → ∀ raw : Bool, raw = (s.line (.general g)).raw →
        answers (moved ((s.setLineFunction g (.lockoutKey c)).setLine (.general g)
          { raw, qualifier := .level false raw })) [0x03, 0x00, 0x00]))

/-- TABLE_WRITE of one DEVICE entry (R5, R25, R76, R158, R159, R163) and of one DOOR entry (R96, R117, R135), no channel being
bound to a zone for the latter's frames: the order of the checks, the clamping, and what an accepted entry makes of the device
with SC's and PE's records of it, or of the door with its frames. Kinds and modes are coded in the order of Tables 1-1 and 5-1
(11.5). That a binding byte which the kind does not use may have any value, and is not kept, is the model's (DESIGN CHOICE, log
43); that the door's bolt report is kept, that kind NONE is clamped too, and that a STRONGROOM with a MISSING unit stands in FAULT
with its settle timer and no drive, is DEDUCED (log 23). -/
def Obligations.DeviceAndDoorWritesResult : Prop :=
  ∀ (s : State) (seq : BitVec 4) (l : List Byte), s.takesCommands →
    let i := s.sp.cursorIndex
    let answers (u : State) (code : Byte) : Prop :=
      exec (.tableWrite seq l) s =
        .next ({ u with sp := { u.sp with cursorIndex := i + 1 } }.addReply seq (.ready [0x03, code, code])).settle
    (∀ d : DevIx, s.sp.cursorTable = .device → i = d.val → l.length = 4 →
      let x := s.device d
      let clash (r : DevRole) : Prop :=
        (∃ e, e ≠ d ∧ (s.device e).role = r ∧ ((∃ k, r = .doorUnit k) ∨ ∃ k side, r = .reader k side))
          ∨ ∃ k, (s.door k).entry.kind ≠ .noDoor
            ∧ (((s.door k).entry.entryReader = some d ∧ r ≠ .reader k .entry)
              ∨ ((s.door k).entry.exitReader = some d ∧ r ≠ .reader k .exit)
              ∨ ((s.door k).entry.unit = some d ∧ r ≠ .doorUnit k))
      let busy (r : DevRole) : Prop :=
        (∃ k, (r = .doorUnit k ∨ ∃ side, r = .reader k side)
            ∧ ¬ ((s.door k).slot = none
              ∧ ((s.door k).state = .locked ∨ (s.door k).state = .secured ∨ (s.door k).state = .fault)))
          ∨ ∃ c, ((∃ g, r = .detector c g) ∨ r = .abortStation c ∨ r = .releaseStation c ∨ r = .sounderChannel c)
            ∧ ¬ ((s.channel c).state = .unused ∨ (s.channel c).state = .normal ∨ (s.channel c).state = .lockedOut)
      ((∀ r, ¬ writesRole l r) → answers s 0x05)
      ∧ ∀ r, writesRole l r →
        (clash r → answers s 0x05)
        ∧ (¬ clash r → busy x.role ∨ busy r → answers s 0x0A)
        ∧ (¬ clash r → ¬ busy x.role → ¬ busy r →
          let v := s.setDevice d
            { x with
              role := r, report := (byteAt l 3).getLsbD 0, supervised := (byteAt l 3).getLsbD 1, presence := .unseen
              watchStart := s.uptime, since := s.csu.ticks, foreign := false, health := 0 }
          ∃ u : State, answers u 0x00 ∧ u.fc = v.fc
            ∧ (∀ e, u.scDev e =
                if e = d then { level := none, latch := false, abortHeld := false, release := none } else s.scDev e)
            ∧ (∀ c, (∃ hold flags, u.channel c = { s.channel c with hold, flags })
              ∧ (((∃ g, x.role = .detector c g) ∨ x.role = .abortStation c ∨ (∃ g, r = .detector c g) ∨ r = .abortStation c) →
                v.missingFlags c (u.channel c).flags)
              ∧ ((∀ g, x.role ≠ .detector c g) → x.role ≠ .abortStation c → (∀ g, r ≠ .detector c g) → r ≠ .abortStation c →
                u.channel c = s.channel c)
              ∧ (x.role = .abortStation c ∨ r = .abortStation c → (u.channel c).hold = u.holdCauses c))
            ∧ u.pe.waiting = s.pe.waiting.filter (fun p => p.reader != d)
            ∧ ((∀ p ∈ s.pe.waiting, p.reader ≠ d) → u.csc = s.csc)
            ∧ ((∃ p ∈ s.pe.waiting, p.reader = d) → ∀ q ∈ u.csc.queue, ∀ w ∈ q.waiters, w.requester ≠ .reader d)
            ∧ u.pending = s.pending ∧ u.rm = s.rm ∧ u.csu = s.csu ∧ u.dc = s.dc ∧ u.ru = s.ru ∧ u.sau = s.sau ∧ u.sp = s.sp))
    ∧ (∀ k : DoorId, s.sp.cursorTable = .door → i = k.val → l.length = 17 →
      let x := s.door k
      let b (n : Nat) : Nat := (byteAt l n).toNat
      let given (n : Nat) : Nat := b n * 256 + b (n + 1)
      let within (low high n : Nat) : Nat := max low (min high n)
      let inRange : Bool :=
        within 3 60 (b 7) == b 7 && within 10 600 (given 8) == given 8 && within 5 120 (b 12) == b 12
          && within 60 3600 (given 13) == given 13 && within 30 900 (given 15) == given 15
      let code : Byte := if inRange = true then 0x00 else 0x01
      let enumerated : Prop := b 0 ≤ 2 ∧ b 10 ≤ 2 ∧ b 11 ≤ 2
      let names (n : Nat) (r : DevRole) (d : DevIx) : Prop := b n = d.val + 1 ∧ (s.device d).role = r
      let bound (outer inner : ZoneId) (schedule : SchedId) (reader unit : DevIx) (exit : Option DevIx) : Prop :=
        b 1 = outer.val ∧ b 2 = inner.val ∧ outer ≠ inner ∧ b 6 = schedule.val ∧ names 3 (.reader k .entry) reader
          ∧ names 5 (.doorUnit k) unit
          ∧ ((b 4 = 255 ∧ exit = none) ∨ ∃ d, b 4 ≠ 255 ∧ names 4 (.reader k .exit) d ∧ exit = some d)
      let open' : Prop := x.slot = none ∧ (x.state = .locked ∨ x.state = .secured ∨ x.state = .fault)
      let contact (unit : Option DevIx) : Contact :=
        if unit = x.entry.unit ∧ x.entry.kind ≠ .noDoor then x.contact else .unknown
      (¬ enumerated → answers s 0x05)
      ∧ (enumerated → b 0 ≠ 0 → (∀ o n h r u e, ¬ bound o n h r u e) → answers s 0x05)
      ∧ (enumerated → b 0 = 0 ∨ (∃ o n h r u e, bound o n h r u e) → ¬ open' → answers s 0x0A)
      ∧ (enumerated → open' → (∀ z, s.channelOf z = none) →
        (b 0 = 0 →
          answers ((s.setDoor k { Door.powerOn with contact := contact none, bolt := x.bolt }).setDoorView k none) code)
        ∧ ∀ o n h r u e, bound o n h r u e → b 0 ≠ 0 →
          let entry (kind : DoorKind) : DoorEntry :=
            { kind, outer := o, inner := n, entryReader := some r, exitReader := e, unit := some u, schedule := h
              unlockWindow := within 3 60 (b 7), heldLimit := within 10 600 (given 8)
              pinMode := if b 10 = 0 then .never else if b 10 = 1 then .always else .afterHours
              passback := if b 11 = 0 then .noCheck else if b 11 = 1 then .soft else .strict
              pairing := within 5 120 (b 12), timeDelay := within 60 3600 (given 13), confirmWindow := within 30 900 (given 15) }
          let stored (kind : DoorKind) (state : DoorState) (settle : Timer) : State :=
            s.toldDoor k
              { Door.powerOn with entry := entry kind, contact := contact (some u), bolt := x.bolt, state, settle }
          ((s.device u).presence = .missing →
            (b 0 = 1 → answers (stored .plain .fault none) code)
            ∧ (b 0 = 2 → answers (stored .strongroom .fault (some (s.csu.ticks + 5))) code))
          ∧ ((s.device u).presence ≠ .missing →
            (b 0 = 1 → answers ((stored .plain .locked none).drive u .lock) code)
            ∧ (b 0 = 2 → answers ((stored .strongroom .secured (some (s.csu.ticks + 5))).drive u .boltThrow) code))))

/-- TABLE_WRITE of one CHANNEL entry (R156): refused in the order of its checks, or stored and clamped with the hold-cause set
formed again. Abort mode and coincidence are coded in the order of Table 8-1, by 11.5: 'States and other enumerations are coded in
the order their chapters list them.' That coincidence, listed there as 'yes, no', is thereby required at byte 0 and not required
at byte 1 is the model's reading (DEDUCED, log 10). Of one ZONE entry that names another staffed schedule (R140, R46): every
after-hours flag follows. Of one LINE entry (R183): an ACTIVE LOCKOUT KEY is first reported INACTIVE (R175), and the new
function's qualifier starts from the raw level; that UNUSED takes any binding byte is the model's (DESIGN CHOICE, log 42). -/
def Obligations.OtherWritesResult : Prop :=
  ∀ (s : State) (seq : BitVec 4) (l : List Byte), s.takesCommands →
    let i := s.sp.cursorIndex
    let b (n : Nat) : Nat := (byteAt l n).toNat
    let given (n : Nat) : Nat := b n * 256 + b (n + 1)
    let within (low high n : Nat) : Nat := max low (min high n)
    let answers (u : State) (code : Byte) : Prop :=
      exec (.tableWrite seq l) s =
        .next ({ u with sp := { u.sp with cursorIndex := i + 1 } }.addReply seq (.ready [0x03, code, code])).settle
    (∀ c : ChannelId, s.sp.cursorTable = .channel → i = c.val → l.length = 8 →
      let ch := s.channel c
      let quiet : Prop := ch.state = .unused ∨ ch.state = .normal ∨ ch.state = .lockedOut
      let bound (zone : Option ZoneId) : Prop :=
        (b 0 = 255 ∧ zone = none)
          ∨ ∃ z, z ≠ 0 ∧ b 0 = z.val ∧ zone = some z ∧ ∀ e, e ≠ c → (s.channel e).zone ≠ some z
      (¬ quiet → answers s 0x0A)
      ∧ (quiet → 1 < b 2 ∨ 1 < b 3 ∨ (∀ zone, ¬ bound zone) → answers s 0x05)
      ∧ (∀ zone, quiet → b 2 ≤ 1 → b 3 ≤ 1 → bound zone →
        let y : Channel :=
          { ch with
            zone, countdownLength := within 10 120 (b 1), abortMode := if b 2 = 0 then .pause else .restart
            coincidence := decide (b 3 = 0), driveTime := within 5 120 (b 4), confirmTimeout := within 1 30 (b 5)
            soakTime := within 300 7200 (given 6)
            state := if ch.state = .lockedOut then .lockedOut else match zone with | some _ => .normal | none => .unused }
        let u := s.setChannel c y
        answers (u.setChannel c { y with hold := u.holdCauses c })
          (if within 10 120 (b 1) = b 1 ∧ within 5 120 (b 4) = b 4 ∧ within 1 30 (b 5) = b 5
              ∧ within 300 7200 (given 6) = given 6 then 0x00 else 0x01)))
    ∧ (∀ z : ZoneId, s.sp.cursorTable = .zone → z ≠ 0 → i = z.val → l.length = 6 → ∀ n : SchedId, b 1 = n.val →
        n ≠ (s.zone z).staffed →
      ∃ (u : State) (code : Byte), answers u code
        ∧ u.zone z = { limit := within 1 64 (b 0), staffed := n, checkIn := within 5 120 (b 2), grace := within 30 600 (given 3) }
        ∧ (∀ y, y ≠ z → u.zone y = s.zone y)
        ∧ (code = 0x00 ↔ within 1 64 (b 0) = b 0 ∧ within 5 120 (b 2) = b 2 ∧ within 30 600 (given 3) = given 3)
        ∧ (code = 0x00 ∨ code = 0x01)
        ∧ (∀ y, u.afterHours y = !s.csu.covers (u.zone y).staffed) ∧ u.csu = { s.csu with afterHours := u.csu.afterHours }
        ∧ u.ru.rosters = s.ru.rosters ∧ u.ru.status = s.ru.status ∧ u.sau.alarms = s.sau.alarms
        ∧ u.pending = s.pending ∧ u.fc = s.fc ∧ u.csc = s.csc ∧ u.pe = s.pe ∧ u.dc = s.dc ∧ u.sc = s.sc)
    ∧ (∀ g : GiId, s.sp.cursorTable = .line → i = g.val → l.length = 2 →
      let raw : Bool := (s.line (.general g)).raw
      let written (v : State) : Prop :=
        let store (f : LineFunction) (q : Qualifier) : State :=
          (v.setLineFunction g f).setLine (.general g) { raw, qualifier := q }
        (3 < b 0 ∨ ((b 0 = 1 ∨ b 0 = 2) ∧ 11 < b 1) ∨ (b 0 = 2 ∧ b 1 = 0) ∨ (b 0 = 3 ∧ 5 < b 1) → answers s 0x05)
        ∧ (b 0 = 0 → answers (store .unused .unqualified) 0x00)
        ∧ (∀ z : ZoneId, b 0 = 1 → b 1 = z.val →
          answers (store (.staffButton z) (.pulse (if raw = true then .spent else .ready) none)) 0x00)
        ∧ (∀ z : ZoneId, b 0 = 2 → z ≠ 0 → b 1 = z.val → answers (store (.zoneClearKey z) (.level false raw)) 0x00)
        ∧ (∀ c : ChannelId, b 0 = 3 → b 1 = c.val → answers (store (.lockoutKey c) (.level false raw)) 0x00)
      ((∀ c settling, s.lineFunction g = .lockoutKey c → (s.line (.general g)).qualifier ≠ .level true settling) → written s)
      ∧ (∀ c settling, s.lineFunction g = .lockoutKey c → (s.line (.general g)).qualifier = .level true settling →
          written ((s.setKey g none).keyLetGo c)))

/-- RESTART (R211, R26, R27, R47, R70, R94, R115, R136, R154, R179, R197): refused unless every channel is quiet and no alarm
stands; it waits for a credential write; else it takes effect (`State.restarted`): every block takes its RESTART values and keeps
the tables, the rosters, the clock and uptime, and a waiting CRED LOOK is answered BUSY. Every end of the write that it waited for
(`State.endsWrite`) tests the condition again: it then takes effect, or is refused, the write's own reply and event standing. The
model's: a running bucket read goes on as nobody's (DEDUCED, log 21), a sweep in transmission does not become pending (DEDUCED,
log 27), and the order of the blocks, doors and sounders (DESIGN CHOICE, log 28); the watch of the crystal is kept (DEDUCED, log
32), the acceptance times become 0, no sweep waits, a lone-worker timer in IDLE has interval and prompt count 0 and one in RUNNING
prompt count 0 (DESIGN CHOICE, log 35), and the station receiver is kept (DESIGN CHOICE, log 44). -/
def Obligations.RestartResult : Prop :=
  (∀ (s : State) (seq : BitVec 4), s.takesCommands →
      let quiet : Prop := (∀ c, (s.channel c).state = .unused ∨ (s.channel c).state = .normal ∨ (s.channel c).state = .lockedOut)
        ∧ s.sau.alarms = []
      (¬ quiet → exec (.restart seq) s = .next (s.addReply seq (.ready [0x3F, 0x0A])).settle)
      ∧ (quiet → s.csc.write.isSome = true →
        exec (.restart seq) s =
          .next ({ s with sp := { s.sp with restartWaiting := true } }.addReply seq (.reserved .restart 0x3F)).settle)
      ∧ (quiet → s.csc.write = none →
        ∃ t : State, exec (.restart seq) s = .next t.settle
          ∧ s.restarted t
          ∧ t.sp.replies = s.sp.replies.map (fun p => match p.body with
              | .reserved .look c => if s.csc.look.isSome = true then { p with body := .ready [c, 0x02] } else p
              | .reserved .write _ | .reserved .restart _ | .ready _ | .sending _ => p) ++ [readyReply seq [0x3F, 0x00]]))
  ∧ (∀ (s : State) (w : WriteRecord) (i : Instr) (code : Byte) (told : Option EventRecord), s.csc.write = some w →
      s.endsWrite w i code told → s.sp.restartWaiting = true →
      let ended := s.writeOver code
      let u : State := match told with | some r => ended.tells r | none => ended
      let quiet : Prop := (∀ c, (s.channel c).state = .unused ∨ (s.channel c).state = .normal ∨ (s.channel c).state = .lockedOut)
        ∧ s.sau.alarms = []
      (¬ quiet →
        exec i s =
          .next { u with sp := { u.sp with
            restartWaiting := false
            replies := u.sp.replies.map (fun p : ReplyPlace => match p.body with
              | .reserved .restart c => { p with body := .ready [c, 0x0A] }
              | .reserved .write _ | .reserved .look _ | .ready _ | .sending _ => p) } }.settle)
      ∧ (quiet →
        ∃ t : State, exec i s = .next t.settle ∧ u.restarted t
          ∧ t.sp.replies = u.sp.replies.map (fun p => match p.body with
            | .reserved .look c => if s.csc.look.isSome = true then { p with body := .ready [c, 0x02] } else p
            | .reserved .restart c => { p with body := .ready [c, 0x00] }
            | .reserved .write _ | .ready _ | .sending _ => p)))

/-! ## Power-on reset -/

/-- POWER_ON_RESET (R212, R26 to R28, R47, R69, R93, R114, R135, R153, R178, R180, R181, R196): the blocks are those of
`State.reset`, whose values the spec does not state log 35 names (DESIGN CHOICE), but for the pins: a LEVEL line is INACTIVE, its
settle timer started when its raw level is active, and a PULSE line READY, or SPENT when its raw level is active; no general input
is qualified. Without crystal edges the timebase is DEGRADED and says so after POWER_ON. The model's: the raw levels, the readback
levels and the waiting commands stay, and an active readback starts the 50 ms count (log 14), the counter of originated frames
stays (log 7), POWER_ON's stamp has no drift flag (log 39), and the watch of a crystal that does not run is two ticks long
(DEDUCED, log 32). POWER_ON's frame is under way when the command ends (log 13). The state that POWER_ON_RESET answers, and
State.reset, meet every invariant that the statements keep. -/
def Obligations.PowerOnResetResult : Prop :=
  (∀ s : State,
      let level (l : InputLine) : Line := { raw := (s.line l).raw, qualifier := .level false (s.line l).raw }
      let pulse (l : InputLine) : Line :=
        { raw := (s.line l).raw, qualifier := .pulse (if (s.line l).raw = true then .spent else .ready) none }
      let counted (c : ChannelId) : Channel :=
        { State.reset.channel c with
          readback := (s.channel c).readback
          readCount := if (s.channel c).readback = true then .disagreeing else .stopped }
      let t : State :=
        { State.reset with
          pending := s.pending
          rm := { State.reset.rm with loopSeqCount := s.rm.loopSeqCount }
          sc := { State.reset.sc with channels := Vector.ofFn counted }
          sau := { State.reset.sau with
            abortLines := Vector.ofFn (fun c => level (.abort c))
            valveLines := Vector.ofFn (fun c => level (.valveConfirm c))
            manualLines := Vector.ofFn (fun c => pulse (.manualRelease c))
            generalLines := Vector.ofFn (fun g => { raw := (s.line (.general g)).raw, qualifier := .unqualified }) } }
      exec (.powerOnReset true) s = .next t
        ∧ exec (.powerOnReset false) s =
          .next { t with
            csu := { t.csu with timebase := .degraded, crystalWatch := some 2 }
            sp := { t.sp with
              events := t.sp.events
                ++ [{ kind := .timebaseDegraded, stamp := .uptime 0 true, door := none, zone := none, channel := none
                      subject := none, reason := none }] } })
  ∧ (∀ t : State, t = State.reset ∨ (∃ s crystalRuns, exec (.powerOnReset crystalRuns) s = .next t) →
      t.loopAtWork ∧ t.stationAtWork ∧ t.drivesOnlyReleasing ∧ t.holdsCurrent ∧ t.copiesCurrent ∧ t.holdsActed
        ∧ t.loneCopiesCurrent ∧ t.loneOnlyAlone ∧ t.afterHoursCurrent ∧ t.standsOnce ∧ t.poolBounded ∧ t.boltOnlyOpen
        ∧ t.cacheSound ∧ t.fetchesSound ∧ t.eventsBounded ∧ t.alarmsSound ∧ t.waitingSound ∧ t.listsBounded ∧ t.intakeEmpty)
end

