-- ==== Sys2Proof/Laws/State.lean ====
section
/-! SUPPORT. The small lemmas of the state's updates: what each named update of a record leaves of every block, and what it
makes of its own. A table is read back at the index written, and elsewhere as before. -/

namespace Sys2Proof.Machine

variable (s : State)

/-! ## Tables -/

/-- Reading a table back after one entry was written. -/
@[simp] theorem get_set {α : Type} {n : Nat} (v : Vector α n) (i j : Fin n) (x : α) :
    (v.set i.val x i.isLt).get j = if j = i then x else v.get j := by
  simp [Vector.get_eq_getElem, Vector.getElem_set, Fin.ext_iff, eq_comm]

/-- Reading a table that was mapped. -/
@[simp] theorem get_map {α β : Type} {n : Nat} (v : Vector α n) (f : α → β) (j : Fin n) : (v.map f).get j = f (v.get j) := by
  simp [Vector.get_eq_getElem]

/-- Reading a table of equal entries. -/
@[simp] theorem get_replicate {α : Type} {n : Nat} (x : α) (j : Fin n) : (Vector.replicate n x).get j = x := by
  simp [Vector.get_eq_getElem]

/-! ## One entry of a table -/

@[simp] theorem setDevice_pending (d : DevIx) (x : Device) : (s.setDevice d x).pending = s.pending := rfl
@[simp] theorem setDevice_rm (d : DevIx) (x : Device) : (s.setDevice d x).rm = s.rm := rfl
@[simp] theorem setDevice_csu (d : DevIx) (x : Device) : (s.setDevice d x).csu = s.csu := rfl
@[simp] theorem setDevice_csc (d : DevIx) (x : Device) : (s.setDevice d x).csc = s.csc := rfl
@[simp] theorem setDevice_pe (d : DevIx) (x : Device) : (s.setDevice d x).pe = s.pe := rfl
@[simp] theorem setDevice_dc (d : DevIx) (x : Device) : (s.setDevice d x).dc = s.dc := rfl
@[simp] theorem setDevice_ru (d : DevIx) (x : Device) : (s.setDevice d x).ru = s.ru := rfl
@[simp] theorem setDevice_sc (d : DevIx) (x : Device) : (s.setDevice d x).sc = s.sc := rfl
@[simp] theorem setDevice_sau (d : DevIx) (x : Device) : (s.setDevice d x).sau = s.sau := rfl
@[simp] theorem setDevice_sp (d : DevIx) (x : Device) : (s.setDevice d x).sp = s.sp := rfl
@[simp] theorem setDevice_fc_devices (d : DevIx) (x : Device) :
    (s.setDevice d x).fc.devices = s.fc.devices.set d.val x d.isLt := rfl
theorem device_setDevice (d j : DevIx) (x : Device) : (s.setDevice d x).device j = if j = d then x else s.device j := by
  simp [State.device]

@[simp] theorem setDoor_pending (d : DoorId) (x : Door) : (s.setDoor d x).pending = s.pending := rfl
@[simp] theorem setDoor_rm (d : DoorId) (x : Door) : (s.setDoor d x).rm = s.rm := rfl
@[simp] theorem setDoor_fc (d : DoorId) (x : Door) : (s.setDoor d x).fc = s.fc := rfl
@[simp] theorem setDoor_csu (d : DoorId) (x : Door) : (s.setDoor d x).csu = s.csu := rfl
@[simp] theorem setDoor_csc (d : DoorId) (x : Door) : (s.setDoor d x).csc = s.csc := rfl
@[simp] theorem setDoor_pe (d : DoorId) (x : Door) : (s.setDoor d x).pe = s.pe := rfl
@[simp] theorem setDoor_ru (d : DoorId) (x : Door) : (s.setDoor d x).ru = s.ru := rfl
@[simp] theorem setDoor_sc (d : DoorId) (x : Door) : (s.setDoor d x).sc = s.sc := rfl
@[simp] theorem setDoor_sau (d : DoorId) (x : Door) : (s.setDoor d x).sau = s.sau := rfl
@[simp] theorem setDoor_sp (d : DoorId) (x : Door) : (s.setDoor d x).sp = s.sp := rfl
@[simp] theorem setDoor_dc_doors (d : DoorId) (x : Door) :
    (s.setDoor d x).dc.doors = s.dc.doors.set d.val x d.isLt := rfl
theorem door_setDoor (d j : DoorId) (x : Door) : (s.setDoor d x).door j = if j = d then x else s.door j := by
  simp [State.door]

@[simp] theorem setChannel_pending (c : ChannelId) (x : Channel) : (s.setChannel c x).pending = s.pending := rfl
@[simp] theorem setChannel_rm (c : ChannelId) (x : Channel) : (s.setChannel c x).rm = s.rm := rfl
@[simp] theorem setChannel_fc (c : ChannelId) (x : Channel) : (s.setChannel c x).fc = s.fc := rfl
@[simp] theorem setChannel_csu (c : ChannelId) (x : Channel) : (s.setChannel c x).csu = s.csu := rfl
@[simp] theorem setChannel_csc (c : ChannelId) (x : Channel) : (s.setChannel c x).csc = s.csc := rfl
@[simp] theorem setChannel_pe (c : ChannelId) (x : Channel) : (s.setChannel c x).pe = s.pe := rfl
@[simp] theorem setChannel_dc (c : ChannelId) (x : Channel) : (s.setChannel c x).dc = s.dc := rfl
@[simp] theorem setChannel_ru (c : ChannelId) (x : Channel) : (s.setChannel c x).ru = s.ru := rfl
@[simp] theorem setChannel_sau (c : ChannelId) (x : Channel) : (s.setChannel c x).sau = s.sau := rfl
@[simp] theorem setChannel_sp (c : ChannelId) (x : Channel) : (s.setChannel c x).sp = s.sp := rfl
@[simp] theorem setChannel_sc_devs (c : ChannelId) (x : Channel) : (s.setChannel c x).sc.devs = s.sc.devs := rfl
@[simp] theorem setChannel_sc_zoneViews (c : ChannelId) (x : Channel) : (s.setChannel c x).sc.zoneViews = s.sc.zoneViews := rfl
@[simp] theorem setChannel_sc_doorViews (c : ChannelId) (x : Channel) : (s.setChannel c x).sc.doorViews = s.sc.doorViews := rfl
@[simp] theorem setChannel_sc_keys (c : ChannelId) (x : Channel) : (s.setChannel c x).sc.keys = s.sc.keys := rfl
@[simp] theorem setChannel_sc_channels (c : ChannelId) (x : Channel) :
    (s.setChannel c x).sc.channels = s.sc.channels.set c.val x c.isLt := rfl
theorem channel_setChannel (c j : ChannelId) (x : Channel) : (s.setChannel c x).channel j = if j = c then x else s.channel j := by
  simp [State.channel]

@[simp] theorem setScDev_pending (d : DevIx) (x : ScDevice) : (s.setScDev d x).pending = s.pending := rfl
@[simp] theorem setScDev_rm (d : DevIx) (x : ScDevice) : (s.setScDev d x).rm = s.rm := rfl
@[simp] theorem setScDev_fc (d : DevIx) (x : ScDevice) : (s.setScDev d x).fc = s.fc := rfl
@[simp] theorem setScDev_csu (d : DevIx) (x : ScDevice) : (s.setScDev d x).csu = s.csu := rfl
@[simp] theorem setScDev_csc (d : DevIx) (x : ScDevice) : (s.setScDev d x).csc = s.csc := rfl
@[simp] theorem setScDev_pe (d : DevIx) (x : ScDevice) : (s.setScDev d x).pe = s.pe := rfl
@[simp] theorem setScDev_dc (d : DevIx) (x : ScDevice) : (s.setScDev d x).dc = s.dc := rfl
@[simp] theorem setScDev_ru (d : DevIx) (x : ScDevice) : (s.setScDev d x).ru = s.ru := rfl
@[simp] theorem setScDev_sau (d : DevIx) (x : ScDevice) : (s.setScDev d x).sau = s.sau := rfl
@[simp] theorem setScDev_sp (d : DevIx) (x : ScDevice) : (s.setScDev d x).sp = s.sp := rfl
@[simp] theorem setScDev_sc_channels (d : DevIx) (x : ScDevice) : (s.setScDev d x).sc.channels = s.sc.channels := rfl
@[simp] theorem setScDev_sc_zoneViews (d : DevIx) (x : ScDevice) : (s.setScDev d x).sc.zoneViews = s.sc.zoneViews := rfl
@[simp] theorem setScDev_sc_doorViews (d : DevIx) (x : ScDevice) : (s.setScDev d x).sc.doorViews = s.sc.doorViews := rfl
@[simp] theorem setScDev_sc_keys (d : DevIx) (x : ScDevice) : (s.setScDev d x).sc.keys = s.sc.keys := rfl
@[simp] theorem setScDev_sc_devs (d : DevIx) (x : ScDevice) :
    (s.setScDev d x).sc.devs = s.sc.devs.set d.val x d.isLt := rfl
theorem scDev_setScDev (d j : DevIx) (x : ScDevice) : (s.setScDev d x).scDev j = if j = d then x else s.scDev j := by
  simp [State.scDev]

@[simp] theorem setZoneView_pending (z : ZoneId) (x : ZoneView) : (s.setZoneView z x).pending = s.pending := rfl
@[simp] theorem setZoneView_rm (z : ZoneId) (x : ZoneView) : (s.setZoneView z x).rm = s.rm := rfl
@[simp] theorem setZoneView_fc (z : ZoneId) (x : ZoneView) : (s.setZoneView z x).fc = s.fc := rfl
@[simp] theorem setZoneView_csu (z : ZoneId) (x : ZoneView) : (s.setZoneView z x).csu = s.csu := rfl
@[simp] theorem setZoneView_csc (z : ZoneId) (x : ZoneView) : (s.setZoneView z x).csc = s.csc := rfl
@[simp] theorem setZoneView_pe (z : ZoneId) (x : ZoneView) : (s.setZoneView z x).pe = s.pe := rfl
@[simp] theorem setZoneView_dc (z : ZoneId) (x : ZoneView) : (s.setZoneView z x).dc = s.dc := rfl
@[simp] theorem setZoneView_ru (z : ZoneId) (x : ZoneView) : (s.setZoneView z x).ru = s.ru := rfl
@[simp] theorem setZoneView_sau (z : ZoneId) (x : ZoneView) : (s.setZoneView z x).sau = s.sau := rfl
@[simp] theorem setZoneView_sp (z : ZoneId) (x : ZoneView) : (s.setZoneView z x).sp = s.sp := rfl
@[simp] theorem setZoneView_sc_channels (z : ZoneId) (x : ZoneView) : (s.setZoneView z x).sc.channels = s.sc.channels := rfl
@[simp] theorem setZoneView_sc_devs (z : ZoneId) (x : ZoneView) : (s.setZoneView z x).sc.devs = s.sc.devs := rfl
@[simp] theorem setZoneView_sc_doorViews (z : ZoneId) (x : ZoneView) : (s.setZoneView z x).sc.doorViews = s.sc.doorViews := rfl
@[simp] theorem setZoneView_sc_keys (z : ZoneId) (x : ZoneView) : (s.setZoneView z x).sc.keys = s.sc.keys := rfl
@[simp] theorem setZoneView_sc_zoneViews (z : ZoneId) (x : ZoneView) :
    (s.setZoneView z x).sc.zoneViews = s.sc.zoneViews.set z.val x z.isLt := rfl
theorem zoneView_setZoneView (z j : ZoneId) (x : ZoneView) : (s.setZoneView z x).zoneView j = if j = z then x else s.zoneView j := by
  simp [State.zoneView]

@[simp] theorem setDoorView_pending (d : DoorId) (x : Option DoorView) : (s.setDoorView d x).pending = s.pending := rfl
@[simp] theorem setDoorView_rm (d : DoorId) (x : Option DoorView) : (s.setDoorView d x).rm = s.rm := rfl
@[simp] theorem setDoorView_fc (d : DoorId) (x : Option DoorView) : (s.setDoorView d x).fc = s.fc := rfl
@[simp] theorem setDoorView_csu (d : DoorId) (x : Option DoorView) : (s.setDoorView d x).csu = s.csu := rfl
@[simp] theorem setDoorView_csc (d : DoorId) (x : Option DoorView) : (s.setDoorView d x).csc = s.csc := rfl
@[simp] theorem setDoorView_pe (d : DoorId) (x : Option DoorView) : (s.setDoorView d x).pe = s.pe := rfl
@[simp] theorem setDoorView_dc (d : DoorId) (x : Option DoorView) : (s.setDoorView d x).dc = s.dc := rfl
@[simp] theorem setDoorView_ru (d : DoorId) (x : Option DoorView) : (s.setDoorView d x).ru = s.ru := rfl
@[simp] theorem setDoorView_sau (d : DoorId) (x : Option DoorView) : (s.setDoorView d x).sau = s.sau := rfl
@[simp] theorem setDoorView_sp (d : DoorId) (x : Option DoorView) : (s.setDoorView d x).sp = s.sp := rfl
@[simp] theorem setDoorView_sc_channels (d : DoorId) (x : Option DoorView) : (s.setDoorView d x).sc.channels = s.sc.channels := rfl
@[simp] theorem setDoorView_sc_devs (d : DoorId) (x : Option DoorView) : (s.setDoorView d x).sc.devs = s.sc.devs := rfl
@[simp] theorem setDoorView_sc_zoneViews (d : DoorId) (x : Option DoorView) : (s.setDoorView d x).sc.zoneViews = s.sc.zoneViews := rfl
@[simp] theorem setDoorView_sc_keys (d : DoorId) (x : Option DoorView) : (s.setDoorView d x).sc.keys = s.sc.keys := rfl
@[simp] theorem setDoorView_sc_doorViews (d : DoorId) (x : Option DoorView) :
    (s.setDoorView d x).sc.doorViews = s.sc.doorViews.set d.val x d.isLt := rfl
theorem doorView_setDoorView (d j : DoorId) (x : Option DoorView) : (s.setDoorView d x).doorView j = if j = d then x else s.doorView j := by
  simp [State.doorView]

@[simp] theorem setKey_pending (g : GiId) (x : Option ChannelId) : (s.setKey g x).pending = s.pending := rfl
@[simp] theorem setKey_rm (g : GiId) (x : Option ChannelId) : (s.setKey g x).rm = s.rm := rfl
@[simp] theorem setKey_fc (g : GiId) (x : Option ChannelId) : (s.setKey g x).fc = s.fc := rfl
@[simp] theorem setKey_csu (g : GiId) (x : Option ChannelId) : (s.setKey g x).csu = s.csu := rfl
@[simp] theorem setKey_csc (g : GiId) (x : Option ChannelId) : (s.setKey g x).csc = s.csc := rfl
@[simp] theorem setKey_pe (g : GiId) (x : Option ChannelId) : (s.setKey g x).pe = s.pe := rfl
@[simp] theorem setKey_dc (g : GiId) (x : Option ChannelId) : (s.setKey g x).dc = s.dc := rfl
@[simp] theorem setKey_ru (g : GiId) (x : Option ChannelId) : (s.setKey g x).ru = s.ru := rfl
@[simp] theorem setKey_sau (g : GiId) (x : Option ChannelId) : (s.setKey g x).sau = s.sau := rfl
@[simp] theorem setKey_sp (g : GiId) (x : Option ChannelId) : (s.setKey g x).sp = s.sp := rfl
@[simp] theorem setKey_sc_channels (g : GiId) (x : Option ChannelId) : (s.setKey g x).sc.channels = s.sc.channels := rfl
@[simp] theorem setKey_sc_devs (g : GiId) (x : Option ChannelId) : (s.setKey g x).sc.devs = s.sc.devs := rfl
@[simp] theorem setKey_sc_zoneViews (g : GiId) (x : Option ChannelId) : (s.setKey g x).sc.zoneViews = s.sc.zoneViews := rfl
@[simp] theorem setKey_sc_doorViews (g : GiId) (x : Option ChannelId) : (s.setKey g x).sc.doorViews = s.sc.doorViews := rfl
@[simp] theorem setKey_sc_keys (g : GiId) (x : Option ChannelId) :
    (s.setKey g x).sc.keys = s.sc.keys.set g.val x g.isLt := rfl
theorem key_setKey (g j : GiId) (x : Option ChannelId) : (s.setKey g x).key j = if j = g then x else s.key j := by
  simp [State.key]

@[simp] theorem setRoster_pending (z : ZoneId) (x : List RosterEntry) : (s.setRoster z x).pending = s.pending := rfl
@[simp] theorem setRoster_rm (z : ZoneId) (x : List RosterEntry) : (s.setRoster z x).rm = s.rm := rfl
@[simp] theorem setRoster_fc (z : ZoneId) (x : List RosterEntry) : (s.setRoster z x).fc = s.fc := rfl
@[simp] theorem setRoster_csu (z : ZoneId) (x : List RosterEntry) : (s.setRoster z x).csu = s.csu := rfl
@[simp] theorem setRoster_csc (z : ZoneId) (x : List RosterEntry) : (s.setRoster z x).csc = s.csc := rfl
@[simp] theorem setRoster_pe (z : ZoneId) (x : List RosterEntry) : (s.setRoster z x).pe = s.pe := rfl
@[simp] theorem setRoster_dc (z : ZoneId) (x : List RosterEntry) : (s.setRoster z x).dc = s.dc := rfl
@[simp] theorem setRoster_sc (z : ZoneId) (x : List RosterEntry) : (s.setRoster z x).sc = s.sc := rfl
@[simp] theorem setRoster_sau (z : ZoneId) (x : List RosterEntry) : (s.setRoster z x).sau = s.sau := rfl
@[simp] theorem setRoster_sp (z : ZoneId) (x : List RosterEntry) : (s.setRoster z x).sp = s.sp := rfl
@[simp] theorem setRoster_ru_status (z : ZoneId) (x : List RosterEntry) : (s.setRoster z x).ru.status = s.ru.status := rfl
@[simp] theorem setRoster_ru_zones (z : ZoneId) (x : List RosterEntry) : (s.setRoster z x).ru.zones = s.ru.zones := rfl
@[simp] theorem setRoster_ru_rosters (z : ZoneId) (x : List RosterEntry) :
    (s.setRoster z x).ru.rosters = s.ru.rosters.set z.val x z.isLt := rfl
theorem roster_setRoster (z j : ZoneId) (x : List RosterEntry) : (s.setRoster z x).roster j = if j = z then x else s.roster j := by
  simp [State.roster]

@[simp] theorem setZoneStatus_pending (z : ZoneId) (x : ZoneStatus) : (s.setZoneStatus z x).pending = s.pending := rfl
@[simp] theorem setZoneStatus_rm (z : ZoneId) (x : ZoneStatus) : (s.setZoneStatus z x).rm = s.rm := rfl
@[simp] theorem setZoneStatus_fc (z : ZoneId) (x : ZoneStatus) : (s.setZoneStatus z x).fc = s.fc := rfl
@[simp] theorem setZoneStatus_csu (z : ZoneId) (x : ZoneStatus) : (s.setZoneStatus z x).csu = s.csu := rfl
@[simp] theorem setZoneStatus_csc (z : ZoneId) (x : ZoneStatus) : (s.setZoneStatus z x).csc = s.csc := rfl
@[simp] theorem setZoneStatus_pe (z : ZoneId) (x : ZoneStatus) : (s.setZoneStatus z x).pe = s.pe := rfl
@[simp] theorem setZoneStatus_dc (z : ZoneId) (x : ZoneStatus) : (s.setZoneStatus z x).dc = s.dc := rfl
@[simp] theorem setZoneStatus_sc (z : ZoneId) (x : ZoneStatus) : (s.setZoneStatus z x).sc = s.sc := rfl
@[simp] theorem setZoneStatus_sau (z : ZoneId) (x : ZoneStatus) : (s.setZoneStatus z x).sau = s.sau := rfl
@[simp] theorem setZoneStatus_sp (z : ZoneId) (x : ZoneStatus) : (s.setZoneStatus z x).sp = s.sp := rfl
@[simp] theorem setZoneStatus_ru_rosters (z : ZoneId) (x : ZoneStatus) : (s.setZoneStatus z x).ru.rosters = s.ru.rosters := rfl
@[simp] theorem setZoneStatus_ru_zones (z : ZoneId) (x : ZoneStatus) : (s.setZoneStatus z x).ru.zones = s.ru.zones := rfl
@[simp] theorem setZoneStatus_ru_status (z : ZoneId) (x : ZoneStatus) :
    (s.setZoneStatus z x).ru.status = s.ru.status.set z.val x z.isLt := rfl
theorem zoneStatus_setZoneStatus (z j : ZoneId) (x : ZoneStatus) : (s.setZoneStatus z x).zoneStatus j = if j = z then x else s.zoneStatus j := by
  simp [State.zoneStatus]

@[simp] theorem setZone_pending (z : ZoneId) (x : ZoneEntry) : (s.setZone z x).pending = s.pending := rfl
@[simp] theorem setZone_rm (z : ZoneId) (x : ZoneEntry) : (s.setZone z x).rm = s.rm := rfl
@[simp] theorem setZone_fc (z : ZoneId) (x : ZoneEntry) : (s.setZone z x).fc = s.fc := rfl
@[simp] theorem setZone_csu (z : ZoneId) (x : ZoneEntry) : (s.setZone z x).csu = s.csu := rfl
@[simp] theorem setZone_csc (z : ZoneId) (x : ZoneEntry) : (s.setZone z x).csc = s.csc := rfl
@[simp] theorem setZone_pe (z : ZoneId) (x : ZoneEntry) : (s.setZone z x).pe = s.pe := rfl
@[simp] theorem setZone_dc (z : ZoneId) (x : ZoneEntry) : (s.setZone z x).dc = s.dc := rfl
@[simp] theorem setZone_sc (z : ZoneId) (x : ZoneEntry) : (s.setZone z x).sc = s.sc := rfl
@[simp] theorem setZone_sau (z : ZoneId) (x : ZoneEntry) : (s.setZone z x).sau = s.sau := rfl
@[simp] theorem setZone_sp (z : ZoneId) (x : ZoneEntry) : (s.setZone z x).sp = s.sp := rfl
@[simp] theorem setZone_ru_rosters (z : ZoneId) (x : ZoneEntry) : (s.setZone z x).ru.rosters = s.ru.rosters := rfl
@[simp] theorem setZone_ru_status (z : ZoneId) (x : ZoneEntry) : (s.setZone z x).ru.status = s.ru.status := rfl
@[simp] theorem setZone_ru_zones (z : ZoneId) (x : ZoneEntry) :
    (s.setZone z x).ru.zones = s.ru.zones.set z.val x z.isLt := rfl
theorem zone_setZone (z j : ZoneId) (x : ZoneEntry) : (s.setZone z x).zone j = if j = z then x else s.zone j := by
  simp [State.zone]

@[simp] theorem setLone_pending (z : ZoneId) (x : Lone) : (s.setLone z x).pending = s.pending := rfl
@[simp] theorem setLone_rm (z : ZoneId) (x : Lone) : (s.setLone z x).rm = s.rm := rfl
@[simp] theorem setLone_fc (z : ZoneId) (x : Lone) : (s.setLone z x).fc = s.fc := rfl
@[simp] theorem setLone_csu (z : ZoneId) (x : Lone) : (s.setLone z x).csu = s.csu := rfl
@[simp] theorem setLone_csc (z : ZoneId) (x : Lone) : (s.setLone z x).csc = s.csc := rfl
@[simp] theorem setLone_pe (z : ZoneId) (x : Lone) : (s.setLone z x).pe = s.pe := rfl
@[simp] theorem setLone_dc (z : ZoneId) (x : Lone) : (s.setLone z x).dc = s.dc := rfl
@[simp] theorem setLone_ru (z : ZoneId) (x : Lone) : (s.setLone z x).ru = s.ru := rfl
@[simp] theorem setLone_sc (z : ZoneId) (x : Lone) : (s.setLone z x).sc = s.sc := rfl
@[simp] theorem setLone_sp (z : ZoneId) (x : Lone) : (s.setLone z x).sp = s.sp := rfl
@[simp] theorem setLone_sau_abortLines (z : ZoneId) (x : Lone) : (s.setLone z x).sau.abortLines = s.sau.abortLines := rfl
@[simp] theorem setLone_sau_valveLines (z : ZoneId) (x : Lone) : (s.setLone z x).sau.valveLines = s.sau.valveLines := rfl
@[simp] theorem setLone_sau_manualLines (z : ZoneId) (x : Lone) : (s.setLone z x).sau.manualLines = s.sau.manualLines := rfl
@[simp] theorem setLone_sau_generalLines (z : ZoneId) (x : Lone) : (s.setLone z x).sau.generalLines = s.sau.generalLines := rfl
@[simp] theorem setLone_sau_table (z : ZoneId) (x : Lone) : (s.setLone z x).sau.table = s.sau.table := rfl
@[simp] theorem setLone_sau_alarms (z : ZoneId) (x : Lone) : (s.setLone z x).sau.alarms = s.sau.alarms := rfl
@[simp] theorem setLone_sau_nextNumber (z : ZoneId) (x : Lone) : (s.setLone z x).sau.nextNumber = s.sau.nextNumber := rfl
@[simp] theorem setLone_sau_overflow (z : ZoneId) (x : Lone) : (s.setLone z x).sau.overflow = s.sau.overflow := rfl
@[simp] theorem setLone_sau_tones (z : ZoneId) (x : Lone) : (s.setLone z x).sau.tones = s.sau.tones := rfl
@[simp] theorem setLone_sau_lone (z : ZoneId) (x : Lone) :
    (s.setLone z x).sau.lone = s.sau.lone.set z.val x z.isLt := rfl
theorem lone_setLone (z j : ZoneId) (x : Lone) : (s.setLone z x).lone j = if j = z then x else s.lone j := by
  simp [State.lone]

@[simp] theorem setZoneTone_pending (z : ZoneId) (x : Tone) : (s.setZoneTone z x).pending = s.pending := rfl
@[simp] theorem setZoneTone_rm (z : ZoneId) (x : Tone) : (s.setZoneTone z x).rm = s.rm := rfl
@[simp] theorem setZoneTone_fc (z : ZoneId) (x : Tone) : (s.setZoneTone z x).fc = s.fc := rfl
@[simp] theorem setZoneTone_csu (z : ZoneId) (x : Tone) : (s.setZoneTone z x).csu = s.csu := rfl
@[simp] theorem setZoneTone_csc (z : ZoneId) (x : Tone) : (s.setZoneTone z x).csc = s.csc := rfl
@[simp] theorem setZoneTone_pe (z : ZoneId) (x : Tone) : (s.setZoneTone z x).pe = s.pe := rfl
@[simp] theorem setZoneTone_dc (z : ZoneId) (x : Tone) : (s.setZoneTone z x).dc = s.dc := rfl
@[simp] theorem setZoneTone_ru (z : ZoneId) (x : Tone) : (s.setZoneTone z x).ru = s.ru := rfl
@[simp] theorem setZoneTone_sc (z : ZoneId) (x : Tone) : (s.setZoneTone z x).sc = s.sc := rfl
@[simp] theorem setZoneTone_sp (z : ZoneId) (x : Tone) : (s.setZoneTone z x).sp = s.sp := rfl
@[simp] theorem setZoneTone_sau_abortLines (z : ZoneId) (x : Tone) : (s.setZoneTone z x).sau.abortLines = s.sau.abortLines := rfl
@[simp] theorem setZoneTone_sau_valveLines (z : ZoneId) (x : Tone) : (s.setZoneTone z x).sau.valveLines = s.sau.valveLines := rfl
@[simp] theorem setZoneTone_sau_manualLines (z : ZoneId) (x : Tone) : (s.setZoneTone z x).sau.manualLines = s.sau.manualLines := rfl
@[simp] theorem setZoneTone_sau_generalLines (z : ZoneId) (x : Tone) : (s.setZoneTone z x).sau.generalLines = s.sau.generalLines := rfl
@[simp] theorem setZoneTone_sau_table (z : ZoneId) (x : Tone) : (s.setZoneTone z x).sau.table = s.sau.table := rfl
@[simp] theorem setZoneTone_sau_alarms (z : ZoneId) (x : Tone) : (s.setZoneTone z x).sau.alarms = s.sau.alarms := rfl
@[simp] theorem setZoneTone_sau_nextNumber (z : ZoneId) (x : Tone) : (s.setZoneTone z x).sau.nextNumber = s.sau.nextNumber := rfl
@[simp] theorem setZoneTone_sau_overflow (z : ZoneId) (x : Tone) : (s.setZoneTone z x).sau.overflow = s.sau.overflow := rfl
@[simp] theorem setZoneTone_sau_lone (z : ZoneId) (x : Tone) : (s.setZoneTone z x).sau.lone = s.sau.lone := rfl
@[simp] theorem setZoneTone_sau_tones (z : ZoneId) (x : Tone) :
    (s.setZoneTone z x).sau.tones = s.sau.tones.set z.val x z.isLt := rfl
theorem zoneTone_setZoneTone (z j : ZoneId) (x : Tone) : (s.setZoneTone z x).zoneTone j = if j = z then x else s.zoneTone j := by
  simp [State.zoneTone]

@[simp] theorem setAlarmOverflow_pending (z : ZoneId) (x : Bool) : (s.setAlarmOverflow z x).pending = s.pending := rfl
@[simp] theorem setAlarmOverflow_rm (z : ZoneId) (x : Bool) : (s.setAlarmOverflow z x).rm = s.rm := rfl
@[simp] theorem setAlarmOverflow_fc (z : ZoneId) (x : Bool) : (s.setAlarmOverflow z x).fc = s.fc := rfl
@[simp] theorem setAlarmOverflow_csu (z : ZoneId) (x : Bool) : (s.setAlarmOverflow z x).csu = s.csu := rfl
@[simp] theorem setAlarmOverflow_csc (z : ZoneId) (x : Bool) : (s.setAlarmOverflow z x).csc = s.csc := rfl
@[simp] theorem setAlarmOverflow_pe (z : ZoneId) (x : Bool) : (s.setAlarmOverflow z x).pe = s.pe := rfl
@[simp] theorem setAlarmOverflow_dc (z : ZoneId) (x : Bool) : (s.setAlarmOverflow z x).dc = s.dc := rfl
@[simp] theorem setAlarmOverflow_ru (z : ZoneId) (x : Bool) : (s.setAlarmOverflow z x).ru = s.ru := rfl
@[simp] theorem setAlarmOverflow_sc (z : ZoneId) (x : Bool) : (s.setAlarmOverflow z x).sc = s.sc := rfl
@[simp] theorem setAlarmOverflow_sp (z : ZoneId) (x : Bool) : (s.setAlarmOverflow z x).sp = s.sp := rfl
@[simp] theorem setAlarmOverflow_sau_abortLines (z : ZoneId) (x : Bool) : (s.setAlarmOverflow z x).sau.abortLines = s.sau.abortLines := rfl
@[simp] theorem setAlarmOverflow_sau_valveLines (z : ZoneId) (x : Bool) : (s.setAlarmOverflow z x).sau.valveLines = s.sau.valveLines := rfl
@[simp] theorem setAlarmOverflow_sau_manualLines (z : ZoneId) (x : Bool) : (s.setAlarmOverflow z x).sau.manualLines = s.sau.manualLines := rfl
@[simp] theorem setAlarmOverflow_sau_generalLines (z : ZoneId) (x : Bool) : (s.setAlarmOverflow z x).sau.generalLines = s.sau.generalLines := rfl
@[simp] theorem setAlarmOverflow_sau_table (z : ZoneId) (x : Bool) : (s.setAlarmOverflow z x).sau.table = s.sau.table := rfl
@[simp] theorem setAlarmOverflow_sau_alarms (z : ZoneId) (x : Bool) : (s.setAlarmOverflow z x).sau.alarms = s.sau.alarms := rfl
@[simp] theorem setAlarmOverflow_sau_nextNumber (z : ZoneId) (x : Bool) : (s.setAlarmOverflow z x).sau.nextNumber = s.sau.nextNumber := rfl
@[simp] theorem setAlarmOverflow_sau_lone (z : ZoneId) (x : Bool) : (s.setAlarmOverflow z x).sau.lone = s.sau.lone := rfl
@[simp] theorem setAlarmOverflow_sau_tones (z : ZoneId) (x : Bool) : (s.setAlarmOverflow z x).sau.tones = s.sau.tones := rfl
@[simp] theorem setAlarmOverflow_sau_overflow (z : ZoneId) (x : Bool) :
    (s.setAlarmOverflow z x).sau.overflow = s.sau.overflow.set z.val x z.isLt := rfl
theorem alarmOverflow_setAlarmOverflow (z j : ZoneId) (x : Bool) : (s.setAlarmOverflow z x).alarmOverflow j = if j = z then x else s.alarmOverflow j := by
  simp [State.alarmOverflow]

@[simp] theorem setLineFunction_pending (g : GiId) (x : LineFunction) : (s.setLineFunction g x).pending = s.pending := rfl
@[simp] theorem setLineFunction_rm (g : GiId) (x : LineFunction) : (s.setLineFunction g x).rm = s.rm := rfl
@[simp] theorem setLineFunction_fc (g : GiId) (x : LineFunction) : (s.setLineFunction g x).fc = s.fc := rfl
@[simp] theorem setLineFunction_csu (g : GiId) (x : LineFunction) : (s.setLineFunction g x).csu = s.csu := rfl
@[simp] theorem setLineFunction_csc (g : GiId) (x : LineFunction) : (s.setLineFunction g x).csc = s.csc := rfl
@[simp] theorem setLineFunction_pe (g : GiId) (x : LineFunction) : (s.setLineFunction g x).pe = s.pe := rfl
@[simp] theorem setLineFunction_dc (g : GiId) (x : LineFunction) : (s.setLineFunction g x).dc = s.dc := rfl
@[simp] theorem setLineFunction_ru (g : GiId) (x : LineFunction) : (s.setLineFunction g x).ru = s.ru := rfl
@[simp] theorem setLineFunction_sc (g : GiId) (x : LineFunction) : (s.setLineFunction g x).sc = s.sc := rfl
@[simp] theorem setLineFunction_sp (g : GiId) (x : LineFunction) : (s.setLineFunction g x).sp = s.sp := rfl
@[simp] theorem setLineFunction_sau_abortLines (g : GiId) (x : LineFunction) : (s.setLineFunction g x).sau.abortLines = s.sau.abortLines := rfl
@[simp] theorem setLineFunction_sau_valveLines (g : GiId) (x : LineFunction) : (s.setLineFunction g x).sau.valveLines = s.sau.valveLines := rfl
@[simp] theorem setLineFunction_sau_manualLines (g : GiId) (x : LineFunction) : (s.setLineFunction g x).sau.manualLines = s.sau.manualLines := rfl
@[simp] theorem setLineFunction_sau_generalLines (g : GiId) (x : LineFunction) : (s.setLineFunction g x).sau.generalLines = s.sau.generalLines := rfl
@[simp] theorem setLineFunction_sau_alarms (g : GiId) (x : LineFunction) : (s.setLineFunction g x).sau.alarms = s.sau.alarms := rfl
@[simp] theorem setLineFunction_sau_nextNumber (g : GiId) (x : LineFunction) : (s.setLineFunction g x).sau.nextNumber = s.sau.nextNumber := rfl
@[simp] theorem setLineFunction_sau_overflow (g : GiId) (x : LineFunction) : (s.setLineFunction g x).sau.overflow = s.sau.overflow := rfl
@[simp] theorem setLineFunction_sau_lone (g : GiId) (x : LineFunction) : (s.setLineFunction g x).sau.lone = s.sau.lone := rfl
@[simp] theorem setLineFunction_sau_tones (g : GiId) (x : LineFunction) : (s.setLineFunction g x).sau.tones = s.sau.tones := rfl
@[simp] theorem setLineFunction_sau_table (g : GiId) (x : LineFunction) :
    (s.setLineFunction g x).sau.table = s.sau.table.set g.val x g.isLt := rfl
theorem lineFunction_setLineFunction (g j : GiId) (x : LineFunction) : (s.setLineFunction g x).lineFunction j = if j = g then x else s.lineFunction j := by
  simp [State.lineFunction]

@[simp] theorem setAfterHours_pending (z : ZoneId) (x : Bool) : (s.setAfterHours z x).pending = s.pending := rfl
@[simp] theorem setAfterHours_rm (z : ZoneId) (x : Bool) : (s.setAfterHours z x).rm = s.rm := rfl
@[simp] theorem setAfterHours_fc (z : ZoneId) (x : Bool) : (s.setAfterHours z x).fc = s.fc := rfl
@[simp] theorem setAfterHours_csc (z : ZoneId) (x : Bool) : (s.setAfterHours z x).csc = s.csc := rfl
@[simp] theorem setAfterHours_pe (z : ZoneId) (x : Bool) : (s.setAfterHours z x).pe = s.pe := rfl
@[simp] theorem setAfterHours_dc (z : ZoneId) (x : Bool) : (s.setAfterHours z x).dc = s.dc := rfl
@[simp] theorem setAfterHours_ru (z : ZoneId) (x : Bool) : (s.setAfterHours z x).ru = s.ru := rfl
@[simp] theorem setAfterHours_sc (z : ZoneId) (x : Bool) : (s.setAfterHours z x).sc = s.sc := rfl
@[simp] theorem setAfterHours_sau (z : ZoneId) (x : Bool) : (s.setAfterHours z x).sau = s.sau := rfl
@[simp] theorem setAfterHours_sp (z : ZoneId) (x : Bool) : (s.setAfterHours z x).sp = s.sp := rfl
@[simp] theorem setAfterHours_csu_ticks (z : ZoneId) (x : Bool) : (s.setAfterHours z x).csu.ticks = s.csu.ticks := rfl
@[simp] theorem setAfterHours_csu_ms (z : ZoneId) (x : Bool) : (s.setAfterHours z x).csu.ms = s.csu.ms := rfl
@[simp] theorem setAfterHours_csu_day (z : ZoneId) (x : Bool) : (s.setAfterHours z x).csu.day = s.csu.day := rfl
@[simp] theorem setAfterHours_csu_weekday (z : ZoneId) (x : Bool) : (s.setAfterHours z x).csu.weekday = s.csu.weekday := rfl
@[simp] theorem setAfterHours_csu_second (z : ZoneId) (x : Bool) : (s.setAfterHours z x).csu.second = s.csu.second := rfl
@[simp] theorem setAfterHours_csu_clock (z : ZoneId) (x : Bool) : (s.setAfterHours z x).csu.clock = s.csu.clock := rfl
@[simp] theorem setAfterHours_csu_epochEnd (z : ZoneId) (x : Bool) : (s.setAfterHours z x).csu.epochEnd = s.csu.epochEnd := rfl
@[simp] theorem setAfterHours_csu_timebase (z : ZoneId) (x : Bool) : (s.setAfterHours z x).csu.timebase = s.csu.timebase := rfl
@[simp] theorem setAfterHours_csu_crystalWatch (z : ZoneId) (x : Bool) : (s.setAfterHours z x).csu.crystalWatch = s.csu.crystalWatch := rfl
@[simp] theorem setAfterHours_csu_schedules (z : ZoneId) (x : Bool) : (s.setAfterHours z x).csu.schedules = s.csu.schedules := rfl
@[simp] theorem setAfterHours_csu_holidays (z : ZoneId) (x : Bool) : (s.setAfterHours z x).csu.holidays = s.csu.holidays := rfl
@[simp] theorem setAfterHours_csu_afterHours (z : ZoneId) (x : Bool) :
    (s.setAfterHours z x).csu.afterHours = s.csu.afterHours.set z.val x z.isLt := rfl
theorem afterHours_setAfterHours (z j : ZoneId) (x : Bool) : (s.setAfterHours z x).afterHours j = if j = z then x else s.afterHours j := by
  simp [State.afterHours]

/-! ## One field of a block -/

@[simp] theorem setAlarms_pending (l : List AlarmRecord) : (s.setAlarms l).pending = s.pending := rfl
@[simp] theorem setAlarms_rm (l : List AlarmRecord) : (s.setAlarms l).rm = s.rm := rfl
@[simp] theorem setAlarms_fc (l : List AlarmRecord) : (s.setAlarms l).fc = s.fc := rfl
@[simp] theorem setAlarms_csu (l : List AlarmRecord) : (s.setAlarms l).csu = s.csu := rfl
@[simp] theorem setAlarms_csc (l : List AlarmRecord) : (s.setAlarms l).csc = s.csc := rfl
@[simp] theorem setAlarms_pe (l : List AlarmRecord) : (s.setAlarms l).pe = s.pe := rfl
@[simp] theorem setAlarms_dc (l : List AlarmRecord) : (s.setAlarms l).dc = s.dc := rfl
@[simp] theorem setAlarms_ru (l : List AlarmRecord) : (s.setAlarms l).ru = s.ru := rfl
@[simp] theorem setAlarms_sc (l : List AlarmRecord) : (s.setAlarms l).sc = s.sc := rfl
@[simp] theorem setAlarms_sp (l : List AlarmRecord) : (s.setAlarms l).sp = s.sp := rfl
@[simp] theorem setAlarms_sau_abortLines (l : List AlarmRecord) : (s.setAlarms l).sau.abortLines = s.sau.abortLines := rfl
@[simp] theorem setAlarms_sau_valveLines (l : List AlarmRecord) : (s.setAlarms l).sau.valveLines = s.sau.valveLines := rfl
@[simp] theorem setAlarms_sau_manualLines (l : List AlarmRecord) : (s.setAlarms l).sau.manualLines = s.sau.manualLines := rfl
@[simp] theorem setAlarms_sau_generalLines (l : List AlarmRecord) : (s.setAlarms l).sau.generalLines = s.sau.generalLines := rfl
@[simp] theorem setAlarms_sau_table (l : List AlarmRecord) : (s.setAlarms l).sau.table = s.sau.table := rfl
@[simp] theorem setAlarms_sau_nextNumber (l : List AlarmRecord) : (s.setAlarms l).sau.nextNumber = s.sau.nextNumber := rfl
@[simp] theorem setAlarms_sau_overflow (l : List AlarmRecord) : (s.setAlarms l).sau.overflow = s.sau.overflow := rfl
@[simp] theorem setAlarms_sau_lone (l : List AlarmRecord) : (s.setAlarms l).sau.lone = s.sau.lone := rfl
@[simp] theorem setAlarms_sau_tones (l : List AlarmRecord) : (s.setAlarms l).sau.tones = s.sau.tones := rfl
@[simp] theorem setAlarms_sau_alarms (l : List AlarmRecord) : (s.setAlarms l).sau.alarms = l := rfl

@[simp] theorem setLoopQueue_pending (q : List LoopEntry) : (s.setLoopQueue q).pending = s.pending := rfl
@[simp] theorem setLoopQueue_fc (q : List LoopEntry) : (s.setLoopQueue q).fc = s.fc := rfl
@[simp] theorem setLoopQueue_csu (q : List LoopEntry) : (s.setLoopQueue q).csu = s.csu := rfl
@[simp] theorem setLoopQueue_csc (q : List LoopEntry) : (s.setLoopQueue q).csc = s.csc := rfl
@[simp] theorem setLoopQueue_pe (q : List LoopEntry) : (s.setLoopQueue q).pe = s.pe := rfl
@[simp] theorem setLoopQueue_dc (q : List LoopEntry) : (s.setLoopQueue q).dc = s.dc := rfl
@[simp] theorem setLoopQueue_ru (q : List LoopEntry) : (s.setLoopQueue q).ru = s.ru := rfl
@[simp] theorem setLoopQueue_sc (q : List LoopEntry) : (s.setLoopQueue q).sc = s.sc := rfl
@[simp] theorem setLoopQueue_sau (q : List LoopEntry) : (s.setLoopQueue q).sau = s.sau := rfl
@[simp] theorem setLoopQueue_sp (q : List LoopEntry) : (s.setLoopQueue q).sp = s.sp := rfl
@[simp] theorem setLoopQueue_rm_ring (q : List LoopEntry) : (s.setLoopQueue q).rm.ring = s.rm.ring := rfl
@[simp] theorem setLoopQueue_rm_missCount (q : List LoopEntry) : (s.setLoopQueue q).rm.missCount = s.rm.missCount := rfl
@[simp] theorem setLoopQueue_rm_returnCount (q : List LoopEntry) : (s.setLoopQueue q).rm.returnCount = s.rm.returnCount := rfl
@[simp] theorem setLoopQueue_rm_tx (q : List LoopEntry) : (s.setLoopQueue q).rm.tx = s.rm.tx := rfl
@[simp] theorem setLoopQueue_rm_sweepWaiting (q : List LoopEntry) : (s.setLoopQueue q).rm.sweepWaiting = s.rm.sweepWaiting := rfl
@[simp] theorem setLoopQueue_rm_pendingSweep (q : List LoopEntry) : (s.setLoopQueue q).rm.pendingSweep = s.rm.pendingSweep := rfl
@[simp] theorem setLoopQueue_rm_nextSweep (q : List LoopEntry) : (s.setLoopQueue q).rm.nextSweep = s.rm.nextSweep := rfl
@[simp] theorem setLoopQueue_rm_sweepTimer (q : List LoopEntry) : (s.setLoopQueue q).rm.sweepTimer = s.rm.sweepTimer := rfl
@[simp] theorem setLoopQueue_rm_silence (q : List LoopEntry) : (s.setLoopQueue q).rm.silence = s.rm.silence := rfl
@[simp] theorem setLoopQueue_rm_loopSeqCount (q : List LoopEntry) : (s.setLoopQueue q).rm.loopSeqCount = s.rm.loopSeqCount := rfl
@[simp] theorem setLoopQueue_rm_queue (q : List LoopEntry) : (s.setLoopQueue q).rm.queue = q := rfl

@[simp] theorem setHolidays_pending (l : List Nat) : (s.setHolidays l).pending = s.pending := rfl
@[simp] theorem setHolidays_rm (l : List Nat) : (s.setHolidays l).rm = s.rm := rfl
@[simp] theorem setHolidays_fc (l : List Nat) : (s.setHolidays l).fc = s.fc := rfl
@[simp] theorem setHolidays_csc (l : List Nat) : (s.setHolidays l).csc = s.csc := rfl
@[simp] theorem setHolidays_pe (l : List Nat) : (s.setHolidays l).pe = s.pe := rfl
@[simp] theorem setHolidays_dc (l : List Nat) : (s.setHolidays l).dc = s.dc := rfl
@[simp] theorem setHolidays_ru (l : List Nat) : (s.setHolidays l).ru = s.ru := rfl
@[simp] theorem setHolidays_sc (l : List Nat) : (s.setHolidays l).sc = s.sc := rfl
@[simp] theorem setHolidays_sau (l : List Nat) : (s.setHolidays l).sau = s.sau := rfl
@[simp] theorem setHolidays_sp (l : List Nat) : (s.setHolidays l).sp = s.sp := rfl
@[simp] theorem setHolidays_csu_ticks (l : List Nat) : (s.setHolidays l).csu.ticks = s.csu.ticks := rfl
@[simp] theorem setHolidays_csu_ms (l : List Nat) : (s.setHolidays l).csu.ms = s.csu.ms := rfl
@[simp] theorem setHolidays_csu_day (l : List Nat) : (s.setHolidays l).csu.day = s.csu.day := rfl
@[simp] theorem setHolidays_csu_weekday (l : List Nat) : (s.setHolidays l).csu.weekday = s.csu.weekday := rfl
@[simp] theorem setHolidays_csu_second (l : List Nat) : (s.setHolidays l).csu.second = s.csu.second := rfl
@[simp] theorem setHolidays_csu_clock (l : List Nat) : (s.setHolidays l).csu.clock = s.csu.clock := rfl
@[simp] theorem setHolidays_csu_epochEnd (l : List Nat) : (s.setHolidays l).csu.epochEnd = s.csu.epochEnd := rfl
@[simp] theorem setHolidays_csu_timebase (l : List Nat) : (s.setHolidays l).csu.timebase = s.csu.timebase := rfl
@[simp] theorem setHolidays_csu_crystalWatch (l : List Nat) : (s.setHolidays l).csu.crystalWatch = s.csu.crystalWatch := rfl
@[simp] theorem setHolidays_csu_schedules (l : List Nat) : (s.setHolidays l).csu.schedules = s.csu.schedules := rfl
@[simp] theorem setHolidays_csu_afterHours (l : List Nat) : (s.setHolidays l).csu.afterHours = s.csu.afterHours := rfl
@[simp] theorem setHolidays_csu_holidays (l : List Nat) : (s.setHolidays l).csu.holidays = l := rfl

@[simp] theorem setRx_pending (l : List Byte) : (s.setRx l).pending = s.pending := rfl
@[simp] theorem setRx_rm (l : List Byte) : (s.setRx l).rm = s.rm := rfl
@[simp] theorem setRx_fc (l : List Byte) : (s.setRx l).fc = s.fc := rfl
@[simp] theorem setRx_csu (l : List Byte) : (s.setRx l).csu = s.csu := rfl
@[simp] theorem setRx_csc (l : List Byte) : (s.setRx l).csc = s.csc := rfl
@[simp] theorem setRx_pe (l : List Byte) : (s.setRx l).pe = s.pe := rfl
@[simp] theorem setRx_dc (l : List Byte) : (s.setRx l).dc = s.dc := rfl
@[simp] theorem setRx_ru (l : List Byte) : (s.setRx l).ru = s.ru := rfl
@[simp] theorem setRx_sc (l : List Byte) : (s.setRx l).sc = s.sc := rfl
@[simp] theorem setRx_sau (l : List Byte) : (s.setRx l).sau = s.sau := rfl
@[simp] theorem setRx_sp_cursorTable (l : List Byte) : (s.setRx l).sp.cursorTable = s.sp.cursorTable := rfl
@[simp] theorem setRx_sp_cursorIndex (l : List Byte) : (s.setRx l).sp.cursorIndex = s.sp.cursorIndex := rfl
@[simp] theorem setRx_sp_replies (l : List Byte) : (s.setRx l).sp.replies = s.sp.replies := rfl
@[simp] theorem setRx_sp_events (l : List Byte) : (s.setRx l).sp.events = s.sp.events := rfl
@[simp] theorem setRx_sp_overflow (l : List Byte) : (s.setRx l).sp.overflow = s.sp.overflow := rfl
@[simp] theorem setRx_sp_forwards (l : List Byte) : (s.setRx l).sp.forwards = s.sp.forwards := rfl
@[simp] theorem setRx_sp_seq (l : List Byte) : (s.setRx l).sp.seq = s.sp.seq := rfl
@[simp] theorem setRx_sp_cause (l : List Byte) : (s.setRx l).sp.cause = s.sp.cause := rfl
@[simp] theorem setRx_sp_tx (l : List Byte) : (s.setRx l).sp.tx = s.sp.tx := rfl
@[simp] theorem setRx_sp_restartWaiting (l : List Byte) : (s.setRx l).sp.restartWaiting = s.sp.restartWaiting := rfl
@[simp] theorem setRx_sp_rx (l : List Byte) : (s.setRx l).sp.rx = l := rfl
@[simp] theorem setRx_sp_intake (l : List Byte) : (s.setRx l).sp.intake = s.sp.intake := rfl
@[simp] theorem setIntake_pending (l : List Frame) : (s.setIntake l).pending = s.pending := rfl
@[simp] theorem setIntake_rm (l : List Frame) : (s.setIntake l).rm = s.rm := rfl
@[simp] theorem setIntake_fc (l : List Frame) : (s.setIntake l).fc = s.fc := rfl
@[simp] theorem setIntake_csu (l : List Frame) : (s.setIntake l).csu = s.csu := rfl
@[simp] theorem setIntake_csc (l : List Frame) : (s.setIntake l).csc = s.csc := rfl
@[simp] theorem setIntake_pe (l : List Frame) : (s.setIntake l).pe = s.pe := rfl
@[simp] theorem setIntake_dc (l : List Frame) : (s.setIntake l).dc = s.dc := rfl
@[simp] theorem setIntake_ru (l : List Frame) : (s.setIntake l).ru = s.ru := rfl
@[simp] theorem setIntake_sc (l : List Frame) : (s.setIntake l).sc = s.sc := rfl
@[simp] theorem setIntake_sau (l : List Frame) : (s.setIntake l).sau = s.sau := rfl
@[simp] theorem setIntake_sp_cursorTable (l : List Frame) : (s.setIntake l).sp.cursorTable = s.sp.cursorTable := rfl
@[simp] theorem setIntake_sp_cursorIndex (l : List Frame) : (s.setIntake l).sp.cursorIndex = s.sp.cursorIndex := rfl
@[simp] theorem setIntake_sp_replies (l : List Frame) : (s.setIntake l).sp.replies = s.sp.replies := rfl
@[simp] theorem setIntake_sp_events (l : List Frame) : (s.setIntake l).sp.events = s.sp.events := rfl
@[simp] theorem setIntake_sp_overflow (l : List Frame) : (s.setIntake l).sp.overflow = s.sp.overflow := rfl
@[simp] theorem setIntake_sp_forwards (l : List Frame) : (s.setIntake l).sp.forwards = s.sp.forwards := rfl
@[simp] theorem setIntake_sp_seq (l : List Frame) : (s.setIntake l).sp.seq = s.sp.seq := rfl
@[simp] theorem setIntake_sp_cause (l : List Frame) : (s.setIntake l).sp.cause = s.sp.cause := rfl
@[simp] theorem setIntake_sp_tx (l : List Frame) : (s.setIntake l).sp.tx = s.sp.tx := rfl
@[simp] theorem setIntake_sp_restartWaiting (l : List Frame) : (s.setIntake l).sp.restartWaiting = s.sp.restartWaiting := rfl
@[simp] theorem setIntake_sp_rx (l : List Frame) : (s.setIntake l).sp.rx = s.sp.rx := rfl
@[simp] theorem setIntake_sp_intake (l : List Frame) : (s.setIntake l).sp.intake = l := rfl

@[simp] theorem setCsc_pending (c : Csc) : (s.setCsc c).pending = s.pending := rfl
@[simp] theorem setCsc_rm (c : Csc) : (s.setCsc c).rm = s.rm := rfl
@[simp] theorem setCsc_fc (c : Csc) : (s.setCsc c).fc = s.fc := rfl
@[simp] theorem setCsc_csu (c : Csc) : (s.setCsc c).csu = s.csu := rfl
@[simp] theorem setCsc_pe (c : Csc) : (s.setCsc c).pe = s.pe := rfl
@[simp] theorem setCsc_dc (c : Csc) : (s.setCsc c).dc = s.dc := rfl
@[simp] theorem setCsc_ru (c : Csc) : (s.setCsc c).ru = s.ru := rfl
@[simp] theorem setCsc_sc (c : Csc) : (s.setCsc c).sc = s.sc := rfl
@[simp] theorem setCsc_sau (c : Csc) : (s.setCsc c).sau = s.sau := rfl
@[simp] theorem setCsc_sp (c : Csc) : (s.setCsc c).sp = s.sp := rfl
@[simp] theorem setCsc_csc (c : Csc) : (s.setCsc c).csc = c := rfl

@[simp] theorem setCursor_pending (t : TableId) (i : Nat) : (s.setCursor t i).pending = s.pending := rfl
@[simp] theorem setCursor_rm (t : TableId) (i : Nat) : (s.setCursor t i).rm = s.rm := rfl
@[simp] theorem setCursor_fc (t : TableId) (i : Nat) : (s.setCursor t i).fc = s.fc := rfl
@[simp] theorem setCursor_csu (t : TableId) (i : Nat) : (s.setCursor t i).csu = s.csu := rfl
@[simp] theorem setCursor_csc (t : TableId) (i : Nat) : (s.setCursor t i).csc = s.csc := rfl
@[simp] theorem setCursor_pe (t : TableId) (i : Nat) : (s.setCursor t i).pe = s.pe := rfl
@[simp] theorem setCursor_dc (t : TableId) (i : Nat) : (s.setCursor t i).dc = s.dc := rfl
@[simp] theorem setCursor_ru (t : TableId) (i : Nat) : (s.setCursor t i).ru = s.ru := rfl
@[simp] theorem setCursor_sc (t : TableId) (i : Nat) : (s.setCursor t i).sc = s.sc := rfl
@[simp] theorem setCursor_sau (t : TableId) (i : Nat) : (s.setCursor t i).sau = s.sau := rfl
@[simp] theorem setCursor_sp_cursorTable (t : TableId) (i : Nat) : (s.setCursor t i).sp.cursorTable = t := rfl
@[simp] theorem setCursor_sp_cursorIndex (t : TableId) (i : Nat) : (s.setCursor t i).sp.cursorIndex = i := rfl
@[simp] theorem setCursor_sp_replies (t : TableId) (i : Nat) : (s.setCursor t i).sp.replies = s.sp.replies := rfl
@[simp] theorem setCursor_sp_events (t : TableId) (i : Nat) : (s.setCursor t i).sp.events = s.sp.events := rfl
@[simp] theorem setCursor_sp_overflow (t : TableId) (i : Nat) : (s.setCursor t i).sp.overflow = s.sp.overflow := rfl
@[simp] theorem setCursor_sp_forwards (t : TableId) (i : Nat) : (s.setCursor t i).sp.forwards = s.sp.forwards := rfl
@[simp] theorem setCursor_sp_seq (t : TableId) (i : Nat) : (s.setCursor t i).sp.seq = s.sp.seq := rfl
@[simp] theorem setCursor_sp_cause (t : TableId) (i : Nat) : (s.setCursor t i).sp.cause = s.sp.cause := rfl
@[simp] theorem setCursor_sp_tx (t : TableId) (i : Nat) : (s.setCursor t i).sp.tx = s.sp.tx := rfl
@[simp] theorem setCursor_sp_rx (t : TableId) (i : Nat) : (s.setCursor t i).sp.rx = s.sp.rx := rfl
@[simp] theorem setCursor_sp_intake (t : TableId) (i : Nat) : (s.setCursor t i).sp.intake = s.sp.intake := rfl
@[simp] theorem setCursor_sp_restartWaiting (t : TableId) (i : Nat) : (s.setCursor t i).sp.restartWaiting = s.sp.restartWaiting := rfl

@[simp] theorem markLoss_pending : (s.markLoss).pending = s.pending := rfl
@[simp] theorem markLoss_rm : (s.markLoss).rm = s.rm := rfl
@[simp] theorem markLoss_fc : (s.markLoss).fc = s.fc := rfl
@[simp] theorem markLoss_csu : (s.markLoss).csu = s.csu := rfl
@[simp] theorem markLoss_csc : (s.markLoss).csc = s.csc := rfl
@[simp] theorem markLoss_pe : (s.markLoss).pe = s.pe := rfl
@[simp] theorem markLoss_dc : (s.markLoss).dc = s.dc := rfl
@[simp] theorem markLoss_ru : (s.markLoss).ru = s.ru := rfl
@[simp] theorem markLoss_sc : (s.markLoss).sc = s.sc := rfl
@[simp] theorem markLoss_sau : (s.markLoss).sau = s.sau := rfl
@[simp] theorem markLoss_sp_cursorTable : (s.markLoss).sp.cursorTable = s.sp.cursorTable := rfl
@[simp] theorem markLoss_sp_cursorIndex : (s.markLoss).sp.cursorIndex = s.sp.cursorIndex := rfl
@[simp] theorem markLoss_sp_replies : (s.markLoss).sp.replies = s.sp.replies := rfl
@[simp] theorem markLoss_sp_events : (s.markLoss).sp.events = s.sp.events := rfl
@[simp] theorem markLoss_sp_overflow : (s.markLoss).sp.overflow = true := rfl
@[simp] theorem markLoss_sp_forwards : (s.markLoss).sp.forwards = s.sp.forwards := rfl
@[simp] theorem markLoss_sp_seq : (s.markLoss).sp.seq = s.sp.seq := rfl
@[simp] theorem markLoss_sp_cause : (s.markLoss).sp.cause = s.sp.cause := rfl
@[simp] theorem markLoss_sp_tx : (s.markLoss).sp.tx = s.sp.tx := rfl
@[simp] theorem markLoss_sp_rx : (s.markLoss).sp.rx = s.sp.rx := rfl
@[simp] theorem markLoss_sp_intake : (s.markLoss).sp.intake = s.sp.intake := rfl
@[simp] theorem markLoss_sp_restartWaiting : (s.markLoss).sp.restartWaiting = s.sp.restartWaiting := rfl

@[simp] theorem addReply_pending (q : BitVec 4) (b : ReplyBody) : (s.addReply q b).pending = s.pending := rfl
@[simp] theorem addReply_rm (q : BitVec 4) (b : ReplyBody) : (s.addReply q b).rm = s.rm := rfl
@[simp] theorem addReply_fc (q : BitVec 4) (b : ReplyBody) : (s.addReply q b).fc = s.fc := rfl
@[simp] theorem addReply_csu (q : BitVec 4) (b : ReplyBody) : (s.addReply q b).csu = s.csu := rfl
@[simp] theorem addReply_csc (q : BitVec 4) (b : ReplyBody) : (s.addReply q b).csc = s.csc := rfl
@[simp] theorem addReply_pe (q : BitVec 4) (b : ReplyBody) : (s.addReply q b).pe = s.pe := rfl
@[simp] theorem addReply_dc (q : BitVec 4) (b : ReplyBody) : (s.addReply q b).dc = s.dc := rfl
@[simp] theorem addReply_ru (q : BitVec 4) (b : ReplyBody) : (s.addReply q b).ru = s.ru := rfl
@[simp] theorem addReply_sc (q : BitVec 4) (b : ReplyBody) : (s.addReply q b).sc = s.sc := rfl
@[simp] theorem addReply_sau (q : BitVec 4) (b : ReplyBody) : (s.addReply q b).sau = s.sau := rfl
@[simp] theorem addReply_sp_cursorTable (q : BitVec 4) (b : ReplyBody) : (s.addReply q b).sp.cursorTable = s.sp.cursorTable := rfl
@[simp] theorem addReply_sp_cursorIndex (q : BitVec 4) (b : ReplyBody) : (s.addReply q b).sp.cursorIndex = s.sp.cursorIndex := rfl
@[simp] theorem addReply_sp_replies (q : BitVec 4) (b : ReplyBody) : (s.addReply q b).sp.replies = s.sp.replies ++ [{ seq := q, body := b }] := rfl
@[simp] theorem addReply_sp_events (q : BitVec 4) (b : ReplyBody) : (s.addReply q b).sp.events = s.sp.events := rfl
@[simp] theorem addReply_sp_overflow (q : BitVec 4) (b : ReplyBody) : (s.addReply q b).sp.overflow = s.sp.overflow := rfl
@[simp] theorem addReply_sp_forwards (q : BitVec 4) (b : ReplyBody) : (s.addReply q b).sp.forwards = s.sp.forwards := rfl
@[simp] theorem addReply_sp_seq (q : BitVec 4) (b : ReplyBody) : (s.addReply q b).sp.seq = s.sp.seq := rfl
@[simp] theorem addReply_sp_cause (q : BitVec 4) (b : ReplyBody) : (s.addReply q b).sp.cause = s.sp.cause := rfl
@[simp] theorem addReply_sp_tx (q : BitVec 4) (b : ReplyBody) : (s.addReply q b).sp.tx = s.sp.tx := rfl
@[simp] theorem addReply_sp_rx (q : BitVec 4) (b : ReplyBody) : (s.addReply q b).sp.rx = s.sp.rx := rfl
@[simp] theorem addReply_sp_intake (q : BitVec 4) (b : ReplyBody) : (s.addReply q b).sp.intake = s.sp.intake := rfl
@[simp] theorem addReply_sp_restartWaiting (q : BitVec 4) (b : ReplyBody) : (s.addReply q b).sp.restartWaiting = s.sp.restartWaiting := rfl

@[simp] theorem completeReply_pending (w : ReplyOwner) (r : ReplyCode) (l : List Byte) : (s.completeReply w r l).pending = s.pending := rfl
@[simp] theorem completeReply_rm (w : ReplyOwner) (r : ReplyCode) (l : List Byte) : (s.completeReply w r l).rm = s.rm := rfl
@[simp] theorem completeReply_fc (w : ReplyOwner) (r : ReplyCode) (l : List Byte) : (s.completeReply w r l).fc = s.fc := rfl
@[simp] theorem completeReply_csu (w : ReplyOwner) (r : ReplyCode) (l : List Byte) : (s.completeReply w r l).csu = s.csu := rfl
@[simp] theorem completeReply_csc (w : ReplyOwner) (r : ReplyCode) (l : List Byte) : (s.completeReply w r l).csc = s.csc := rfl
@[simp] theorem completeReply_pe (w : ReplyOwner) (r : ReplyCode) (l : List Byte) : (s.completeReply w r l).pe = s.pe := rfl
@[simp] theorem completeReply_dc (w : ReplyOwner) (r : ReplyCode) (l : List Byte) : (s.completeReply w r l).dc = s.dc := rfl
@[simp] theorem completeReply_ru (w : ReplyOwner) (r : ReplyCode) (l : List Byte) : (s.completeReply w r l).ru = s.ru := rfl
@[simp] theorem completeReply_sc (w : ReplyOwner) (r : ReplyCode) (l : List Byte) : (s.completeReply w r l).sc = s.sc := rfl
@[simp] theorem completeReply_sau (w : ReplyOwner) (r : ReplyCode) (l : List Byte) : (s.completeReply w r l).sau = s.sau := rfl
@[simp] theorem completeReply_sp_cursorTable (w : ReplyOwner) (r : ReplyCode) (l : List Byte) : (s.completeReply w r l).sp.cursorTable = s.sp.cursorTable := rfl
@[simp] theorem completeReply_sp_cursorIndex (w : ReplyOwner) (r : ReplyCode) (l : List Byte) : (s.completeReply w r l).sp.cursorIndex = s.sp.cursorIndex := rfl
@[simp] theorem completeReply_sp_replies (w : ReplyOwner) (r : ReplyCode) (l : List Byte) : (s.completeReply w r l).sp.replies = s.sp.replies.map (ReplyPlace.complete w r l) := rfl
@[simp] theorem completeReply_sp_events (w : ReplyOwner) (r : ReplyCode) (l : List Byte) : (s.completeReply w r l).sp.events = s.sp.events := rfl
@[simp] theorem completeReply_sp_overflow (w : ReplyOwner) (r : ReplyCode) (l : List Byte) : (s.completeReply w r l).sp.overflow = s.sp.overflow := rfl
@[simp] theorem completeReply_sp_forwards (w : ReplyOwner) (r : ReplyCode) (l : List Byte) : (s.completeReply w r l).sp.forwards = s.sp.forwards := rfl
@[simp] theorem completeReply_sp_seq (w : ReplyOwner) (r : ReplyCode) (l : List Byte) : (s.completeReply w r l).sp.seq = s.sp.seq := rfl
@[simp] theorem completeReply_sp_cause (w : ReplyOwner) (r : ReplyCode) (l : List Byte) : (s.completeReply w r l).sp.cause = s.sp.cause := rfl
@[simp] theorem completeReply_sp_tx (w : ReplyOwner) (r : ReplyCode) (l : List Byte) : (s.completeReply w r l).sp.tx = s.sp.tx := rfl
@[simp] theorem completeReply_sp_rx (w : ReplyOwner) (r : ReplyCode) (l : List Byte) : (s.completeReply w r l).sp.rx = s.sp.rx := rfl
@[simp] theorem completeReply_sp_intake (w : ReplyOwner) (r : ReplyCode) (l : List Byte) : (s.completeReply w r l).sp.intake = s.sp.intake := rfl
@[simp] theorem completeReply_sp_restartWaiting (w : ReplyOwner) (r : ReplyCode) (l : List Byte) : (s.completeReply w r l).sp.restartWaiting = s.sp.restartWaiting := rfl

/-! ## Lines -/

@[simp] theorem setLine_pending (l : InputLine) (x : Line) : (s.setLine l x).pending = s.pending := by
  cases l <;> rfl
@[simp] theorem setLine_rm (l : InputLine) (x : Line) : (s.setLine l x).rm = s.rm := by
  cases l <;> rfl
@[simp] theorem setLine_fc (l : InputLine) (x : Line) : (s.setLine l x).fc = s.fc := by
  cases l <;> rfl
@[simp] theorem setLine_csu (l : InputLine) (x : Line) : (s.setLine l x).csu = s.csu := by
  cases l <;> rfl
@[simp] theorem setLine_csc (l : InputLine) (x : Line) : (s.setLine l x).csc = s.csc := by
  cases l <;> rfl
@[simp] theorem setLine_pe (l : InputLine) (x : Line) : (s.setLine l x).pe = s.pe := by
  cases l <;> rfl
@[simp] theorem setLine_dc (l : InputLine) (x : Line) : (s.setLine l x).dc = s.dc := by
  cases l <;> rfl
@[simp] theorem setLine_ru (l : InputLine) (x : Line) : (s.setLine l x).ru = s.ru := by
  cases l <;> rfl
@[simp] theorem setLine_sc (l : InputLine) (x : Line) : (s.setLine l x).sc = s.sc := by
  cases l <;> rfl
@[simp] theorem setLine_sp (l : InputLine) (x : Line) : (s.setLine l x).sp = s.sp := by
  cases l <;> rfl
@[simp] theorem setLine_sau_table (l : InputLine) (x : Line) : (s.setLine l x).sau.table = s.sau.table := by
  cases l <;> rfl
@[simp] theorem setLine_sau_alarms (l : InputLine) (x : Line) : (s.setLine l x).sau.alarms = s.sau.alarms := by
  cases l <;> rfl
@[simp] theorem setLine_sau_nextNumber (l : InputLine) (x : Line) : (s.setLine l x).sau.nextNumber = s.sau.nextNumber := by
  cases l <;> rfl
@[simp] theorem setLine_sau_overflow (l : InputLine) (x : Line) : (s.setLine l x).sau.overflow = s.sau.overflow := by
  cases l <;> rfl
@[simp] theorem setLine_sau_lone (l : InputLine) (x : Line) : (s.setLine l x).sau.lone = s.sau.lone := by
  cases l <;> rfl
@[simp] theorem setLine_sau_tones (l : InputLine) (x : Line) : (s.setLine l x).sau.tones = s.sau.tones := by
  cases l <;> rfl

/-- A line is read back as written; the other lines keep theirs. -/
theorem line_setLine (l k : InputLine) (x : Line) : (s.setLine l x).line k = if k = l then x else s.line k := by
  cases l <;> cases k <;> simp [State.line, State.setLine, eq_comm]

end Sys2Proof.Machine
end

