-- ==== Sys2Proof/Laws/Blocks.lean ====
section
/-! SUPPORT. Which blocks an operation leaves alone: one lemma per operation and per block that it does not write. -/

namespace Sys2Proof.Machine

/-- A property of the state that every turn of a loop keeps, the loop keeps. -/
theorem foldl_keeps {α β : Type} (p : State → α) (f : State → β → State) (h : ∀ t x, p (f t x) = p t) (l : List β) (s : State) :
    p (l.foldl f s) = p s := by
  induction l generalizing s with
  | nil => rfl
  | cons x l ih => rw [List.foldl_cons, ih, h]

/-- A refusal changes nothing. -/
@[simp] theorem no_fst (s : State) (c : ReplyCode) : (s.no c).1 = s := rfl
@[simp] theorem no_snd (s : State) (c : ReplyCode) : (s.no c).2 = .now c [] := rfl
@[simp] theorem yes_fst (s : State) : s.yes.1 = s := rfl
@[simp] theorem yes_snd (s : State) : s.yes.2 = .now .accept [] := rfl


/-! ## Machine/Ops.lean -/

@[simp] theorem post_pending (s : State) (kind : EventKind) (door : Option DoorId) (zone : Option ZoneId) (channel : Option ChannelId) (subject : Option Subject) (reason : Option Nat) :
    (State.post s kind door zone channel subject reason).pending = s.pending := by
  simp [State.post]
@[simp] theorem post_rm (s : State) (kind : EventKind) (door : Option DoorId) (zone : Option ZoneId) (channel : Option ChannelId) (subject : Option Subject) (reason : Option Nat) :
    (State.post s kind door zone channel subject reason).rm = s.rm := by
  simp [State.post]
@[simp] theorem post_fc (s : State) (kind : EventKind) (door : Option DoorId) (zone : Option ZoneId) (channel : Option ChannelId) (subject : Option Subject) (reason : Option Nat) :
    (State.post s kind door zone channel subject reason).fc = s.fc := by
  simp [State.post]
@[simp] theorem post_csu (s : State) (kind : EventKind) (door : Option DoorId) (zone : Option ZoneId) (channel : Option ChannelId) (subject : Option Subject) (reason : Option Nat) :
    (State.post s kind door zone channel subject reason).csu = s.csu := by
  simp [State.post]
@[simp] theorem post_csc (s : State) (kind : EventKind) (door : Option DoorId) (zone : Option ZoneId) (channel : Option ChannelId) (subject : Option Subject) (reason : Option Nat) :
    (State.post s kind door zone channel subject reason).csc = s.csc := by
  simp [State.post]
@[simp] theorem post_pe (s : State) (kind : EventKind) (door : Option DoorId) (zone : Option ZoneId) (channel : Option ChannelId) (subject : Option Subject) (reason : Option Nat) :
    (State.post s kind door zone channel subject reason).pe = s.pe := by
  simp [State.post]
@[simp] theorem post_dc (s : State) (kind : EventKind) (door : Option DoorId) (zone : Option ZoneId) (channel : Option ChannelId) (subject : Option Subject) (reason : Option Nat) :
    (State.post s kind door zone channel subject reason).dc = s.dc := by
  simp [State.post]
@[simp] theorem post_ru (s : State) (kind : EventKind) (door : Option DoorId) (zone : Option ZoneId) (channel : Option ChannelId) (subject : Option Subject) (reason : Option Nat) :
    (State.post s kind door zone channel subject reason).ru = s.ru := by
  simp [State.post]
@[simp] theorem post_sc (s : State) (kind : EventKind) (door : Option DoorId) (zone : Option ZoneId) (channel : Option ChannelId) (subject : Option Subject) (reason : Option Nat) :
    (State.post s kind door zone channel subject reason).sc = s.sc := by
  simp [State.post]
@[simp] theorem post_sau (s : State) (kind : EventKind) (door : Option DoorId) (zone : Option ZoneId) (channel : Option ChannelId) (subject : Option Subject) (reason : Option Nat) :
    (State.post s kind door zone channel subject reason).sau = s.sau := by
  simp [State.post]
@[simp] theorem placeOriginated_pending (s : State) (f : Frame) :
    (State.placeOriginated s f).pending = s.pending := by
  unfold State.placeOriginated; dsimp only; (repeat' split) <;> simp
@[simp] theorem placeOriginated_fc (s : State) (f : Frame) :
    (State.placeOriginated s f).fc = s.fc := by
  unfold State.placeOriginated; dsimp only; (repeat' split) <;> simp
@[simp] theorem placeOriginated_csu (s : State) (f : Frame) :
    (State.placeOriginated s f).csu = s.csu := by
  unfold State.placeOriginated; dsimp only; (repeat' split) <;> simp
@[simp] theorem placeOriginated_csc (s : State) (f : Frame) :
    (State.placeOriginated s f).csc = s.csc := by
  unfold State.placeOriginated; dsimp only; (repeat' split) <;> simp
@[simp] theorem placeOriginated_pe (s : State) (f : Frame) :
    (State.placeOriginated s f).pe = s.pe := by
  unfold State.placeOriginated; dsimp only; (repeat' split) <;> simp
@[simp] theorem placeOriginated_dc (s : State) (f : Frame) :
    (State.placeOriginated s f).dc = s.dc := by
  unfold State.placeOriginated; dsimp only; (repeat' split) <;> simp
@[simp] theorem placeOriginated_ru (s : State) (f : Frame) :
    (State.placeOriginated s f).ru = s.ru := by
  unfold State.placeOriginated; dsimp only; (repeat' split) <;> simp
@[simp] theorem placeOriginated_sc (s : State) (f : Frame) :
    (State.placeOriginated s f).sc = s.sc := by
  unfold State.placeOriginated; dsimp only; (repeat' split) <;> simp
@[simp] theorem placeOriginated_sau (s : State) (f : Frame) :
    (State.placeOriginated s f).sau = s.sau := by
  unfold State.placeOriginated; dsimp only; (repeat' split) <;> simp
@[simp] theorem drive_pending (s : State) (dst : DevIx) (o : Output) :
    (State.drive s dst o).pending = s.pending := by
  unfold State.drive; split <;> simp
@[simp] theorem drive_fc (s : State) (dst : DevIx) (o : Output) :
    (State.drive s dst o).fc = s.fc := by
  unfold State.drive; split <;> simp
@[simp] theorem drive_csu (s : State) (dst : DevIx) (o : Output) :
    (State.drive s dst o).csu = s.csu := by
  unfold State.drive; split <;> simp
@[simp] theorem drive_csc (s : State) (dst : DevIx) (o : Output) :
    (State.drive s dst o).csc = s.csc := by
  unfold State.drive; split <;> simp
@[simp] theorem drive_pe (s : State) (dst : DevIx) (o : Output) :
    (State.drive s dst o).pe = s.pe := by
  unfold State.drive; split <;> simp
@[simp] theorem drive_dc (s : State) (dst : DevIx) (o : Output) :
    (State.drive s dst o).dc = s.dc := by
  unfold State.drive; split <;> simp
@[simp] theorem drive_ru (s : State) (dst : DevIx) (o : Output) :
    (State.drive s dst o).ru = s.ru := by
  unfold State.drive; split <;> simp
@[simp] theorem drive_sc (s : State) (dst : DevIx) (o : Output) :
    (State.drive s dst o).sc = s.sc := by
  unfold State.drive; split <;> simp
@[simp] theorem drive_sau (s : State) (dst : DevIx) (o : Output) :
    (State.drive s dst o).sau = s.sau := by
  unfold State.drive; split <;> simp
@[simp] theorem driveOpt_pending (s : State) (dst : Option DevIx) (o : Output) :
    (State.driveOpt s dst o).pending = s.pending := by
  unfold State.driveOpt; split <;> simp
@[simp] theorem driveOpt_fc (s : State) (dst : Option DevIx) (o : Output) :
    (State.driveOpt s dst o).fc = s.fc := by
  unfold State.driveOpt; split <;> simp
@[simp] theorem driveOpt_csu (s : State) (dst : Option DevIx) (o : Output) :
    (State.driveOpt s dst o).csu = s.csu := by
  unfold State.driveOpt; split <;> simp
@[simp] theorem driveOpt_csc (s : State) (dst : Option DevIx) (o : Output) :
    (State.driveOpt s dst o).csc = s.csc := by
  unfold State.driveOpt; split <;> simp
@[simp] theorem driveOpt_pe (s : State) (dst : Option DevIx) (o : Output) :
    (State.driveOpt s dst o).pe = s.pe := by
  unfold State.driveOpt; split <;> simp
@[simp] theorem driveOpt_dc (s : State) (dst : Option DevIx) (o : Output) :
    (State.driveOpt s dst o).dc = s.dc := by
  unfold State.driveOpt; split <;> simp
@[simp] theorem driveOpt_ru (s : State) (dst : Option DevIx) (o : Output) :
    (State.driveOpt s dst o).ru = s.ru := by
  unfold State.driveOpt; split <;> simp
@[simp] theorem driveOpt_sc (s : State) (dst : Option DevIx) (o : Output) :
    (State.driveOpt s dst o).sc = s.sc := by
  unfold State.driveOpt; split <;> simp
@[simp] theorem driveOpt_sau (s : State) (dst : Option DevIx) (o : Output) :
    (State.driveOpt s dst o).sau = s.sau := by
  unfold State.driveOpt; split <;> simp
@[simp] theorem display_pending (s : State) (reader : DevIx) (m : Message) :
    (State.display s reader m).pending = s.pending := by
  simp [State.display]
@[simp] theorem display_fc (s : State) (reader : DevIx) (m : Message) :
    (State.display s reader m).fc = s.fc := by
  simp [State.display]
@[simp] theorem display_csu (s : State) (reader : DevIx) (m : Message) :
    (State.display s reader m).csu = s.csu := by
  simp [State.display]
@[simp] theorem display_csc (s : State) (reader : DevIx) (m : Message) :
    (State.display s reader m).csc = s.csc := by
  simp [State.display]
@[simp] theorem display_pe (s : State) (reader : DevIx) (m : Message) :
    (State.display s reader m).pe = s.pe := by
  simp [State.display]
@[simp] theorem display_dc (s : State) (reader : DevIx) (m : Message) :
    (State.display s reader m).dc = s.dc := by
  simp [State.display]
@[simp] theorem display_ru (s : State) (reader : DevIx) (m : Message) :
    (State.display s reader m).ru = s.ru := by
  simp [State.display]
@[simp] theorem display_sc (s : State) (reader : DevIx) (m : Message) :
    (State.display s reader m).sc = s.sc := by
  simp [State.display]
@[simp] theorem display_sau (s : State) (reader : DevIx) (m : Message) :
    (State.display s reader m).sau = s.sau := by
  simp [State.display]
@[simp] theorem toneTo_pending (s : State) (p : DevRole → Bool) (t : Tone) :
    (State.toneTo s p t).pending = s.pending := by
  unfold State.toneTo; exact foldl_keeps State.pending _ (by intros; (repeat' split) <;> simp) _ _
@[simp] theorem toneTo_fc (s : State) (p : DevRole → Bool) (t : Tone) :
    (State.toneTo s p t).fc = s.fc := by
  unfold State.toneTo; exact foldl_keeps State.fc _ (by intros; (repeat' split) <;> simp) _ _
@[simp] theorem toneTo_csu (s : State) (p : DevRole → Bool) (t : Tone) :
    (State.toneTo s p t).csu = s.csu := by
  unfold State.toneTo; exact foldl_keeps State.csu _ (by intros; (repeat' split) <;> simp) _ _
@[simp] theorem toneTo_csc (s : State) (p : DevRole → Bool) (t : Tone) :
    (State.toneTo s p t).csc = s.csc := by
  unfold State.toneTo; exact foldl_keeps State.csc _ (by intros; (repeat' split) <;> simp) _ _
@[simp] theorem toneTo_pe (s : State) (p : DevRole → Bool) (t : Tone) :
    (State.toneTo s p t).pe = s.pe := by
  unfold State.toneTo; exact foldl_keeps State.pe _ (by intros; (repeat' split) <;> simp) _ _
@[simp] theorem toneTo_dc (s : State) (p : DevRole → Bool) (t : Tone) :
    (State.toneTo s p t).dc = s.dc := by
  unfold State.toneTo; exact foldl_keeps State.dc _ (by intros; (repeat' split) <;> simp) _ _
@[simp] theorem toneTo_ru (s : State) (p : DevRole → Bool) (t : Tone) :
    (State.toneTo s p t).ru = s.ru := by
  unfold State.toneTo; exact foldl_keeps State.ru _ (by intros; (repeat' split) <;> simp) _ _
@[simp] theorem toneTo_sc (s : State) (p : DevRole → Bool) (t : Tone) :
    (State.toneTo s p t).sc = s.sc := by
  unfold State.toneTo; exact foldl_keeps State.sc _ (by intros; (repeat' split) <;> simp) _ _
@[simp] theorem toneTo_sau (s : State) (p : DevRole → Bool) (t : Tone) :
    (State.toneTo s p t).sau = s.sau := by
  unfold State.toneTo; exact foldl_keeps State.sau _ (by intros; (repeat' split) <;> simp) _ _
@[simp] theorem forward_pending (s : State) (c : ForwardCopy) :
    (State.forward s c).pending = s.pending := by
  unfold State.forward; split <;> simp
@[simp] theorem forward_rm (s : State) (c : ForwardCopy) :
    (State.forward s c).rm = s.rm := by
  unfold State.forward; split <;> simp
@[simp] theorem forward_fc (s : State) (c : ForwardCopy) :
    (State.forward s c).fc = s.fc := by
  unfold State.forward; split <;> simp
@[simp] theorem forward_csu (s : State) (c : ForwardCopy) :
    (State.forward s c).csu = s.csu := by
  unfold State.forward; split <;> simp
@[simp] theorem forward_csc (s : State) (c : ForwardCopy) :
    (State.forward s c).csc = s.csc := by
  unfold State.forward; split <;> simp
@[simp] theorem forward_pe (s : State) (c : ForwardCopy) :
    (State.forward s c).pe = s.pe := by
  unfold State.forward; split <;> simp
@[simp] theorem forward_dc (s : State) (c : ForwardCopy) :
    (State.forward s c).dc = s.dc := by
  unfold State.forward; split <;> simp
@[simp] theorem forward_ru (s : State) (c : ForwardCopy) :
    (State.forward s c).ru = s.ru := by
  unfold State.forward; split <;> simp
@[simp] theorem forward_sc (s : State) (c : ForwardCopy) :
    (State.forward s c).sc = s.sc := by
  unfold State.forward; split <;> simp
@[simp] theorem forward_sau (s : State) (c : ForwardCopy) :
    (State.forward s c).sau = s.sau := by
  unfold State.forward; split <;> simp
@[simp] theorem takeLoop_pending (s : State) :
    (State.takeLoop s).pending = s.pending := by
  unfold State.takeLoop; (repeat' split) <;> simp
@[simp] theorem takeLoop_fc (s : State) :
    (State.takeLoop s).fc = s.fc := by
  unfold State.takeLoop; (repeat' split) <;> simp
@[simp] theorem takeLoop_csu (s : State) :
    (State.takeLoop s).csu = s.csu := by
  unfold State.takeLoop; (repeat' split) <;> simp
@[simp] theorem takeLoop_csc (s : State) :
    (State.takeLoop s).csc = s.csc := by
  unfold State.takeLoop; (repeat' split) <;> simp
@[simp] theorem takeLoop_pe (s : State) :
    (State.takeLoop s).pe = s.pe := by
  unfold State.takeLoop; (repeat' split) <;> simp
@[simp] theorem takeLoop_dc (s : State) :
    (State.takeLoop s).dc = s.dc := by
  unfold State.takeLoop; (repeat' split) <;> simp
@[simp] theorem takeLoop_ru (s : State) :
    (State.takeLoop s).ru = s.ru := by
  unfold State.takeLoop; (repeat' split) <;> simp
@[simp] theorem takeLoop_sc (s : State) :
    (State.takeLoop s).sc = s.sc := by
  unfold State.takeLoop; (repeat' split) <;> simp
@[simp] theorem takeLoop_sau (s : State) :
    (State.takeLoop s).sau = s.sau := by
  unfold State.takeLoop; (repeat' split) <;> simp
@[simp] theorem takeLoop_sp (s : State) :
    (State.takeLoop s).sp = s.sp := by
  unfold State.takeLoop; (repeat' split) <;> simp
@[simp] theorem settle_pending (s : State) :
    (State.settle s).pending = s.pending := by
  simp [State.settle]
@[simp] theorem settle_fc (s : State) :
    (State.settle s).fc = s.fc := by
  simp [State.settle]
@[simp] theorem settle_csu (s : State) :
    (State.settle s).csu = s.csu := by
  simp [State.settle]
@[simp] theorem settle_csc (s : State) :
    (State.settle s).csc = s.csc := by
  simp [State.settle]
@[simp] theorem settle_pe (s : State) :
    (State.settle s).pe = s.pe := by
  simp [State.settle]
@[simp] theorem settle_dc (s : State) :
    (State.settle s).dc = s.dc := by
  simp [State.settle]
@[simp] theorem settle_ru (s : State) :
    (State.settle s).ru = s.ru := by
  simp [State.settle]
@[simp] theorem settle_sc (s : State) :
    (State.settle s).sc = s.sc := by
  simp [State.settle]
@[simp] theorem settle_sau (s : State) :
    (State.settle s).sau = s.sau := by
  simp [State.settle]

/-! ## Machine/Bolt.lean -/

@[simp] theorem setBolt_pending (s : State) (d : DoorId) (b : Bolt) :
    (State.setBolt s d b).pending = s.pending := by
  simp [State.setBolt]
@[simp] theorem setBolt_rm (s : State) (d : DoorId) (b : Bolt) :
    (State.setBolt s d b).rm = s.rm := by
  simp [State.setBolt]
@[simp] theorem setBolt_fc (s : State) (d : DoorId) (b : Bolt) :
    (State.setBolt s d b).fc = s.fc := by
  simp [State.setBolt]
@[simp] theorem setBolt_csu (s : State) (d : DoorId) (b : Bolt) :
    (State.setBolt s d b).csu = s.csu := by
  simp [State.setBolt]
@[simp] theorem setBolt_csc (s : State) (d : DoorId) (b : Bolt) :
    (State.setBolt s d b).csc = s.csc := by
  simp [State.setBolt]
@[simp] theorem setBolt_pe (s : State) (d : DoorId) (b : Bolt) :
    (State.setBolt s d b).pe = s.pe := by
  simp [State.setBolt]
@[simp] theorem setBolt_ru (s : State) (d : DoorId) (b : Bolt) :
    (State.setBolt s d b).ru = s.ru := by
  simp [State.setBolt]
@[simp] theorem setBolt_sc (s : State) (d : DoorId) (b : Bolt) :
    (State.setBolt s d b).sc = s.sc := by
  simp [State.setBolt]
@[simp] theorem setBolt_sau (s : State) (d : DoorId) (b : Bolt) :
    (State.setBolt s d b).sau = s.sau := by
  simp [State.setBolt]
@[simp] theorem setBolt_sp (s : State) (d : DoorId) (b : Bolt) :
    (State.setBolt s d b).sp = s.sp := by
  simp [State.setBolt]
@[simp] theorem driveBolt_pending (s : State) (d : DoorId) (b : Bolt) :
    (State.driveBolt s d b).pending = s.pending := by
  simp [State.driveBolt]
@[simp] theorem driveBolt_fc (s : State) (d : DoorId) (b : Bolt) :
    (State.driveBolt s d b).fc = s.fc := by
  simp [State.driveBolt]
@[simp] theorem driveBolt_csu (s : State) (d : DoorId) (b : Bolt) :
    (State.driveBolt s d b).csu = s.csu := by
  simp [State.driveBolt]
@[simp] theorem driveBolt_csc (s : State) (d : DoorId) (b : Bolt) :
    (State.driveBolt s d b).csc = s.csc := by
  simp [State.driveBolt]
@[simp] theorem driveBolt_pe (s : State) (d : DoorId) (b : Bolt) :
    (State.driveBolt s d b).pe = s.pe := by
  simp [State.driveBolt]
@[simp] theorem driveBolt_ru (s : State) (d : DoorId) (b : Bolt) :
    (State.driveBolt s d b).ru = s.ru := by
  simp [State.driveBolt]
@[simp] theorem driveBolt_sc (s : State) (d : DoorId) (b : Bolt) :
    (State.driveBolt s d b).sc = s.sc := by
  simp [State.driveBolt]
@[simp] theorem driveBolt_sau (s : State) (d : DoorId) (b : Bolt) :
    (State.driveBolt s d b).sau = s.sau := by
  simp [State.driveBolt]
@[simp] theorem cancelSequence_pending (s : State) (d : DoorId) (r : CancelReason) :
    (State.cancelSequence s d r).pending = s.pending := by
  unfold State.cancelSequence; split <;> simp
@[simp] theorem cancelSequence_fc (s : State) (d : DoorId) (r : CancelReason) :
    (State.cancelSequence s d r).fc = s.fc := by
  unfold State.cancelSequence; split <;> simp
@[simp] theorem cancelSequence_csu (s : State) (d : DoorId) (r : CancelReason) :
    (State.cancelSequence s d r).csu = s.csu := by
  unfold State.cancelSequence; split <;> simp
@[simp] theorem cancelSequence_csc (s : State) (d : DoorId) (r : CancelReason) :
    (State.cancelSequence s d r).csc = s.csc := by
  unfold State.cancelSequence; split <;> simp
@[simp] theorem cancelSequence_pe (s : State) (d : DoorId) (r : CancelReason) :
    (State.cancelSequence s d r).pe = s.pe := by
  unfold State.cancelSequence; split <;> simp
@[simp] theorem cancelSequence_ru (s : State) (d : DoorId) (r : CancelReason) :
    (State.cancelSequence s d r).ru = s.ru := by
  unfold State.cancelSequence; split <;> simp
@[simp] theorem cancelSequence_sc (s : State) (d : DoorId) (r : CancelReason) :
    (State.cancelSequence s d r).sc = s.sc := by
  unfold State.cancelSequence; split <;> simp
@[simp] theorem cancelSequence_sau (s : State) (d : DoorId) (r : CancelReason) :
    (State.cancelSequence s d r).sau = s.sau := by
  unfold State.cancelSequence; split <;> simp
@[simp] theorem rebolt_pending (s : State) (d : DoorId) (r : CancelReason) :
    (State.rebolt s d r).pending = s.pending := by
  simp [State.rebolt]
@[simp] theorem rebolt_fc (s : State) (d : DoorId) (r : CancelReason) :
    (State.rebolt s d r).fc = s.fc := by
  simp [State.rebolt]
@[simp] theorem rebolt_csu (s : State) (d : DoorId) (r : CancelReason) :
    (State.rebolt s d r).csu = s.csu := by
  simp [State.rebolt]
@[simp] theorem rebolt_csc (s : State) (d : DoorId) (r : CancelReason) :
    (State.rebolt s d r).csc = s.csc := by
  simp [State.rebolt]
@[simp] theorem rebolt_pe (s : State) (d : DoorId) (r : CancelReason) :
    (State.rebolt s d r).pe = s.pe := by
  simp [State.rebolt]
@[simp] theorem rebolt_ru (s : State) (d : DoorId) (r : CancelReason) :
    (State.rebolt s d r).ru = s.ru := by
  simp [State.rebolt]
@[simp] theorem rebolt_sc (s : State) (d : DoorId) (r : CancelReason) :
    (State.rebolt s d r).sc = s.sc := by
  simp [State.rebolt]
@[simp] theorem rebolt_sau (s : State) (d : DoorId) (r : CancelReason) :
    (State.rebolt s d r).sau = s.sau := by
  simp [State.rebolt]
@[simp] theorem lockoutDoor_pending (z : ZoneId) (s : State) (d : DoorId) :
    (State.lockoutDoor z s d).pending = s.pending := by
  unfold State.lockoutDoor; dsimp only; (repeat' split) <;> simp
@[simp] theorem lockoutDoor_fc (z : ZoneId) (s : State) (d : DoorId) :
    (State.lockoutDoor z s d).fc = s.fc := by
  unfold State.lockoutDoor; dsimp only; (repeat' split) <;> simp
@[simp] theorem lockoutDoor_csu (z : ZoneId) (s : State) (d : DoorId) :
    (State.lockoutDoor z s d).csu = s.csu := by
  unfold State.lockoutDoor; dsimp only; (repeat' split) <;> simp
@[simp] theorem lockoutDoor_csc (z : ZoneId) (s : State) (d : DoorId) :
    (State.lockoutDoor z s d).csc = s.csc := by
  unfold State.lockoutDoor; dsimp only; (repeat' split) <;> simp
@[simp] theorem lockoutDoor_pe (z : ZoneId) (s : State) (d : DoorId) :
    (State.lockoutDoor z s d).pe = s.pe := by
  unfold State.lockoutDoor; dsimp only; (repeat' split) <;> simp
@[simp] theorem lockoutDoor_ru (z : ZoneId) (s : State) (d : DoorId) :
    (State.lockoutDoor z s d).ru = s.ru := by
  unfold State.lockoutDoor; dsimp only; (repeat' split) <;> simp
@[simp] theorem lockoutDoor_sc (z : ZoneId) (s : State) (d : DoorId) :
    (State.lockoutDoor z s d).sc = s.sc := by
  unfold State.lockoutDoor; dsimp only; (repeat' split) <;> simp
@[simp] theorem lockoutDoor_sau (z : ZoneId) (s : State) (d : DoorId) :
    (State.lockoutDoor z s d).sau = s.sau := by
  unfold State.lockoutDoor; dsimp only; (repeat' split) <;> simp
@[simp] theorem lockoutEntered_pending (s : State) (z : ZoneId) :
    (State.lockoutEntered s z).pending = s.pending := by
  unfold State.lockoutEntered; exact foldl_keeps State.pending _ (by intros; (repeat' split) <;> simp) _ _
@[simp] theorem lockoutEntered_fc (s : State) (z : ZoneId) :
    (State.lockoutEntered s z).fc = s.fc := by
  unfold State.lockoutEntered; exact foldl_keeps State.fc _ (by intros; (repeat' split) <;> simp) _ _
@[simp] theorem lockoutEntered_csu (s : State) (z : ZoneId) :
    (State.lockoutEntered s z).csu = s.csu := by
  unfold State.lockoutEntered; exact foldl_keeps State.csu _ (by intros; (repeat' split) <;> simp) _ _
@[simp] theorem lockoutEntered_csc (s : State) (z : ZoneId) :
    (State.lockoutEntered s z).csc = s.csc := by
  unfold State.lockoutEntered; exact foldl_keeps State.csc _ (by intros; (repeat' split) <;> simp) _ _
@[simp] theorem lockoutEntered_pe (s : State) (z : ZoneId) :
    (State.lockoutEntered s z).pe = s.pe := by
  unfold State.lockoutEntered; exact foldl_keeps State.pe _ (by intros; (repeat' split) <;> simp) _ _
@[simp] theorem lockoutEntered_ru (s : State) (z : ZoneId) :
    (State.lockoutEntered s z).ru = s.ru := by
  unfold State.lockoutEntered; exact foldl_keeps State.ru _ (by intros; (repeat' split) <;> simp) _ _
@[simp] theorem lockoutEntered_sc (s : State) (z : ZoneId) :
    (State.lockoutEntered s z).sc = s.sc := by
  unfold State.lockoutEntered; exact foldl_keeps State.sc _ (by intros; (repeat' split) <;> simp) _ _
@[simp] theorem lockoutEntered_sau (s : State) (z : ZoneId) :
    (State.lockoutEntered s z).sau = s.sau := by
  unfold State.lockoutEntered; exact foldl_keeps State.sau _ (by intros; (repeat' split) <;> simp) _ _

/-! ## Machine/Flags.lean -/

@[simp] theorem refreshMissing_pending (s : State) (c : ChannelId) :
    (State.refreshMissing s c).pending = s.pending := by
  simp [State.refreshMissing]
@[simp] theorem refreshMissing_rm (s : State) (c : ChannelId) :
    (State.refreshMissing s c).rm = s.rm := by
  simp [State.refreshMissing]
@[simp] theorem refreshMissing_fc (s : State) (c : ChannelId) :
    (State.refreshMissing s c).fc = s.fc := by
  simp [State.refreshMissing]
@[simp] theorem refreshMissing_csu (s : State) (c : ChannelId) :
    (State.refreshMissing s c).csu = s.csu := by
  simp [State.refreshMissing]
@[simp] theorem refreshMissing_csc (s : State) (c : ChannelId) :
    (State.refreshMissing s c).csc = s.csc := by
  simp [State.refreshMissing]
@[simp] theorem refreshMissing_pe (s : State) (c : ChannelId) :
    (State.refreshMissing s c).pe = s.pe := by
  simp [State.refreshMissing]
@[simp] theorem refreshMissing_dc (s : State) (c : ChannelId) :
    (State.refreshMissing s c).dc = s.dc := by
  simp [State.refreshMissing]
@[simp] theorem refreshMissing_ru (s : State) (c : ChannelId) :
    (State.refreshMissing s c).ru = s.ru := by
  simp [State.refreshMissing]
@[simp] theorem refreshMissing_sau (s : State) (c : ChannelId) :
    (State.refreshMissing s c).sau = s.sau := by
  simp [State.refreshMissing]
@[simp] theorem refreshMissing_sp (s : State) (c : ChannelId) :
    (State.refreshMissing s c).sp = s.sp := by
  simp [State.refreshMissing]

/-! ## Machine/Tones.lean -/

@[simp] theorem sauTone_pending (s : State) (z : ZoneId) (t : Tone) :
    (State.sauTone s z t).pending = s.pending := by
  unfold State.sauTone; split <;> simp
@[simp] theorem sauTone_fc (s : State) (z : ZoneId) (t : Tone) :
    (State.sauTone s z t).fc = s.fc := by
  unfold State.sauTone; split <;> simp
@[simp] theorem sauTone_csu (s : State) (z : ZoneId) (t : Tone) :
    (State.sauTone s z t).csu = s.csu := by
  unfold State.sauTone; split <;> simp
@[simp] theorem sauTone_csc (s : State) (z : ZoneId) (t : Tone) :
    (State.sauTone s z t).csc = s.csc := by
  unfold State.sauTone; split <;> simp
@[simp] theorem sauTone_pe (s : State) (z : ZoneId) (t : Tone) :
    (State.sauTone s z t).pe = s.pe := by
  unfold State.sauTone; split <;> simp
@[simp] theorem sauTone_dc (s : State) (z : ZoneId) (t : Tone) :
    (State.sauTone s z t).dc = s.dc := by
  unfold State.sauTone; split <;> simp
@[simp] theorem sauTone_ru (s : State) (z : ZoneId) (t : Tone) :
    (State.sauTone s z t).ru = s.ru := by
  unfold State.sauTone; split <;> simp
@[simp] theorem sauTone_sc (s : State) (z : ZoneId) (t : Tone) :
    (State.sauTone s z t).sc = s.sc := by
  unfold State.sauTone; split <;> simp
@[simp] theorem sauTone_sau (s : State) (z : ZoneId) (t : Tone) :
    (State.sauTone s z t).sau = s.sau := by
  unfold State.sauTone; split <;> simp
@[simp] theorem toneNotice_pending (s : State) (z : ZoneId) (pattern : Tone) :
    (State.toneNotice s z pattern).pending = s.pending := by
  unfold State.toneNotice; dsimp only; (repeat' split) <;> simp
@[simp] theorem toneNotice_fc (s : State) (z : ZoneId) (pattern : Tone) :
    (State.toneNotice s z pattern).fc = s.fc := by
  unfold State.toneNotice; dsimp only; (repeat' split) <;> simp
@[simp] theorem toneNotice_csu (s : State) (z : ZoneId) (pattern : Tone) :
    (State.toneNotice s z pattern).csu = s.csu := by
  unfold State.toneNotice; dsimp only; (repeat' split) <;> simp
@[simp] theorem toneNotice_csc (s : State) (z : ZoneId) (pattern : Tone) :
    (State.toneNotice s z pattern).csc = s.csc := by
  unfold State.toneNotice; dsimp only; (repeat' split) <;> simp
@[simp] theorem toneNotice_pe (s : State) (z : ZoneId) (pattern : Tone) :
    (State.toneNotice s z pattern).pe = s.pe := by
  unfold State.toneNotice; dsimp only; (repeat' split) <;> simp
@[simp] theorem toneNotice_dc (s : State) (z : ZoneId) (pattern : Tone) :
    (State.toneNotice s z pattern).dc = s.dc := by
  unfold State.toneNotice; dsimp only; (repeat' split) <;> simp
@[simp] theorem toneNotice_ru (s : State) (z : ZoneId) (pattern : Tone) :
    (State.toneNotice s z pattern).ru = s.ru := by
  unfold State.toneNotice; dsimp only; (repeat' split) <;> simp
@[simp] theorem toneNotice_sc (s : State) (z : ZoneId) (pattern : Tone) :
    (State.toneNotice s z pattern).sc = s.sc := by
  unfold State.toneNotice; dsimp only; (repeat' split) <;> simp

/-! ## Machine/Suppression.lean -/

@[simp] theorem postSc_pending (s : State) (kind : EventKind) (c : ChannelId) (reason : Option Nat) :
    (State.postSc s kind c reason).pending = s.pending := by
  simp [State.postSc]
@[simp] theorem postSc_rm (s : State) (kind : EventKind) (c : ChannelId) (reason : Option Nat) :
    (State.postSc s kind c reason).rm = s.rm := by
  simp [State.postSc]
@[simp] theorem postSc_fc (s : State) (kind : EventKind) (c : ChannelId) (reason : Option Nat) :
    (State.postSc s kind c reason).fc = s.fc := by
  simp [State.postSc]
@[simp] theorem postSc_csu (s : State) (kind : EventKind) (c : ChannelId) (reason : Option Nat) :
    (State.postSc s kind c reason).csu = s.csu := by
  simp [State.postSc]
@[simp] theorem postSc_csc (s : State) (kind : EventKind) (c : ChannelId) (reason : Option Nat) :
    (State.postSc s kind c reason).csc = s.csc := by
  simp [State.postSc]
@[simp] theorem postSc_pe (s : State) (kind : EventKind) (c : ChannelId) (reason : Option Nat) :
    (State.postSc s kind c reason).pe = s.pe := by
  simp [State.postSc]
@[simp] theorem postSc_dc (s : State) (kind : EventKind) (c : ChannelId) (reason : Option Nat) :
    (State.postSc s kind c reason).dc = s.dc := by
  simp [State.postSc]
@[simp] theorem postSc_ru (s : State) (kind : EventKind) (c : ChannelId) (reason : Option Nat) :
    (State.postSc s kind c reason).ru = s.ru := by
  simp [State.postSc]
@[simp] theorem postSc_sc (s : State) (kind : EventKind) (c : ChannelId) (reason : Option Nat) :
    (State.postSc s kind c reason).sc = s.sc := by
  simp [State.postSc]
@[simp] theorem postSc_sau (s : State) (kind : EventKind) (c : ChannelId) (reason : Option Nat) :
    (State.postSc s kind c reason).sau = s.sau := by
  simp [State.postSc]
@[simp] theorem sendTone_pending (s : State) (c : ChannelId) (t : Tone) :
    (State.sendTone s c t).pending = s.pending := by
  simp [State.sendTone]
@[simp] theorem sendTone_fc (s : State) (c : ChannelId) (t : Tone) :
    (State.sendTone s c t).fc = s.fc := by
  simp [State.sendTone]
@[simp] theorem sendTone_csu (s : State) (c : ChannelId) (t : Tone) :
    (State.sendTone s c t).csu = s.csu := by
  simp [State.sendTone]
@[simp] theorem sendTone_csc (s : State) (c : ChannelId) (t : Tone) :
    (State.sendTone s c t).csc = s.csc := by
  simp [State.sendTone]
@[simp] theorem sendTone_pe (s : State) (c : ChannelId) (t : Tone) :
    (State.sendTone s c t).pe = s.pe := by
  simp [State.sendTone]
@[simp] theorem sendTone_dc (s : State) (c : ChannelId) (t : Tone) :
    (State.sendTone s c t).dc = s.dc := by
  simp [State.sendTone]
@[simp] theorem sendTone_ru (s : State) (c : ChannelId) (t : Tone) :
    (State.sendTone s c t).ru = s.ru := by
  simp [State.sendTone]
@[simp] theorem sendTone_sc (s : State) (c : ChannelId) (t : Tone) :
    (State.sendTone s c t).sc = s.sc := by
  simp [State.sendTone]
@[simp] theorem sendTone_sau (s : State) (c : ChannelId) (t : Tone) :
    (State.sendTone s c t).sau = s.sau := by
  simp [State.sendTone]
@[simp] theorem notifyTone_pending (s : State) (c : ChannelId) (t : Tone) :
    (State.notifyTone s c t).pending = s.pending := by
  unfold State.notifyTone; split <;> simp
@[simp] theorem notifyTone_fc (s : State) (c : ChannelId) (t : Tone) :
    (State.notifyTone s c t).fc = s.fc := by
  unfold State.notifyTone; split <;> simp
@[simp] theorem notifyTone_csu (s : State) (c : ChannelId) (t : Tone) :
    (State.notifyTone s c t).csu = s.csu := by
  unfold State.notifyTone; split <;> simp
@[simp] theorem notifyTone_csc (s : State) (c : ChannelId) (t : Tone) :
    (State.notifyTone s c t).csc = s.csc := by
  unfold State.notifyTone; split <;> simp
@[simp] theorem notifyTone_pe (s : State) (c : ChannelId) (t : Tone) :
    (State.notifyTone s c t).pe = s.pe := by
  unfold State.notifyTone; split <;> simp
@[simp] theorem notifyTone_dc (s : State) (c : ChannelId) (t : Tone) :
    (State.notifyTone s c t).dc = s.dc := by
  unfold State.notifyTone; split <;> simp
@[simp] theorem notifyTone_ru (s : State) (c : ChannelId) (t : Tone) :
    (State.notifyTone s c t).ru = s.ru := by
  unfold State.notifyTone; split <;> simp
@[simp] theorem notifyTone_sc (s : State) (c : ChannelId) (t : Tone) :
    (State.notifyTone s c t).sc = s.sc := by
  unfold State.notifyTone; split <;> simp
@[simp] theorem restartRefresh_pending (s : State) (c : ChannelId) (t : Tone) :
    (State.restartRefresh s c t).pending = s.pending := by
  simp [State.restartRefresh]
@[simp] theorem restartRefresh_rm (s : State) (c : ChannelId) (t : Tone) :
    (State.restartRefresh s c t).rm = s.rm := by
  simp [State.restartRefresh]
@[simp] theorem restartRefresh_fc (s : State) (c : ChannelId) (t : Tone) :
    (State.restartRefresh s c t).fc = s.fc := by
  simp [State.restartRefresh]
@[simp] theorem restartRefresh_csu (s : State) (c : ChannelId) (t : Tone) :
    (State.restartRefresh s c t).csu = s.csu := by
  simp [State.restartRefresh]
@[simp] theorem restartRefresh_csc (s : State) (c : ChannelId) (t : Tone) :
    (State.restartRefresh s c t).csc = s.csc := by
  simp [State.restartRefresh]
@[simp] theorem restartRefresh_pe (s : State) (c : ChannelId) (t : Tone) :
    (State.restartRefresh s c t).pe = s.pe := by
  simp [State.restartRefresh]
@[simp] theorem restartRefresh_dc (s : State) (c : ChannelId) (t : Tone) :
    (State.restartRefresh s c t).dc = s.dc := by
  simp [State.restartRefresh]
@[simp] theorem restartRefresh_ru (s : State) (c : ChannelId) (t : Tone) :
    (State.restartRefresh s c t).ru = s.ru := by
  simp [State.restartRefresh]
@[simp] theorem restartRefresh_sau (s : State) (c : ChannelId) (t : Tone) :
    (State.restartRefresh s c t).sau = s.sau := by
  simp [State.restartRefresh]
@[simp] theorem restartRefresh_sp (s : State) (c : ChannelId) (t : Tone) :
    (State.restartRefresh s c t).sp = s.sp := by
  simp [State.restartRefresh]
@[simp] theorem changeTone_pending (s : State) (c : ChannelId) (old : Tone) :
    (State.changeTone s c old).pending = s.pending := by
  unfold State.changeTone; dsimp only; (repeat' split) <;> simp
@[simp] theorem changeTone_fc (s : State) (c : ChannelId) (old : Tone) :
    (State.changeTone s c old).fc = s.fc := by
  unfold State.changeTone; dsimp only; (repeat' split) <;> simp
@[simp] theorem changeTone_csu (s : State) (c : ChannelId) (old : Tone) :
    (State.changeTone s c old).csu = s.csu := by
  unfold State.changeTone; dsimp only; (repeat' split) <;> simp
@[simp] theorem changeTone_csc (s : State) (c : ChannelId) (old : Tone) :
    (State.changeTone s c old).csc = s.csc := by
  unfold State.changeTone; dsimp only; (repeat' split) <;> simp
@[simp] theorem changeTone_pe (s : State) (c : ChannelId) (old : Tone) :
    (State.changeTone s c old).pe = s.pe := by
  unfold State.changeTone; dsimp only; (repeat' split) <;> simp
@[simp] theorem changeTone_dc (s : State) (c : ChannelId) (old : Tone) :
    (State.changeTone s c old).dc = s.dc := by
  unfold State.changeTone; dsimp only; (repeat' split) <;> simp
@[simp] theorem changeTone_ru (s : State) (c : ChannelId) (old : Tone) :
    (State.changeTone s c old).ru = s.ru := by
  unfold State.changeTone; dsimp only; (repeat' split) <;> simp
@[simp] theorem toneOff_pending (s : State) (c : ChannelId) (old : Tone) :
    (State.toneOff s c old).pending = s.pending := by
  unfold State.toneOff; split <;> simp
@[simp] theorem toneOff_fc (s : State) (c : ChannelId) (old : Tone) :
    (State.toneOff s c old).fc = s.fc := by
  unfold State.toneOff; split <;> simp
@[simp] theorem toneOff_csu (s : State) (c : ChannelId) (old : Tone) :
    (State.toneOff s c old).csu = s.csu := by
  unfold State.toneOff; split <;> simp
@[simp] theorem toneOff_csc (s : State) (c : ChannelId) (old : Tone) :
    (State.toneOff s c old).csc = s.csc := by
  unfold State.toneOff; split <;> simp
@[simp] theorem toneOff_pe (s : State) (c : ChannelId) (old : Tone) :
    (State.toneOff s c old).pe = s.pe := by
  unfold State.toneOff; split <;> simp
@[simp] theorem toneOff_dc (s : State) (c : ChannelId) (old : Tone) :
    (State.toneOff s c old).dc = s.dc := by
  unfold State.toneOff; split <;> simp
@[simp] theorem toneOff_ru (s : State) (c : ChannelId) (old : Tone) :
    (State.toneOff s c old).ru = s.ru := by
  unfold State.toneOff; split <;> simp
@[simp] theorem postJoining_pending (s : State) (c : ChannelId) (new old : HoldSet) :
    (State.postJoining s c new old).pending = s.pending := by
  unfold State.postJoining; exact foldl_keeps State.pending _ (by intros; (repeat' split) <;> simp) _ _
@[simp] theorem postJoining_rm (s : State) (c : ChannelId) (new old : HoldSet) :
    (State.postJoining s c new old).rm = s.rm := by
  unfold State.postJoining; exact foldl_keeps State.rm _ (by intros; (repeat' split) <;> simp) _ _
@[simp] theorem postJoining_fc (s : State) (c : ChannelId) (new old : HoldSet) :
    (State.postJoining s c new old).fc = s.fc := by
  unfold State.postJoining; exact foldl_keeps State.fc _ (by intros; (repeat' split) <;> simp) _ _
@[simp] theorem postJoining_csu (s : State) (c : ChannelId) (new old : HoldSet) :
    (State.postJoining s c new old).csu = s.csu := by
  unfold State.postJoining; exact foldl_keeps State.csu _ (by intros; (repeat' split) <;> simp) _ _
@[simp] theorem postJoining_csc (s : State) (c : ChannelId) (new old : HoldSet) :
    (State.postJoining s c new old).csc = s.csc := by
  unfold State.postJoining; exact foldl_keeps State.csc _ (by intros; (repeat' split) <;> simp) _ _
@[simp] theorem postJoining_pe (s : State) (c : ChannelId) (new old : HoldSet) :
    (State.postJoining s c new old).pe = s.pe := by
  unfold State.postJoining; exact foldl_keeps State.pe _ (by intros; (repeat' split) <;> simp) _ _
@[simp] theorem postJoining_dc (s : State) (c : ChannelId) (new old : HoldSet) :
    (State.postJoining s c new old).dc = s.dc := by
  unfold State.postJoining; exact foldl_keeps State.dc _ (by intros; (repeat' split) <;> simp) _ _
@[simp] theorem postJoining_ru (s : State) (c : ChannelId) (new old : HoldSet) :
    (State.postJoining s c new old).ru = s.ru := by
  unfold State.postJoining; exact foldl_keeps State.ru _ (by intros; (repeat' split) <;> simp) _ _
@[simp] theorem postJoining_sc (s : State) (c : ChannelId) (new old : HoldSet) :
    (State.postJoining s c new old).sc = s.sc := by
  unfold State.postJoining; exact foldl_keeps State.sc _ (by intros; (repeat' split) <;> simp) _ _
@[simp] theorem postJoining_sau (s : State) (c : ChannelId) (new old : HoldSet) :
    (State.postJoining s c new old).sau = s.sau := by
  unfold State.postJoining; exact foldl_keeps State.sau _ (by intros; (repeat' split) <;> simp) _ _
@[simp] theorem holdCountdown_pending (s : State) (c : ChannelId) :
    (State.holdCountdown s c).pending = s.pending := by
  simp [State.holdCountdown]
@[simp] theorem holdCountdown_fc (s : State) (c : ChannelId) :
    (State.holdCountdown s c).fc = s.fc := by
  simp [State.holdCountdown]
@[simp] theorem holdCountdown_csu (s : State) (c : ChannelId) :
    (State.holdCountdown s c).csu = s.csu := by
  simp [State.holdCountdown]
@[simp] theorem holdCountdown_csc (s : State) (c : ChannelId) :
    (State.holdCountdown s c).csc = s.csc := by
  simp [State.holdCountdown]
@[simp] theorem holdCountdown_pe (s : State) (c : ChannelId) :
    (State.holdCountdown s c).pe = s.pe := by
  simp [State.holdCountdown]
@[simp] theorem holdCountdown_dc (s : State) (c : ChannelId) :
    (State.holdCountdown s c).dc = s.dc := by
  simp [State.holdCountdown]
@[simp] theorem holdCountdown_ru (s : State) (c : ChannelId) :
    (State.holdCountdown s c).ru = s.ru := by
  simp [State.holdCountdown]
@[simp] theorem resumeCountdown_pending (s : State) (c : ChannelId) :
    (State.resumeCountdown s c).pending = s.pending := by
  simp [State.resumeCountdown]
@[simp] theorem resumeCountdown_fc (s : State) (c : ChannelId) :
    (State.resumeCountdown s c).fc = s.fc := by
  simp [State.resumeCountdown]
@[simp] theorem resumeCountdown_csu (s : State) (c : ChannelId) :
    (State.resumeCountdown s c).csu = s.csu := by
  simp [State.resumeCountdown]
@[simp] theorem resumeCountdown_csc (s : State) (c : ChannelId) :
    (State.resumeCountdown s c).csc = s.csc := by
  simp [State.resumeCountdown]
@[simp] theorem resumeCountdown_pe (s : State) (c : ChannelId) :
    (State.resumeCountdown s c).pe = s.pe := by
  simp [State.resumeCountdown]
@[simp] theorem resumeCountdown_dc (s : State) (c : ChannelId) :
    (State.resumeCountdown s c).dc = s.dc := by
  simp [State.resumeCountdown]
@[simp] theorem resumeCountdown_ru (s : State) (c : ChannelId) :
    (State.resumeCountdown s c).ru = s.ru := by
  simp [State.resumeCountdown]
@[simp] theorem recompute_pending (s : State) (c : ChannelId) :
    (State.recompute s c).pending = s.pending := by
  unfold State.recompute; dsimp only; (repeat' split) <;> simp
@[simp] theorem recompute_fc (s : State) (c : ChannelId) :
    (State.recompute s c).fc = s.fc := by
  unfold State.recompute; dsimp only; (repeat' split) <;> simp
@[simp] theorem recompute_csu (s : State) (c : ChannelId) :
    (State.recompute s c).csu = s.csu := by
  unfold State.recompute; dsimp only; (repeat' split) <;> simp
@[simp] theorem recompute_csc (s : State) (c : ChannelId) :
    (State.recompute s c).csc = s.csc := by
  unfold State.recompute; dsimp only; (repeat' split) <;> simp
@[simp] theorem recompute_pe (s : State) (c : ChannelId) :
    (State.recompute s c).pe = s.pe := by
  unfold State.recompute; dsimp only; (repeat' split) <;> simp
@[simp] theorem recompute_dc (s : State) (c : ChannelId) :
    (State.recompute s c).dc = s.dc := by
  unfold State.recompute; dsimp only; (repeat' split) <;> simp
@[simp] theorem recompute_ru (s : State) (c : ChannelId) :
    (State.recompute s c).ru = s.ru := by
  unfold State.recompute; dsimp only; (repeat' split) <;> simp
@[simp] theorem recomputeZone_pending (s : State) (z : ZoneId) :
    (State.recomputeZone s z).pending = s.pending := by
  unfold State.recomputeZone; split <;> simp
@[simp] theorem recomputeZone_fc (s : State) (z : ZoneId) :
    (State.recomputeZone s z).fc = s.fc := by
  unfold State.recomputeZone; split <;> simp
@[simp] theorem recomputeZone_csu (s : State) (z : ZoneId) :
    (State.recomputeZone s z).csu = s.csu := by
  unfold State.recomputeZone; split <;> simp
@[simp] theorem recomputeZone_csc (s : State) (z : ZoneId) :
    (State.recomputeZone s z).csc = s.csc := by
  unfold State.recomputeZone; split <;> simp
@[simp] theorem recomputeZone_pe (s : State) (z : ZoneId) :
    (State.recomputeZone s z).pe = s.pe := by
  unfold State.recomputeZone; split <;> simp
@[simp] theorem recomputeZone_dc (s : State) (z : ZoneId) :
    (State.recomputeZone s z).dc = s.dc := by
  unfold State.recomputeZone; split <;> simp
@[simp] theorem recomputeZone_ru (s : State) (z : ZoneId) :
    (State.recomputeZone s z).ru = s.ru := by
  unfold State.recomputeZone; split <;> simp
@[simp] theorem recomputeZones_pending (s : State) (p : ZoneId → Bool) :
    (State.recomputeZones s p).pending = s.pending := by
  unfold State.recomputeZones; exact foldl_keeps State.pending _ (by intros; (repeat' split) <;> simp) _ _
@[simp] theorem recomputeZones_fc (s : State) (p : ZoneId → Bool) :
    (State.recomputeZones s p).fc = s.fc := by
  unfold State.recomputeZones; exact foldl_keeps State.fc _ (by intros; (repeat' split) <;> simp) _ _
@[simp] theorem recomputeZones_csu (s : State) (p : ZoneId → Bool) :
    (State.recomputeZones s p).csu = s.csu := by
  unfold State.recomputeZones; exact foldl_keeps State.csu _ (by intros; (repeat' split) <;> simp) _ _
@[simp] theorem recomputeZones_csc (s : State) (p : ZoneId → Bool) :
    (State.recomputeZones s p).csc = s.csc := by
  unfold State.recomputeZones; exact foldl_keeps State.csc _ (by intros; (repeat' split) <;> simp) _ _
@[simp] theorem recomputeZones_pe (s : State) (p : ZoneId → Bool) :
    (State.recomputeZones s p).pe = s.pe := by
  unfold State.recomputeZones; exact foldl_keeps State.pe _ (by intros; (repeat' split) <;> simp) _ _
@[simp] theorem recomputeZones_dc (s : State) (p : ZoneId → Bool) :
    (State.recomputeZones s p).dc = s.dc := by
  unfold State.recomputeZones; exact foldl_keeps State.dc _ (by intros; (repeat' split) <;> simp) _ _
@[simp] theorem recomputeZones_ru (s : State) (p : ZoneId → Bool) :
    (State.recomputeZones s p).ru = s.ru := by
  unfold State.recomputeZones; exact foldl_keeps State.ru _ (by intros; (repeat' split) <;> simp) _ _
@[simp] theorem notifyLockout_pending (s : State) (c : ChannelId) :
    (State.notifyLockout s c).pending = s.pending := by
  unfold State.notifyLockout; split <;> simp
@[simp] theorem notifyLockout_fc (s : State) (c : ChannelId) :
    (State.notifyLockout s c).fc = s.fc := by
  unfold State.notifyLockout; split <;> simp
@[simp] theorem notifyLockout_csu (s : State) (c : ChannelId) :
    (State.notifyLockout s c).csu = s.csu := by
  unfold State.notifyLockout; split <;> simp
@[simp] theorem notifyLockout_csc (s : State) (c : ChannelId) :
    (State.notifyLockout s c).csc = s.csc := by
  unfold State.notifyLockout; split <;> simp
@[simp] theorem notifyLockout_pe (s : State) (c : ChannelId) :
    (State.notifyLockout s c).pe = s.pe := by
  unfold State.notifyLockout; split <;> simp
@[simp] theorem notifyLockout_ru (s : State) (c : ChannelId) :
    (State.notifyLockout s c).ru = s.ru := by
  unfold State.notifyLockout; split <;> simp
@[simp] theorem notifyLockout_sc (s : State) (c : ChannelId) :
    (State.notifyLockout s c).sc = s.sc := by
  unfold State.notifyLockout; split <;> simp
@[simp] theorem notifyLockout_sau (s : State) (c : ChannelId) :
    (State.notifyLockout s c).sau = s.sau := by
  unfold State.notifyLockout; split <;> simp
@[simp] theorem startCountdown_pending (s : State) (c : ChannelId) :
    (State.startCountdown s c).pending = s.pending := by
  unfold State.startCountdown; dsimp only; (repeat' split) <;> simp
@[simp] theorem startCountdown_fc (s : State) (c : ChannelId) :
    (State.startCountdown s c).fc = s.fc := by
  unfold State.startCountdown; dsimp only; (repeat' split) <;> simp
@[simp] theorem startCountdown_csu (s : State) (c : ChannelId) :
    (State.startCountdown s c).csu = s.csu := by
  unfold State.startCountdown; dsimp only; (repeat' split) <;> simp
@[simp] theorem startCountdown_csc (s : State) (c : ChannelId) :
    (State.startCountdown s c).csc = s.csc := by
  unfold State.startCountdown; dsimp only; (repeat' split) <;> simp
@[simp] theorem startCountdown_pe (s : State) (c : ChannelId) :
    (State.startCountdown s c).pe = s.pe := by
  unfold State.startCountdown; dsimp only; (repeat' split) <;> simp
@[simp] theorem startCountdown_ru (s : State) (c : ChannelId) :
    (State.startCountdown s c).ru = s.ru := by
  unfold State.startCountdown; dsimp only; (repeat' split) <;> simp
@[simp] theorem firstAlarm_pending (s : State) (c : ChannelId) (g : Group) :
    (State.firstAlarm s c g).pending = s.pending := by
  simp [State.firstAlarm]
@[simp] theorem firstAlarm_fc (s : State) (c : ChannelId) (g : Group) :
    (State.firstAlarm s c g).fc = s.fc := by
  simp [State.firstAlarm]
@[simp] theorem firstAlarm_csu (s : State) (c : ChannelId) (g : Group) :
    (State.firstAlarm s c g).csu = s.csu := by
  simp [State.firstAlarm]
@[simp] theorem firstAlarm_csc (s : State) (c : ChannelId) (g : Group) :
    (State.firstAlarm s c g).csc = s.csc := by
  simp [State.firstAlarm]
@[simp] theorem firstAlarm_pe (s : State) (c : ChannelId) (g : Group) :
    (State.firstAlarm s c g).pe = s.pe := by
  simp [State.firstAlarm]
@[simp] theorem firstAlarm_ru (s : State) (c : ChannelId) (g : Group) :
    (State.firstAlarm s c g).ru = s.ru := by
  simp [State.firstAlarm]
@[simp] theorem firstAlarm_sau (s : State) (c : ChannelId) (g : Group) :
    (State.firstAlarm s c g).sau = s.sau := by
  simp [State.firstAlarm]
@[simp] theorem offerLatch_pending (s : State) (c : ChannelId) (g : Group) :
    (State.offerLatch s c g).pending = s.pending := by
  unfold State.offerLatch; dsimp only; (repeat' split) <;> simp
@[simp] theorem offerLatch_fc (s : State) (c : ChannelId) (g : Group) :
    (State.offerLatch s c g).fc = s.fc := by
  unfold State.offerLatch; dsimp only; (repeat' split) <;> simp
@[simp] theorem offerLatch_csu (s : State) (c : ChannelId) (g : Group) :
    (State.offerLatch s c g).csu = s.csu := by
  unfold State.offerLatch; dsimp only; (repeat' split) <;> simp
@[simp] theorem offerLatch_csc (s : State) (c : ChannelId) (g : Group) :
    (State.offerLatch s c g).csc = s.csc := by
  unfold State.offerLatch; dsimp only; (repeat' split) <;> simp
@[simp] theorem offerLatch_pe (s : State) (c : ChannelId) (g : Group) :
    (State.offerLatch s c g).pe = s.pe := by
  unfold State.offerLatch; dsimp only; (repeat' split) <;> simp
@[simp] theorem offerLatch_ru (s : State) (c : ChannelId) (g : Group) :
    (State.offerLatch s c g).ru = s.ru := by
  unfold State.offerLatch; dsimp only; (repeat' split) <;> simp
@[simp] theorem detectorReport_pending (s : State) (d : DevIx) (c : ChannelId) (g : Group) (level : DetectorLevel) :
    (State.detectorReport s d c g level).pending = s.pending := by
  unfold State.detectorReport; dsimp only; (repeat' split) <;> simp
@[simp] theorem detectorReport_fc (s : State) (d : DevIx) (c : ChannelId) (g : Group) (level : DetectorLevel) :
    (State.detectorReport s d c g level).fc = s.fc := by
  unfold State.detectorReport; dsimp only; (repeat' split) <;> simp
@[simp] theorem detectorReport_csu (s : State) (d : DevIx) (c : ChannelId) (g : Group) (level : DetectorLevel) :
    (State.detectorReport s d c g level).csu = s.csu := by
  unfold State.detectorReport; dsimp only; (repeat' split) <;> simp
@[simp] theorem detectorReport_csc (s : State) (d : DevIx) (c : ChannelId) (g : Group) (level : DetectorLevel) :
    (State.detectorReport s d c g level).csc = s.csc := by
  unfold State.detectorReport; dsimp only; (repeat' split) <;> simp
@[simp] theorem detectorReport_pe (s : State) (d : DevIx) (c : ChannelId) (g : Group) (level : DetectorLevel) :
    (State.detectorReport s d c g level).pe = s.pe := by
  unfold State.detectorReport; dsimp only; (repeat' split) <;> simp
@[simp] theorem detectorReport_ru (s : State) (d : DevIx) (c : ChannelId) (g : Group) (level : DetectorLevel) :
    (State.detectorReport s d c g level).ru = s.ru := by
  unfold State.detectorReport; dsimp only; (repeat' split) <;> simp
@[simp] theorem manualRelease_pending (s : State) (c : ChannelId) (source : Option DevIx) :
    (State.manualRelease s c source).pending = s.pending := by
  unfold State.manualRelease; dsimp only; (repeat' split) <;> simp
@[simp] theorem manualRelease_fc (s : State) (c : ChannelId) (source : Option DevIx) :
    (State.manualRelease s c source).fc = s.fc := by
  unfold State.manualRelease; dsimp only; (repeat' split) <;> simp
@[simp] theorem manualRelease_csu (s : State) (c : ChannelId) (source : Option DevIx) :
    (State.manualRelease s c source).csu = s.csu := by
  unfold State.manualRelease; dsimp only; (repeat' split) <;> simp
@[simp] theorem manualRelease_csc (s : State) (c : ChannelId) (source : Option DevIx) :
    (State.manualRelease s c source).csc = s.csc := by
  unfold State.manualRelease; dsimp only; (repeat' split) <;> simp
@[simp] theorem manualRelease_pe (s : State) (c : ChannelId) (source : Option DevIx) :
    (State.manualRelease s c source).pe = s.pe := by
  unfold State.manualRelease; dsimp only; (repeat' split) <;> simp
@[simp] theorem manualRelease_ru (s : State) (c : ChannelId) (source : Option DevIx) :
    (State.manualRelease s c source).ru = s.ru := by
  unfold State.manualRelease; dsimp only; (repeat' split) <;> simp
@[simp] theorem releaseStationReport_pending (s : State) (d : DevIx) (c : ChannelId) (operated : Bool) :
    (State.releaseStationReport s d c operated).pending = s.pending := by
  unfold State.releaseStationReport; dsimp only; (repeat' split) <;> simp
@[simp] theorem releaseStationReport_fc (s : State) (d : DevIx) (c : ChannelId) (operated : Bool) :
    (State.releaseStationReport s d c operated).fc = s.fc := by
  unfold State.releaseStationReport; dsimp only; (repeat' split) <;> simp
@[simp] theorem releaseStationReport_csu (s : State) (d : DevIx) (c : ChannelId) (operated : Bool) :
    (State.releaseStationReport s d c operated).csu = s.csu := by
  unfold State.releaseStationReport; dsimp only; (repeat' split) <;> simp
@[simp] theorem releaseStationReport_csc (s : State) (d : DevIx) (c : ChannelId) (operated : Bool) :
    (State.releaseStationReport s d c operated).csc = s.csc := by
  unfold State.releaseStationReport; dsimp only; (repeat' split) <;> simp
@[simp] theorem releaseStationReport_pe (s : State) (d : DevIx) (c : ChannelId) (operated : Bool) :
    (State.releaseStationReport s d c operated).pe = s.pe := by
  unfold State.releaseStationReport; dsimp only; (repeat' split) <;> simp
@[simp] theorem releaseStationReport_ru (s : State) (d : DevIx) (c : ChannelId) (operated : Bool) :
    (State.releaseStationReport s d c operated).ru = s.ru := by
  unfold State.releaseStationReport; dsimp only; (repeat' split) <;> simp
@[simp] theorem setAbortStation_pending (s : State) (d : DevIx) (c : ChannelId) (held : Bool) :
    (State.setAbortStation s d c held).pending = s.pending := by
  simp [State.setAbortStation]
@[simp] theorem setAbortStation_fc (s : State) (d : DevIx) (c : ChannelId) (held : Bool) :
    (State.setAbortStation s d c held).fc = s.fc := by
  simp [State.setAbortStation]
@[simp] theorem setAbortStation_csu (s : State) (d : DevIx) (c : ChannelId) (held : Bool) :
    (State.setAbortStation s d c held).csu = s.csu := by
  simp [State.setAbortStation]
@[simp] theorem setAbortStation_csc (s : State) (d : DevIx) (c : ChannelId) (held : Bool) :
    (State.setAbortStation s d c held).csc = s.csc := by
  simp [State.setAbortStation]
@[simp] theorem setAbortStation_pe (s : State) (d : DevIx) (c : ChannelId) (held : Bool) :
    (State.setAbortStation s d c held).pe = s.pe := by
  simp [State.setAbortStation]
@[simp] theorem setAbortStation_dc (s : State) (d : DevIx) (c : ChannelId) (held : Bool) :
    (State.setAbortStation s d c held).dc = s.dc := by
  simp [State.setAbortStation]
@[simp] theorem setAbortStation_ru (s : State) (d : DevIx) (c : ChannelId) (held : Bool) :
    (State.setAbortStation s d c held).ru = s.ru := by
  simp [State.setAbortStation]
@[simp] theorem confirmRelease_pending (s : State) (c : ChannelId) (late : Bool) :
    (State.confirmRelease s c late).pending = s.pending := by
  simp [State.confirmRelease]
@[simp] theorem confirmRelease_rm (s : State) (c : ChannelId) (late : Bool) :
    (State.confirmRelease s c late).rm = s.rm := by
  simp [State.confirmRelease]
@[simp] theorem confirmRelease_fc (s : State) (c : ChannelId) (late : Bool) :
    (State.confirmRelease s c late).fc = s.fc := by
  simp [State.confirmRelease]
@[simp] theorem confirmRelease_csu (s : State) (c : ChannelId) (late : Bool) :
    (State.confirmRelease s c late).csu = s.csu := by
  simp [State.confirmRelease]
@[simp] theorem confirmRelease_csc (s : State) (c : ChannelId) (late : Bool) :
    (State.confirmRelease s c late).csc = s.csc := by
  simp [State.confirmRelease]
@[simp] theorem confirmRelease_pe (s : State) (c : ChannelId) (late : Bool) :
    (State.confirmRelease s c late).pe = s.pe := by
  simp [State.confirmRelease]
@[simp] theorem confirmRelease_dc (s : State) (c : ChannelId) (late : Bool) :
    (State.confirmRelease s c late).dc = s.dc := by
  simp [State.confirmRelease]
@[simp] theorem confirmRelease_ru (s : State) (c : ChannelId) (late : Bool) :
    (State.confirmRelease s c late).ru = s.ru := by
  simp [State.confirmRelease]
@[simp] theorem confirmRelease_sau (s : State) (c : ChannelId) (late : Bool) :
    (State.confirmRelease s c late).sau = s.sau := by
  simp [State.confirmRelease]
@[simp] theorem failConfirm_pending (s : State) (c : ChannelId) :
    (State.failConfirm s c).pending = s.pending := by
  simp [State.failConfirm]
@[simp] theorem failConfirm_rm (s : State) (c : ChannelId) :
    (State.failConfirm s c).rm = s.rm := by
  simp [State.failConfirm]
@[simp] theorem failConfirm_fc (s : State) (c : ChannelId) :
    (State.failConfirm s c).fc = s.fc := by
  simp [State.failConfirm]
@[simp] theorem failConfirm_csu (s : State) (c : ChannelId) :
    (State.failConfirm s c).csu = s.csu := by
  simp [State.failConfirm]
@[simp] theorem failConfirm_csc (s : State) (c : ChannelId) :
    (State.failConfirm s c).csc = s.csc := by
  simp [State.failConfirm]
@[simp] theorem failConfirm_pe (s : State) (c : ChannelId) :
    (State.failConfirm s c).pe = s.pe := by
  simp [State.failConfirm]
@[simp] theorem failConfirm_dc (s : State) (c : ChannelId) :
    (State.failConfirm s c).dc = s.dc := by
  simp [State.failConfirm]
@[simp] theorem failConfirm_ru (s : State) (c : ChannelId) :
    (State.failConfirm s c).ru = s.ru := by
  simp [State.failConfirm]
@[simp] theorem failConfirm_sau (s : State) (c : ChannelId) :
    (State.failConfirm s c).sau = s.sau := by
  simp [State.failConfirm]
@[simp] theorem release_pending (s : State) (c : ChannelId) :
    (State.release s c).pending = s.pending := by
  unfold State.release; dsimp only; (repeat' split) <;> simp
@[simp] theorem release_fc (s : State) (c : ChannelId) :
    (State.release s c).fc = s.fc := by
  unfold State.release; dsimp only; (repeat' split) <;> simp
@[simp] theorem release_csu (s : State) (c : ChannelId) :
    (State.release s c).csu = s.csu := by
  unfold State.release; dsimp only; (repeat' split) <;> simp
@[simp] theorem release_csc (s : State) (c : ChannelId) :
    (State.release s c).csc = s.csc := by
  unfold State.release; dsimp only; (repeat' split) <;> simp
@[simp] theorem release_pe (s : State) (c : ChannelId) :
    (State.release s c).pe = s.pe := by
  unfold State.release; dsimp only; (repeat' split) <;> simp
@[simp] theorem release_dc (s : State) (c : ChannelId) :
    (State.release s c).dc = s.dc := by
  unfold State.release; dsimp only; (repeat' split) <;> simp
@[simp] theorem release_ru (s : State) (c : ChannelId) :
    (State.release s c).ru = s.ru := by
  unfold State.release; dsimp only; (repeat' split) <;> simp
@[simp] theorem valveNotice_pending (s : State) (c : ChannelId) (active : Bool) :
    (State.valveNotice s c active).pending = s.pending := by
  unfold State.valveNotice; dsimp only; (repeat' split) <;> simp
@[simp] theorem valveNotice_rm (s : State) (c : ChannelId) (active : Bool) :
    (State.valveNotice s c active).rm = s.rm := by
  unfold State.valveNotice; dsimp only; (repeat' split) <;> simp
@[simp] theorem valveNotice_fc (s : State) (c : ChannelId) (active : Bool) :
    (State.valveNotice s c active).fc = s.fc := by
  unfold State.valveNotice; dsimp only; (repeat' split) <;> simp
@[simp] theorem valveNotice_csu (s : State) (c : ChannelId) (active : Bool) :
    (State.valveNotice s c active).csu = s.csu := by
  unfold State.valveNotice; dsimp only; (repeat' split) <;> simp
@[simp] theorem valveNotice_csc (s : State) (c : ChannelId) (active : Bool) :
    (State.valveNotice s c active).csc = s.csc := by
  unfold State.valveNotice; dsimp only; (repeat' split) <;> simp
@[simp] theorem valveNotice_pe (s : State) (c : ChannelId) (active : Bool) :
    (State.valveNotice s c active).pe = s.pe := by
  unfold State.valveNotice; dsimp only; (repeat' split) <;> simp
@[simp] theorem valveNotice_dc (s : State) (c : ChannelId) (active : Bool) :
    (State.valveNotice s c active).dc = s.dc := by
  unfold State.valveNotice; dsimp only; (repeat' split) <;> simp
@[simp] theorem valveNotice_ru (s : State) (c : ChannelId) (active : Bool) :
    (State.valveNotice s c active).ru = s.ru := by
  unfold State.valveNotice; dsimp only; (repeat' split) <;> simp
@[simp] theorem valveNotice_sau (s : State) (c : ChannelId) (active : Bool) :
    (State.valveNotice s c active).sau = s.sau := by
  unfold State.valveNotice; dsimp only; (repeat' split) <;> simp
@[simp] theorem endRelease_pending (s : State) (c : ChannelId) :
    (State.endRelease s c).pending = s.pending := by
  unfold State.endRelease; dsimp only; (repeat' split) <;> simp
@[simp] theorem endRelease_rm (s : State) (c : ChannelId) :
    (State.endRelease s c).rm = s.rm := by
  unfold State.endRelease; dsimp only; (repeat' split) <;> simp
@[simp] theorem endRelease_fc (s : State) (c : ChannelId) :
    (State.endRelease s c).fc = s.fc := by
  unfold State.endRelease; dsimp only; (repeat' split) <;> simp
@[simp] theorem endRelease_csu (s : State) (c : ChannelId) :
    (State.endRelease s c).csu = s.csu := by
  unfold State.endRelease; dsimp only; (repeat' split) <;> simp
@[simp] theorem endRelease_csc (s : State) (c : ChannelId) :
    (State.endRelease s c).csc = s.csc := by
  unfold State.endRelease; dsimp only; (repeat' split) <;> simp
@[simp] theorem endRelease_pe (s : State) (c : ChannelId) :
    (State.endRelease s c).pe = s.pe := by
  unfold State.endRelease; dsimp only; (repeat' split) <;> simp
@[simp] theorem endRelease_dc (s : State) (c : ChannelId) :
    (State.endRelease s c).dc = s.dc := by
  unfold State.endRelease; dsimp only; (repeat' split) <;> simp
@[simp] theorem endRelease_ru (s : State) (c : ChannelId) :
    (State.endRelease s c).ru = s.ru := by
  unfold State.endRelease; dsimp only; (repeat' split) <;> simp
@[simp] theorem endRelease_sau (s : State) (c : ChannelId) :
    (State.endRelease s c).sau = s.sau := by
  unfold State.endRelease; dsimp only; (repeat' split) <;> simp
@[simp] theorem lockOut_pending (s : State) (c : ChannelId) (r : LockoutReason) :
    (State.lockOut s c r).pending = s.pending := by
  unfold State.lockOut; dsimp only; (repeat' split) <;> simp
@[simp] theorem lockOut_fc (s : State) (c : ChannelId) (r : LockoutReason) :
    (State.lockOut s c r).fc = s.fc := by
  unfold State.lockOut; dsimp only; (repeat' split) <;> simp
@[simp] theorem lockOut_csu (s : State) (c : ChannelId) (r : LockoutReason) :
    (State.lockOut s c r).csu = s.csu := by
  unfold State.lockOut; dsimp only; (repeat' split) <;> simp
@[simp] theorem lockOut_csc (s : State) (c : ChannelId) (r : LockoutReason) :
    (State.lockOut s c r).csc = s.csc := by
  unfold State.lockOut; dsimp only; (repeat' split) <;> simp
@[simp] theorem lockOut_pe (s : State) (c : ChannelId) (r : LockoutReason) :
    (State.lockOut s c r).pe = s.pe := by
  unfold State.lockOut; dsimp only; (repeat' split) <;> simp
@[simp] theorem lockOut_dc (s : State) (c : ChannelId) (r : LockoutReason) :
    (State.lockOut s c r).dc = s.dc := by
  unfold State.lockOut; dsimp only; (repeat' split) <;> simp
@[simp] theorem lockOut_ru (s : State) (c : ChannelId) (r : LockoutReason) :
    (State.lockOut s c r).ru = s.ru := by
  unfold State.lockOut; dsimp only; (repeat' split) <;> simp
@[simp] theorem clearLatches_pending (s : State) (c : ChannelId) :
    (State.clearLatches s c).pending = s.pending := by
  unfold State.clearLatches; exact foldl_keeps State.pending _ (by intros; (repeat' split) <;> simp) _ _
@[simp] theorem clearLatches_rm (s : State) (c : ChannelId) :
    (State.clearLatches s c).rm = s.rm := by
  unfold State.clearLatches; exact foldl_keeps State.rm _ (by intros; (repeat' split) <;> simp) _ _
@[simp] theorem clearLatches_fc (s : State) (c : ChannelId) :
    (State.clearLatches s c).fc = s.fc := by
  unfold State.clearLatches; exact foldl_keeps State.fc _ (by intros; (repeat' split) <;> simp) _ _
@[simp] theorem clearLatches_csu (s : State) (c : ChannelId) :
    (State.clearLatches s c).csu = s.csu := by
  unfold State.clearLatches; exact foldl_keeps State.csu _ (by intros; (repeat' split) <;> simp) _ _
@[simp] theorem clearLatches_csc (s : State) (c : ChannelId) :
    (State.clearLatches s c).csc = s.csc := by
  unfold State.clearLatches; exact foldl_keeps State.csc _ (by intros; (repeat' split) <;> simp) _ _
@[simp] theorem clearLatches_pe (s : State) (c : ChannelId) :
    (State.clearLatches s c).pe = s.pe := by
  unfold State.clearLatches; exact foldl_keeps State.pe _ (by intros; (repeat' split) <;> simp) _ _
@[simp] theorem clearLatches_dc (s : State) (c : ChannelId) :
    (State.clearLatches s c).dc = s.dc := by
  unfold State.clearLatches; exact foldl_keeps State.dc _ (by intros; (repeat' split) <;> simp) _ _
@[simp] theorem clearLatches_ru (s : State) (c : ChannelId) :
    (State.clearLatches s c).ru = s.ru := by
  unfold State.clearLatches; exact foldl_keeps State.ru _ (by intros; (repeat' split) <;> simp) _ _
@[simp] theorem clearLatches_sau (s : State) (c : ChannelId) :
    (State.clearLatches s c).sau = s.sau := by
  unfold State.clearLatches; exact foldl_keeps State.sau _ (by intros; (repeat' split) <;> simp) _ _
@[simp] theorem clearLatches_sp (s : State) (c : ChannelId) :
    (State.clearLatches s c).sp = s.sp := by
  unfold State.clearLatches; exact foldl_keeps State.sp _ (by intros; (repeat' split) <;> simp) _ _
@[simp] theorem leaveLockout_pending (s : State) (c : ChannelId) (r : LockoutReason) :
    (State.leaveLockout s c r).pending = s.pending := by
  unfold State.leaveLockout; split <;> simp
@[simp] theorem leaveLockout_rm (s : State) (c : ChannelId) (r : LockoutReason) :
    (State.leaveLockout s c r).rm = s.rm := by
  unfold State.leaveLockout; split <;> simp
@[simp] theorem leaveLockout_fc (s : State) (c : ChannelId) (r : LockoutReason) :
    (State.leaveLockout s c r).fc = s.fc := by
  unfold State.leaveLockout; split <;> simp
@[simp] theorem leaveLockout_csu (s : State) (c : ChannelId) (r : LockoutReason) :
    (State.leaveLockout s c r).csu = s.csu := by
  unfold State.leaveLockout; split <;> simp
@[simp] theorem leaveLockout_csc (s : State) (c : ChannelId) (r : LockoutReason) :
    (State.leaveLockout s c r).csc = s.csc := by
  unfold State.leaveLockout; split <;> simp
@[simp] theorem leaveLockout_pe (s : State) (c : ChannelId) (r : LockoutReason) :
    (State.leaveLockout s c r).pe = s.pe := by
  unfold State.leaveLockout; split <;> simp
@[simp] theorem leaveLockout_dc (s : State) (c : ChannelId) (r : LockoutReason) :
    (State.leaveLockout s c r).dc = s.dc := by
  unfold State.leaveLockout; split <;> simp
@[simp] theorem leaveLockout_ru (s : State) (c : ChannelId) (r : LockoutReason) :
    (State.leaveLockout s c r).ru = s.ru := by
  unfold State.leaveLockout; split <;> simp
@[simp] theorem leaveLockout_sau (s : State) (c : ChannelId) (r : LockoutReason) :
    (State.leaveLockout s c r).sau = s.sau := by
  unfold State.leaveLockout; split <;> simp
@[simp] theorem keyNotice_pending (s : State) (g : GiId) (c : ChannelId) (active : Bool) :
    (State.keyNotice s g c active).pending = s.pending := by
  unfold State.keyNotice; split <;> simp
@[simp] theorem keyNotice_fc (s : State) (g : GiId) (c : ChannelId) (active : Bool) :
    (State.keyNotice s g c active).fc = s.fc := by
  unfold State.keyNotice; split <;> simp
@[simp] theorem keyNotice_csu (s : State) (g : GiId) (c : ChannelId) (active : Bool) :
    (State.keyNotice s g c active).csu = s.csu := by
  unfold State.keyNotice; split <;> simp
@[simp] theorem keyNotice_csc (s : State) (g : GiId) (c : ChannelId) (active : Bool) :
    (State.keyNotice s g c active).csc = s.csc := by
  unfold State.keyNotice; split <;> simp
@[simp] theorem keyNotice_pe (s : State) (g : GiId) (c : ChannelId) (active : Bool) :
    (State.keyNotice s g c active).pe = s.pe := by
  unfold State.keyNotice; split <;> simp
@[simp] theorem keyNotice_dc (s : State) (g : GiId) (c : ChannelId) (active : Bool) :
    (State.keyNotice s g c active).dc = s.dc := by
  unfold State.keyNotice; split <;> simp
@[simp] theorem keyNotice_ru (s : State) (g : GiId) (c : ChannelId) (active : Bool) :
    (State.keyNotice s g c active).ru = s.ru := by
  unfold State.keyNotice; split <;> simp
@[simp] theorem abortLineNotice_pending (s : State) (c : ChannelId) (active : Bool) :
    (State.abortLineNotice s c active).pending = s.pending := by
  simp [State.abortLineNotice]
@[simp] theorem abortLineNotice_fc (s : State) (c : ChannelId) (active : Bool) :
    (State.abortLineNotice s c active).fc = s.fc := by
  simp [State.abortLineNotice]
@[simp] theorem abortLineNotice_csu (s : State) (c : ChannelId) (active : Bool) :
    (State.abortLineNotice s c active).csu = s.csu := by
  simp [State.abortLineNotice]
@[simp] theorem abortLineNotice_csc (s : State) (c : ChannelId) (active : Bool) :
    (State.abortLineNotice s c active).csc = s.csc := by
  simp [State.abortLineNotice]
@[simp] theorem abortLineNotice_pe (s : State) (c : ChannelId) (active : Bool) :
    (State.abortLineNotice s c active).pe = s.pe := by
  simp [State.abortLineNotice]
@[simp] theorem abortLineNotice_dc (s : State) (c : ChannelId) (active : Bool) :
    (State.abortLineNotice s c active).dc = s.dc := by
  simp [State.abortLineNotice]
@[simp] theorem abortLineNotice_ru (s : State) (c : ChannelId) (active : Bool) :
    (State.abortLineNotice s c active).ru = s.ru := by
  simp [State.abortLineNotice]
@[simp] theorem scZoneNotice_pending (s : State) (z : ZoneId) (status : ZoneStatus) (count : Nat) :
    (State.scZoneNotice s z status count).pending = s.pending := by
  simp [State.scZoneNotice]
@[simp] theorem scZoneNotice_fc (s : State) (z : ZoneId) (status : ZoneStatus) (count : Nat) :
    (State.scZoneNotice s z status count).fc = s.fc := by
  simp [State.scZoneNotice]
@[simp] theorem scZoneNotice_csu (s : State) (z : ZoneId) (status : ZoneStatus) (count : Nat) :
    (State.scZoneNotice s z status count).csu = s.csu := by
  simp [State.scZoneNotice]
@[simp] theorem scZoneNotice_csc (s : State) (z : ZoneId) (status : ZoneStatus) (count : Nat) :
    (State.scZoneNotice s z status count).csc = s.csc := by
  simp [State.scZoneNotice]
@[simp] theorem scZoneNotice_pe (s : State) (z : ZoneId) (status : ZoneStatus) (count : Nat) :
    (State.scZoneNotice s z status count).pe = s.pe := by
  simp [State.scZoneNotice]
@[simp] theorem scZoneNotice_dc (s : State) (z : ZoneId) (status : ZoneStatus) (count : Nat) :
    (State.scZoneNotice s z status count).dc = s.dc := by
  simp [State.scZoneNotice]
@[simp] theorem scZoneNotice_ru (s : State) (z : ZoneId) (status : ZoneStatus) (count : Nat) :
    (State.scZoneNotice s z status count).ru = s.ru := by
  simp [State.scZoneNotice]
@[simp] theorem scAlarmNotice_pending (s : State) (z : ZoneId) (present : Bool) :
    (State.scAlarmNotice s z present).pending = s.pending := by
  simp [State.scAlarmNotice]
@[simp] theorem scAlarmNotice_fc (s : State) (z : ZoneId) (present : Bool) :
    (State.scAlarmNotice s z present).fc = s.fc := by
  simp [State.scAlarmNotice]
@[simp] theorem scAlarmNotice_csu (s : State) (z : ZoneId) (present : Bool) :
    (State.scAlarmNotice s z present).csu = s.csu := by
  simp [State.scAlarmNotice]
@[simp] theorem scAlarmNotice_csc (s : State) (z : ZoneId) (present : Bool) :
    (State.scAlarmNotice s z present).csc = s.csc := by
  simp [State.scAlarmNotice]
@[simp] theorem scAlarmNotice_pe (s : State) (z : ZoneId) (present : Bool) :
    (State.scAlarmNotice s z present).pe = s.pe := by
  simp [State.scAlarmNotice]
@[simp] theorem scAlarmNotice_dc (s : State) (z : ZoneId) (present : Bool) :
    (State.scAlarmNotice s z present).dc = s.dc := by
  simp [State.scAlarmNotice]
@[simp] theorem scAlarmNotice_ru (s : State) (z : ZoneId) (present : Bool) :
    (State.scAlarmNotice s z present).ru = s.ru := by
  simp [State.scAlarmNotice]
@[simp] theorem scDoorNotice_pending (s : State) (d : DoorId) (v : Option DoorView) :
    (State.scDoorNotice s d v).pending = s.pending := by
  simp [State.scDoorNotice]
@[simp] theorem scDoorNotice_fc (s : State) (d : DoorId) (v : Option DoorView) :
    (State.scDoorNotice s d v).fc = s.fc := by
  simp [State.scDoorNotice]
@[simp] theorem scDoorNotice_csu (s : State) (d : DoorId) (v : Option DoorView) :
    (State.scDoorNotice s d v).csu = s.csu := by
  simp [State.scDoorNotice]
@[simp] theorem scDoorNotice_csc (s : State) (d : DoorId) (v : Option DoorView) :
    (State.scDoorNotice s d v).csc = s.csc := by
  simp [State.scDoorNotice]
@[simp] theorem scDoorNotice_pe (s : State) (d : DoorId) (v : Option DoorView) :
    (State.scDoorNotice s d v).pe = s.pe := by
  simp [State.scDoorNotice]
@[simp] theorem scDoorNotice_dc (s : State) (d : DoorId) (v : Option DoorView) :
    (State.scDoorNotice s d v).dc = s.dc := by
  simp [State.scDoorNotice]
@[simp] theorem scDoorNotice_ru (s : State) (d : DoorId) (v : Option DoorView) :
    (State.scDoorNotice s d v).ru = s.ru := by
  simp [State.scDoorNotice]
@[simp] theorem scPresence_pending (s : State) (d : DevIx) (r : DevRole) :
    (State.scPresence s d r).pending = s.pending := by
  unfold State.scPresence; split <;> simp
@[simp] theorem scPresence_fc (s : State) (d : DevIx) (r : DevRole) :
    (State.scPresence s d r).fc = s.fc := by
  unfold State.scPresence; split <;> simp
@[simp] theorem scPresence_csu (s : State) (d : DevIx) (r : DevRole) :
    (State.scPresence s d r).csu = s.csu := by
  unfold State.scPresence; split <;> simp
@[simp] theorem scPresence_csc (s : State) (d : DevIx) (r : DevRole) :
    (State.scPresence s d r).csc = s.csc := by
  unfold State.scPresence; split <;> simp
@[simp] theorem scPresence_pe (s : State) (d : DevIx) (r : DevRole) :
    (State.scPresence s d r).pe = s.pe := by
  unfold State.scPresence; split <;> simp
@[simp] theorem scPresence_dc (s : State) (d : DevIx) (r : DevRole) :
    (State.scPresence s d r).dc = s.dc := by
  unfold State.scPresence; split <;> simp
@[simp] theorem scPresence_ru (s : State) (d : DevIx) (r : DevRole) :
    (State.scPresence s d r).ru = s.ru := by
  unfold State.scPresence; split <;> simp

/-! ## Machine/LoneWorker.lean -/

@[simp] theorem startRunning_pending (s : State) (z : ZoneId) (number : Nat) :
    (State.startRunning s z number).pending = s.pending := by
  simp [State.startRunning]
@[simp] theorem startRunning_rm (s : State) (z : ZoneId) (number : Nat) :
    (State.startRunning s z number).rm = s.rm := by
  simp [State.startRunning]
@[simp] theorem startRunning_fc (s : State) (z : ZoneId) (number : Nat) :
    (State.startRunning s z number).fc = s.fc := by
  simp [State.startRunning]
@[simp] theorem startRunning_csu (s : State) (z : ZoneId) (number : Nat) :
    (State.startRunning s z number).csu = s.csu := by
  simp [State.startRunning]
@[simp] theorem startRunning_csc (s : State) (z : ZoneId) (number : Nat) :
    (State.startRunning s z number).csc = s.csc := by
  simp [State.startRunning]
@[simp] theorem startRunning_pe (s : State) (z : ZoneId) (number : Nat) :
    (State.startRunning s z number).pe = s.pe := by
  simp [State.startRunning]
@[simp] theorem startRunning_dc (s : State) (z : ZoneId) (number : Nat) :
    (State.startRunning s z number).dc = s.dc := by
  simp [State.startRunning]
@[simp] theorem startRunning_ru (s : State) (z : ZoneId) (number : Nat) :
    (State.startRunning s z number).ru = s.ru := by
  simp [State.startRunning]
@[simp] theorem startRunning_sc (s : State) (z : ZoneId) (number : Nat) :
    (State.startRunning s z number).sc = s.sc := by
  simp [State.startRunning]
@[simp] theorem startRunning_sp (s : State) (z : ZoneId) (number : Nat) :
    (State.startRunning s z number).sp = s.sp := by
  simp [State.startRunning]
@[simp] theorem goIdle_pending (s : State) (z : ZoneId) :
    (State.goIdle s z).pending = s.pending := by
  unfold State.goIdle; dsimp only; (repeat' split) <;> simp
@[simp] theorem goIdle_fc (s : State) (z : ZoneId) :
    (State.goIdle s z).fc = s.fc := by
  unfold State.goIdle; dsimp only; (repeat' split) <;> simp
@[simp] theorem goIdle_csu (s : State) (z : ZoneId) :
    (State.goIdle s z).csu = s.csu := by
  unfold State.goIdle; dsimp only; (repeat' split) <;> simp
@[simp] theorem goIdle_csc (s : State) (z : ZoneId) :
    (State.goIdle s z).csc = s.csc := by
  unfold State.goIdle; dsimp only; (repeat' split) <;> simp
@[simp] theorem goIdle_pe (s : State) (z : ZoneId) :
    (State.goIdle s z).pe = s.pe := by
  unfold State.goIdle; dsimp only; (repeat' split) <;> simp
@[simp] theorem goIdle_dc (s : State) (z : ZoneId) :
    (State.goIdle s z).dc = s.dc := by
  unfold State.goIdle; dsimp only; (repeat' split) <;> simp
@[simp] theorem goIdle_ru (s : State) (z : ZoneId) :
    (State.goIdle s z).ru = s.ru := by
  unfold State.goIdle; dsimp only; (repeat' split) <;> simp
@[simp] theorem goIdle_sc (s : State) (z : ZoneId) :
    (State.goIdle s z).sc = s.sc := by
  unfold State.goIdle; dsimp only; (repeat' split) <;> simp
@[simp] theorem loneChanged_pending (s : State) (z : ZoneId) (old : Option Nat) :
    (State.loneChanged s z old).pending = s.pending := by
  unfold State.loneChanged; dsimp only; (repeat' split) <;> simp
@[simp] theorem loneChanged_fc (s : State) (z : ZoneId) (old : Option Nat) :
    (State.loneChanged s z old).fc = s.fc := by
  unfold State.loneChanged; dsimp only; (repeat' split) <;> simp
@[simp] theorem loneChanged_csu (s : State) (z : ZoneId) (old : Option Nat) :
    (State.loneChanged s z old).csu = s.csu := by
  unfold State.loneChanged; dsimp only; (repeat' split) <;> simp
@[simp] theorem loneChanged_csc (s : State) (z : ZoneId) (old : Option Nat) :
    (State.loneChanged s z old).csc = s.csc := by
  unfold State.loneChanged; dsimp only; (repeat' split) <;> simp
@[simp] theorem loneChanged_pe (s : State) (z : ZoneId) (old : Option Nat) :
    (State.loneChanged s z old).pe = s.pe := by
  unfold State.loneChanged; dsimp only; (repeat' split) <;> simp
@[simp] theorem loneChanged_dc (s : State) (z : ZoneId) (old : Option Nat) :
    (State.loneChanged s z old).dc = s.dc := by
  unfold State.loneChanged; dsimp only; (repeat' split) <;> simp
@[simp] theorem loneChanged_ru (s : State) (z : ZoneId) (old : Option Nat) :
    (State.loneChanged s z old).ru = s.ru := by
  unfold State.loneChanged; dsimp only; (repeat' split) <;> simp
@[simp] theorem loneChanged_sc (s : State) (z : ZoneId) (old : Option Nat) :
    (State.loneChanged s z old).sc = s.sc := by
  unfold State.loneChanged; dsimp only; (repeat' split) <;> simp
@[simp] theorem loneZoneNotice_pending (s : State) (z : ZoneId) (count : Nat) (sole : Option Nat) :
    (State.loneZoneNotice s z count sole).pending = s.pending := by
  simp [State.loneZoneNotice]
@[simp] theorem loneZoneNotice_fc (s : State) (z : ZoneId) (count : Nat) (sole : Option Nat) :
    (State.loneZoneNotice s z count sole).fc = s.fc := by
  simp [State.loneZoneNotice]
@[simp] theorem loneZoneNotice_csu (s : State) (z : ZoneId) (count : Nat) (sole : Option Nat) :
    (State.loneZoneNotice s z count sole).csu = s.csu := by
  simp [State.loneZoneNotice]
@[simp] theorem loneZoneNotice_csc (s : State) (z : ZoneId) (count : Nat) (sole : Option Nat) :
    (State.loneZoneNotice s z count sole).csc = s.csc := by
  simp [State.loneZoneNotice]
@[simp] theorem loneZoneNotice_pe (s : State) (z : ZoneId) (count : Nat) (sole : Option Nat) :
    (State.loneZoneNotice s z count sole).pe = s.pe := by
  simp [State.loneZoneNotice]
@[simp] theorem loneZoneNotice_dc (s : State) (z : ZoneId) (count : Nat) (sole : Option Nat) :
    (State.loneZoneNotice s z count sole).dc = s.dc := by
  simp [State.loneZoneNotice]
@[simp] theorem loneZoneNotice_ru (s : State) (z : ZoneId) (count : Nat) (sole : Option Nat) :
    (State.loneZoneNotice s z count sole).ru = s.ru := by
  simp [State.loneZoneNotice]
@[simp] theorem loneZoneNotice_sc (s : State) (z : ZoneId) (count : Nat) (sole : Option Nat) :
    (State.loneZoneNotice s z count sole).sc = s.sc := by
  simp [State.loneZoneNotice]
@[simp] theorem loneAfterHours_pending (s : State) (z : ZoneId) (flag : Bool) :
    (State.loneAfterHours s z flag).pending = s.pending := by
  simp [State.loneAfterHours]
@[simp] theorem loneAfterHours_fc (s : State) (z : ZoneId) (flag : Bool) :
    (State.loneAfterHours s z flag).fc = s.fc := by
  simp [State.loneAfterHours]
@[simp] theorem loneAfterHours_csu (s : State) (z : ZoneId) (flag : Bool) :
    (State.loneAfterHours s z flag).csu = s.csu := by
  simp [State.loneAfterHours]
@[simp] theorem loneAfterHours_csc (s : State) (z : ZoneId) (flag : Bool) :
    (State.loneAfterHours s z flag).csc = s.csc := by
  simp [State.loneAfterHours]
@[simp] theorem loneAfterHours_pe (s : State) (z : ZoneId) (flag : Bool) :
    (State.loneAfterHours s z flag).pe = s.pe := by
  simp [State.loneAfterHours]
@[simp] theorem loneAfterHours_dc (s : State) (z : ZoneId) (flag : Bool) :
    (State.loneAfterHours s z flag).dc = s.dc := by
  simp [State.loneAfterHours]
@[simp] theorem loneAfterHours_ru (s : State) (z : ZoneId) (flag : Bool) :
    (State.loneAfterHours s z flag).ru = s.ru := by
  simp [State.loneAfterHours]
@[simp] theorem loneAfterHours_sc (s : State) (z : ZoneId) (flag : Bool) :
    (State.loneAfterHours s z flag).sc = s.sc := by
  simp [State.loneAfterHours]
@[simp] theorem leaveOverdue_pending (s : State) (z : ZoneId) :
    (State.leaveOverdue s z).pending = s.pending := by
  unfold State.leaveOverdue; (repeat' split) <;> simp
@[simp] theorem leaveOverdue_fc (s : State) (z : ZoneId) :
    (State.leaveOverdue s z).fc = s.fc := by
  unfold State.leaveOverdue; (repeat' split) <;> simp
@[simp] theorem leaveOverdue_csu (s : State) (z : ZoneId) :
    (State.leaveOverdue s z).csu = s.csu := by
  unfold State.leaveOverdue; (repeat' split) <;> simp
@[simp] theorem leaveOverdue_csc (s : State) (z : ZoneId) :
    (State.leaveOverdue s z).csc = s.csc := by
  unfold State.leaveOverdue; (repeat' split) <;> simp
@[simp] theorem leaveOverdue_pe (s : State) (z : ZoneId) :
    (State.leaveOverdue s z).pe = s.pe := by
  unfold State.leaveOverdue; (repeat' split) <;> simp
@[simp] theorem leaveOverdue_dc (s : State) (z : ZoneId) :
    (State.leaveOverdue s z).dc = s.dc := by
  unfold State.leaveOverdue; (repeat' split) <;> simp
@[simp] theorem leaveOverdue_ru (s : State) (z : ZoneId) :
    (State.leaveOverdue s z).ru = s.ru := by
  unfold State.leaveOverdue; (repeat' split) <;> simp
@[simp] theorem leaveOverdue_sc (s : State) (z : ZoneId) :
    (State.leaveOverdue s z).sc = s.sc := by
  unfold State.leaveOverdue; (repeat' split) <;> simp
@[simp] theorem checkIn_pending (s : State) (z : ZoneId) :
    (State.checkIn s z).pending = s.pending := by
  unfold State.checkIn; dsimp only; (repeat' split) <;> simp
@[simp] theorem checkIn_fc (s : State) (z : ZoneId) :
    (State.checkIn s z).fc = s.fc := by
  unfold State.checkIn; dsimp only; (repeat' split) <;> simp
@[simp] theorem checkIn_csu (s : State) (z : ZoneId) :
    (State.checkIn s z).csu = s.csu := by
  unfold State.checkIn; dsimp only; (repeat' split) <;> simp
@[simp] theorem checkIn_csc (s : State) (z : ZoneId) :
    (State.checkIn s z).csc = s.csc := by
  unfold State.checkIn; dsimp only; (repeat' split) <;> simp
@[simp] theorem checkIn_pe (s : State) (z : ZoneId) :
    (State.checkIn s z).pe = s.pe := by
  unfold State.checkIn; dsimp only; (repeat' split) <;> simp
@[simp] theorem checkIn_dc (s : State) (z : ZoneId) :
    (State.checkIn s z).dc = s.dc := by
  unfold State.checkIn; dsimp only; (repeat' split) <;> simp
@[simp] theorem checkIn_ru (s : State) (z : ZoneId) :
    (State.checkIn s z).ru = s.ru := by
  unfold State.checkIn; dsimp only; (repeat' split) <;> simp
@[simp] theorem checkIn_sc (s : State) (z : ZoneId) :
    (State.checkIn s z).sc = s.sc := by
  unfold State.checkIn; dsimp only; (repeat' split) <;> simp
@[simp] theorem badgeCheckIn_pending (s : State) (door : DoorId) (number : Nat) :
    (State.badgeCheckIn s door number).pending = s.pending := by
  unfold State.badgeCheckIn; exact foldl_keeps State.pending _ (by intros; (repeat' split) <;> simp) _ _
@[simp] theorem badgeCheckIn_fc (s : State) (door : DoorId) (number : Nat) :
    (State.badgeCheckIn s door number).fc = s.fc := by
  unfold State.badgeCheckIn; exact foldl_keeps State.fc _ (by intros; (repeat' split) <;> simp) _ _
@[simp] theorem badgeCheckIn_csu (s : State) (door : DoorId) (number : Nat) :
    (State.badgeCheckIn s door number).csu = s.csu := by
  unfold State.badgeCheckIn; exact foldl_keeps State.csu _ (by intros; (repeat' split) <;> simp) _ _
@[simp] theorem badgeCheckIn_csc (s : State) (door : DoorId) (number : Nat) :
    (State.badgeCheckIn s door number).csc = s.csc := by
  unfold State.badgeCheckIn; exact foldl_keeps State.csc _ (by intros; (repeat' split) <;> simp) _ _
@[simp] theorem badgeCheckIn_pe (s : State) (door : DoorId) (number : Nat) :
    (State.badgeCheckIn s door number).pe = s.pe := by
  unfold State.badgeCheckIn; exact foldl_keeps State.pe _ (by intros; (repeat' split) <;> simp) _ _
@[simp] theorem badgeCheckIn_dc (s : State) (door : DoorId) (number : Nat) :
    (State.badgeCheckIn s door number).dc = s.dc := by
  unfold State.badgeCheckIn; exact foldl_keeps State.dc _ (by intros; (repeat' split) <;> simp) _ _
@[simp] theorem badgeCheckIn_ru (s : State) (door : DoorId) (number : Nat) :
    (State.badgeCheckIn s door number).ru = s.ru := by
  unfold State.badgeCheckIn; exact foldl_keeps State.ru _ (by intros; (repeat' split) <;> simp) _ _
@[simp] theorem badgeCheckIn_sc (s : State) (door : DoorId) (number : Nat) :
    (State.badgeCheckIn s door number).sc = s.sc := by
  unfold State.badgeCheckIn; exact foldl_keeps State.sc _ (by intros; (repeat' split) <;> simp) _ _
@[simp] theorem issuePrompt_pending (s : State) (z : ZoneId) (n : Nat) :
    (State.issuePrompt s z n).pending = s.pending := by
  simp [State.issuePrompt]
@[simp] theorem issuePrompt_fc (s : State) (z : ZoneId) (n : Nat) :
    (State.issuePrompt s z n).fc = s.fc := by
  simp [State.issuePrompt]
@[simp] theorem issuePrompt_csu (s : State) (z : ZoneId) (n : Nat) :
    (State.issuePrompt s z n).csu = s.csu := by
  simp [State.issuePrompt]
@[simp] theorem issuePrompt_csc (s : State) (z : ZoneId) (n : Nat) :
    (State.issuePrompt s z n).csc = s.csc := by
  simp [State.issuePrompt]
@[simp] theorem issuePrompt_pe (s : State) (z : ZoneId) (n : Nat) :
    (State.issuePrompt s z n).pe = s.pe := by
  simp [State.issuePrompt]
@[simp] theorem issuePrompt_dc (s : State) (z : ZoneId) (n : Nat) :
    (State.issuePrompt s z n).dc = s.dc := by
  simp [State.issuePrompt]
@[simp] theorem issuePrompt_ru (s : State) (z : ZoneId) (n : Nat) :
    (State.issuePrompt s z n).ru = s.ru := by
  simp [State.issuePrompt]
@[simp] theorem issuePrompt_sc (s : State) (z : ZoneId) (n : Nat) :
    (State.issuePrompt s z n).sc = s.sc := by
  simp [State.issuePrompt]
@[simp] theorem issuePrompt_sau (s : State) (z : ZoneId) (n : Nat) :
    (State.issuePrompt s z n).sau = s.sau := by
  simp [State.issuePrompt]
@[simp] theorem enterPrompt_pending (s : State) (z : ZoneId) :
    (State.enterPrompt s z).pending = s.pending := by
  simp [State.enterPrompt]
@[simp] theorem enterPrompt_fc (s : State) (z : ZoneId) :
    (State.enterPrompt s z).fc = s.fc := by
  simp [State.enterPrompt]
@[simp] theorem enterPrompt_csu (s : State) (z : ZoneId) :
    (State.enterPrompt s z).csu = s.csu := by
  simp [State.enterPrompt]
@[simp] theorem enterPrompt_csc (s : State) (z : ZoneId) :
    (State.enterPrompt s z).csc = s.csc := by
  simp [State.enterPrompt]
@[simp] theorem enterPrompt_pe (s : State) (z : ZoneId) :
    (State.enterPrompt s z).pe = s.pe := by
  simp [State.enterPrompt]
@[simp] theorem enterPrompt_dc (s : State) (z : ZoneId) :
    (State.enterPrompt s z).dc = s.dc := by
  simp [State.enterPrompt]
@[simp] theorem enterPrompt_ru (s : State) (z : ZoneId) :
    (State.enterPrompt s z).ru = s.ru := by
  simp [State.enterPrompt]
@[simp] theorem enterPrompt_sc (s : State) (z : ZoneId) :
    (State.enterPrompt s z).sc = s.sc := by
  simp [State.enterPrompt]
@[simp] theorem repeatPrompt_pending (s : State) (z : ZoneId) :
    (State.repeatPrompt s z).pending = s.pending := by
  simp [State.repeatPrompt]
@[simp] theorem repeatPrompt_fc (s : State) (z : ZoneId) :
    (State.repeatPrompt s z).fc = s.fc := by
  simp [State.repeatPrompt]
@[simp] theorem repeatPrompt_csu (s : State) (z : ZoneId) :
    (State.repeatPrompt s z).csu = s.csu := by
  simp [State.repeatPrompt]
@[simp] theorem repeatPrompt_csc (s : State) (z : ZoneId) :
    (State.repeatPrompt s z).csc = s.csc := by
  simp [State.repeatPrompt]
@[simp] theorem repeatPrompt_pe (s : State) (z : ZoneId) :
    (State.repeatPrompt s z).pe = s.pe := by
  simp [State.repeatPrompt]
@[simp] theorem repeatPrompt_dc (s : State) (z : ZoneId) :
    (State.repeatPrompt s z).dc = s.dc := by
  simp [State.repeatPrompt]
@[simp] theorem repeatPrompt_ru (s : State) (z : ZoneId) :
    (State.repeatPrompt s z).ru = s.ru := by
  simp [State.repeatPrompt]
@[simp] theorem repeatPrompt_sc (s : State) (z : ZoneId) :
    (State.repeatPrompt s z).sc = s.sc := by
  simp [State.repeatPrompt]
@[simp] theorem refreshAfterHours_pending (s : State) :
    (State.refreshAfterHours s).pending = s.pending := by
  unfold State.refreshAfterHours; exact foldl_keeps State.pending _ (by intros; dsimp only; (repeat' split) <;> simp) _ _
@[simp] theorem refreshAfterHours_fc (s : State) :
    (State.refreshAfterHours s).fc = s.fc := by
  unfold State.refreshAfterHours; exact foldl_keeps State.fc _ (by intros; dsimp only; (repeat' split) <;> simp) _ _
@[simp] theorem refreshAfterHours_csc (s : State) :
    (State.refreshAfterHours s).csc = s.csc := by
  unfold State.refreshAfterHours; exact foldl_keeps State.csc _ (by intros; dsimp only; (repeat' split) <;> simp) _ _
@[simp] theorem refreshAfterHours_pe (s : State) :
    (State.refreshAfterHours s).pe = s.pe := by
  unfold State.refreshAfterHours; exact foldl_keeps State.pe _ (by intros; dsimp only; (repeat' split) <;> simp) _ _
@[simp] theorem refreshAfterHours_dc (s : State) :
    (State.refreshAfterHours s).dc = s.dc := by
  unfold State.refreshAfterHours; exact foldl_keeps State.dc _ (by intros; dsimp only; (repeat' split) <;> simp) _ _
@[simp] theorem refreshAfterHours_ru (s : State) :
    (State.refreshAfterHours s).ru = s.ru := by
  unfold State.refreshAfterHours; exact foldl_keeps State.ru _ (by intros; dsimp only; (repeat' split) <;> simp) _ _
@[simp] theorem refreshAfterHours_sc (s : State) :
    (State.refreshAfterHours s).sc = s.sc := by
  unfold State.refreshAfterHours; exact foldl_keeps State.sc _ (by intros; dsimp only; (repeat' split) <;> simp) _ _

/-! ## Machine/Alarms.lean -/

@[simp] theorem postAlarm_pending (s : State) (kind : EventKind) (i : AlarmIdentity) (number : Nat) (z : ZoneId) (door : Option DoorId) :
    (State.postAlarm s kind i number z door).pending = s.pending := by
  simp [State.postAlarm]
@[simp] theorem postAlarm_rm (s : State) (kind : EventKind) (i : AlarmIdentity) (number : Nat) (z : ZoneId) (door : Option DoorId) :
    (State.postAlarm s kind i number z door).rm = s.rm := by
  simp [State.postAlarm]
@[simp] theorem postAlarm_fc (s : State) (kind : EventKind) (i : AlarmIdentity) (number : Nat) (z : ZoneId) (door : Option DoorId) :
    (State.postAlarm s kind i number z door).fc = s.fc := by
  simp [State.postAlarm]
@[simp] theorem postAlarm_csu (s : State) (kind : EventKind) (i : AlarmIdentity) (number : Nat) (z : ZoneId) (door : Option DoorId) :
    (State.postAlarm s kind i number z door).csu = s.csu := by
  simp [State.postAlarm]
@[simp] theorem postAlarm_csc (s : State) (kind : EventKind) (i : AlarmIdentity) (number : Nat) (z : ZoneId) (door : Option DoorId) :
    (State.postAlarm s kind i number z door).csc = s.csc := by
  simp [State.postAlarm]
@[simp] theorem postAlarm_pe (s : State) (kind : EventKind) (i : AlarmIdentity) (number : Nat) (z : ZoneId) (door : Option DoorId) :
    (State.postAlarm s kind i number z door).pe = s.pe := by
  simp [State.postAlarm]
@[simp] theorem postAlarm_dc (s : State) (kind : EventKind) (i : AlarmIdentity) (number : Nat) (z : ZoneId) (door : Option DoorId) :
    (State.postAlarm s kind i number z door).dc = s.dc := by
  simp [State.postAlarm]
@[simp] theorem postAlarm_ru (s : State) (kind : EventKind) (i : AlarmIdentity) (number : Nat) (z : ZoneId) (door : Option DoorId) :
    (State.postAlarm s kind i number z door).ru = s.ru := by
  simp [State.postAlarm]
@[simp] theorem postAlarm_sc (s : State) (kind : EventKind) (i : AlarmIdentity) (number : Nat) (z : ZoneId) (door : Option DoorId) :
    (State.postAlarm s kind i number z door).sc = s.sc := by
  simp [State.postAlarm]
@[simp] theorem postAlarm_sau (s : State) (kind : EventKind) (i : AlarmIdentity) (number : Nat) (z : ZoneId) (door : Option DoorId) :
    (State.postAlarm s kind i number z door).sau = s.sau := by
  simp [State.postAlarm]
@[simp] theorem addAlarm_pending (s : State) (i : AlarmIdentity) (z : ZoneId) (door : Option DoorId) :
    (State.addAlarm s i z door).pending = s.pending := by
  simp [State.addAlarm]
@[simp] theorem addAlarm_rm (s : State) (i : AlarmIdentity) (z : ZoneId) (door : Option DoorId) :
    (State.addAlarm s i z door).rm = s.rm := by
  simp [State.addAlarm]
@[simp] theorem addAlarm_fc (s : State) (i : AlarmIdentity) (z : ZoneId) (door : Option DoorId) :
    (State.addAlarm s i z door).fc = s.fc := by
  simp [State.addAlarm]
@[simp] theorem addAlarm_csu (s : State) (i : AlarmIdentity) (z : ZoneId) (door : Option DoorId) :
    (State.addAlarm s i z door).csu = s.csu := by
  simp [State.addAlarm]
@[simp] theorem addAlarm_csc (s : State) (i : AlarmIdentity) (z : ZoneId) (door : Option DoorId) :
    (State.addAlarm s i z door).csc = s.csc := by
  simp [State.addAlarm]
@[simp] theorem addAlarm_pe (s : State) (i : AlarmIdentity) (z : ZoneId) (door : Option DoorId) :
    (State.addAlarm s i z door).pe = s.pe := by
  simp [State.addAlarm]
@[simp] theorem addAlarm_dc (s : State) (i : AlarmIdentity) (z : ZoneId) (door : Option DoorId) :
    (State.addAlarm s i z door).dc = s.dc := by
  simp [State.addAlarm]
@[simp] theorem addAlarm_ru (s : State) (i : AlarmIdentity) (z : ZoneId) (door : Option DoorId) :
    (State.addAlarm s i z door).ru = s.ru := by
  simp [State.addAlarm]
@[simp] theorem addAlarm_sc (s : State) (i : AlarmIdentity) (z : ZoneId) (door : Option DoorId) :
    (State.addAlarm s i z door).sc = s.sc := by
  simp [State.addAlarm]
@[simp] theorem recordGone_pending (s : State) (r : AlarmRecord) :
    (State.recordGone s r).pending = s.pending := by
  unfold State.recordGone; split
  · exact foldl_keeps State.pending _ (by intros; split <;> simp) _ _
  all_goals rfl
@[simp] theorem recordGone_fc (s : State) (r : AlarmRecord) :
    (State.recordGone s r).fc = s.fc := by
  unfold State.recordGone; split
  · exact foldl_keeps State.fc _ (by intros; split <;> simp) _ _
  all_goals rfl
@[simp] theorem recordGone_csu (s : State) (r : AlarmRecord) :
    (State.recordGone s r).csu = s.csu := by
  unfold State.recordGone; split
  · exact foldl_keeps State.csu _ (by intros; split <;> simp) _ _
  all_goals rfl
@[simp] theorem recordGone_csc (s : State) (r : AlarmRecord) :
    (State.recordGone s r).csc = s.csc := by
  unfold State.recordGone; split
  · exact foldl_keeps State.csc _ (by intros; split <;> simp) _ _
  all_goals rfl
@[simp] theorem recordGone_pe (s : State) (r : AlarmRecord) :
    (State.recordGone s r).pe = s.pe := by
  unfold State.recordGone; split
  · exact foldl_keeps State.pe _ (by intros; split <;> simp) _ _
  all_goals rfl
@[simp] theorem recordGone_dc (s : State) (r : AlarmRecord) :
    (State.recordGone s r).dc = s.dc := by
  unfold State.recordGone; split
  · exact foldl_keeps State.dc _ (by intros; split <;> simp) _ _
  all_goals rfl
@[simp] theorem recordGone_ru (s : State) (r : AlarmRecord) :
    (State.recordGone s r).ru = s.ru := by
  unfold State.recordGone; split
  · exact foldl_keeps State.ru _ (by intros; split <;> simp) _ _
  all_goals rfl
@[simp] theorem recordGone_sc (s : State) (r : AlarmRecord) :
    (State.recordGone s r).sc = s.sc := by
  unfold State.recordGone; split
  · exact foldl_keeps State.sc _ (by intros; split <;> simp) _ _
  all_goals rfl
@[simp] theorem removeAlarm_pending (s : State) (i : Nat) (reason : Nat) :
    (State.removeAlarm s i reason).pending = s.pending := by
  unfold State.removeAlarm; split <;> simp
@[simp] theorem removeAlarm_fc (s : State) (i : Nat) (reason : Nat) :
    (State.removeAlarm s i reason).fc = s.fc := by
  unfold State.removeAlarm; split <;> simp
@[simp] theorem removeAlarm_csu (s : State) (i : Nat) (reason : Nat) :
    (State.removeAlarm s i reason).csu = s.csu := by
  unfold State.removeAlarm; split <;> simp
@[simp] theorem removeAlarm_csc (s : State) (i : Nat) (reason : Nat) :
    (State.removeAlarm s i reason).csc = s.csc := by
  unfold State.removeAlarm; split <;> simp
@[simp] theorem removeAlarm_pe (s : State) (i : Nat) (reason : Nat) :
    (State.removeAlarm s i reason).pe = s.pe := by
  unfold State.removeAlarm; split <;> simp
@[simp] theorem removeAlarm_dc (s : State) (i : Nat) (reason : Nat) :
    (State.removeAlarm s i reason).dc = s.dc := by
  unfold State.removeAlarm; split <;> simp
@[simp] theorem removeAlarm_ru (s : State) (i : Nat) (reason : Nat) :
    (State.removeAlarm s i reason).ru = s.ru := by
  unfold State.removeAlarm; split <;> simp
@[simp] theorem removeAlarm_sc (s : State) (i : Nat) (reason : Nat) :
    (State.removeAlarm s i reason).sc = s.sc := by
  unfold State.removeAlarm; split <;> simp
@[simp] theorem takeRaise_pending (s : State) (i : AlarmIdentity) (z : ZoneId) (door : Option DoorId) :
    (State.takeRaise s i z door).pending = s.pending := by
  unfold State.takeRaise; (repeat' split) <;> simp
@[simp] theorem takeRaise_fc (s : State) (i : AlarmIdentity) (z : ZoneId) (door : Option DoorId) :
    (State.takeRaise s i z door).fc = s.fc := by
  unfold State.takeRaise; (repeat' split) <;> simp
@[simp] theorem takeRaise_csu (s : State) (i : AlarmIdentity) (z : ZoneId) (door : Option DoorId) :
    (State.takeRaise s i z door).csu = s.csu := by
  unfold State.takeRaise; (repeat' split) <;> simp
@[simp] theorem takeRaise_csc (s : State) (i : AlarmIdentity) (z : ZoneId) (door : Option DoorId) :
    (State.takeRaise s i z door).csc = s.csc := by
  unfold State.takeRaise; (repeat' split) <;> simp
@[simp] theorem takeRaise_pe (s : State) (i : AlarmIdentity) (z : ZoneId) (door : Option DoorId) :
    (State.takeRaise s i z door).pe = s.pe := by
  unfold State.takeRaise; (repeat' split) <;> simp
@[simp] theorem takeRaise_dc (s : State) (i : AlarmIdentity) (z : ZoneId) (door : Option DoorId) :
    (State.takeRaise s i z door).dc = s.dc := by
  unfold State.takeRaise; (repeat' split) <;> simp
@[simp] theorem takeRaise_ru (s : State) (i : AlarmIdentity) (z : ZoneId) (door : Option DoorId) :
    (State.takeRaise s i z door).ru = s.ru := by
  unfold State.takeRaise; (repeat' split) <;> simp
@[simp] theorem takeRaise_sc (s : State) (i : AlarmIdentity) (z : ZoneId) (door : Option DoorId) :
    (State.takeRaise s i z door).sc = s.sc := by
  unfold State.takeRaise; (repeat' split) <;> simp
@[simp] theorem alarmNotices_pending (before s : State) :
    (State.alarmNotices before s).pending = s.pending := by
  unfold State.alarmNotices; exact foldl_keeps State.pending _ (by intros; (repeat' split) <;> simp) _ _
@[simp] theorem alarmNotices_fc (before s : State) :
    (State.alarmNotices before s).fc = s.fc := by
  unfold State.alarmNotices; exact foldl_keeps State.fc _ (by intros; (repeat' split) <;> simp) _ _
@[simp] theorem alarmNotices_csu (before s : State) :
    (State.alarmNotices before s).csu = s.csu := by
  unfold State.alarmNotices; exact foldl_keeps State.csu _ (by intros; (repeat' split) <;> simp) _ _
@[simp] theorem alarmNotices_csc (before s : State) :
    (State.alarmNotices before s).csc = s.csc := by
  unfold State.alarmNotices; exact foldl_keeps State.csc _ (by intros; (repeat' split) <;> simp) _ _
@[simp] theorem alarmNotices_pe (before s : State) :
    (State.alarmNotices before s).pe = s.pe := by
  unfold State.alarmNotices; exact foldl_keeps State.pe _ (by intros; (repeat' split) <;> simp) _ _
@[simp] theorem alarmNotices_dc (before s : State) :
    (State.alarmNotices before s).dc = s.dc := by
  unfold State.alarmNotices; exact foldl_keeps State.dc _ (by intros; (repeat' split) <;> simp) _ _
@[simp] theorem alarmNotices_ru (before s : State) :
    (State.alarmNotices before s).ru = s.ru := by
  unfold State.alarmNotices; exact foldl_keeps State.ru _ (by intros; (repeat' split) <;> simp) _ _
@[simp] theorem raiseAlarm_pending (s : State) (i : AlarmIdentity) (z : ZoneId) (door : Option DoorId) :
    (State.raiseAlarm s i z door).pending = s.pending := by
  simp [State.raiseAlarm]
@[simp] theorem raiseAlarm_fc (s : State) (i : AlarmIdentity) (z : ZoneId) (door : Option DoorId) :
    (State.raiseAlarm s i z door).fc = s.fc := by
  simp [State.raiseAlarm]
@[simp] theorem raiseAlarm_csu (s : State) (i : AlarmIdentity) (z : ZoneId) (door : Option DoorId) :
    (State.raiseAlarm s i z door).csu = s.csu := by
  simp [State.raiseAlarm]
@[simp] theorem raiseAlarm_csc (s : State) (i : AlarmIdentity) (z : ZoneId) (door : Option DoorId) :
    (State.raiseAlarm s i z door).csc = s.csc := by
  simp [State.raiseAlarm]
@[simp] theorem raiseAlarm_pe (s : State) (i : AlarmIdentity) (z : ZoneId) (door : Option DoorId) :
    (State.raiseAlarm s i z door).pe = s.pe := by
  simp [State.raiseAlarm]
@[simp] theorem raiseAlarm_dc (s : State) (i : AlarmIdentity) (z : ZoneId) (door : Option DoorId) :
    (State.raiseAlarm s i z door).dc = s.dc := by
  simp [State.raiseAlarm]
@[simp] theorem raiseAlarm_ru (s : State) (i : AlarmIdentity) (z : ZoneId) (door : Option DoorId) :
    (State.raiseAlarm s i z door).ru = s.ru := by
  simp [State.raiseAlarm]
@[simp] theorem pendantReport_pending (s : State) (z : ZoneId) (pendant : Nat) (kind : PendantKind) :
    (State.pendantReport s z pendant kind).pending = s.pending := by
  unfold State.pendantReport; split <;> simp
@[simp] theorem pendantReport_fc (s : State) (z : ZoneId) (pendant : Nat) (kind : PendantKind) :
    (State.pendantReport s z pendant kind).fc = s.fc := by
  unfold State.pendantReport; split <;> simp
@[simp] theorem pendantReport_csu (s : State) (z : ZoneId) (pendant : Nat) (kind : PendantKind) :
    (State.pendantReport s z pendant kind).csu = s.csu := by
  unfold State.pendantReport; split <;> simp
@[simp] theorem pendantReport_csc (s : State) (z : ZoneId) (pendant : Nat) (kind : PendantKind) :
    (State.pendantReport s z pendant kind).csc = s.csc := by
  unfold State.pendantReport; split <;> simp
@[simp] theorem pendantReport_pe (s : State) (z : ZoneId) (pendant : Nat) (kind : PendantKind) :
    (State.pendantReport s z pendant kind).pe = s.pe := by
  unfold State.pendantReport; split <;> simp
@[simp] theorem pendantReport_dc (s : State) (z : ZoneId) (pendant : Nat) (kind : PendantKind) :
    (State.pendantReport s z pendant kind).dc = s.dc := by
  unfold State.pendantReport; split <;> simp
@[simp] theorem pendantReport_ru (s : State) (z : ZoneId) (pendant : Nat) (kind : PendantKind) :
    (State.pendantReport s z pendant kind).ru = s.ru := by
  unfold State.pendantReport; split <;> simp
@[simp] theorem enterOverdue_pending (s : State) (z : ZoneId) :
    (State.enterOverdue s z).pending = s.pending := by
  unfold State.enterOverdue; dsimp only; (repeat' split) <;> simp
@[simp] theorem enterOverdue_fc (s : State) (z : ZoneId) :
    (State.enterOverdue s z).fc = s.fc := by
  unfold State.enterOverdue; dsimp only; (repeat' split) <;> simp
@[simp] theorem enterOverdue_csu (s : State) (z : ZoneId) :
    (State.enterOverdue s z).csu = s.csu := by
  unfold State.enterOverdue; dsimp only; (repeat' split) <;> simp
@[simp] theorem enterOverdue_csc (s : State) (z : ZoneId) :
    (State.enterOverdue s z).csc = s.csc := by
  unfold State.enterOverdue; dsimp only; (repeat' split) <;> simp
@[simp] theorem enterOverdue_pe (s : State) (z : ZoneId) :
    (State.enterOverdue s z).pe = s.pe := by
  unfold State.enterOverdue; dsimp only; (repeat' split) <;> simp
@[simp] theorem enterOverdue_dc (s : State) (z : ZoneId) :
    (State.enterOverdue s z).dc = s.dc := by
  unfold State.enterOverdue; dsimp only; (repeat' split) <;> simp
@[simp] theorem enterOverdue_ru (s : State) (z : ZoneId) :
    (State.enterOverdue s z).ru = s.ru := by
  unfold State.enterOverdue; dsimp only; (repeat' split) <;> simp
@[simp] theorem ackAlarm_pending (s : State) (i : Nat) (r : AlarmRecord) :
    (State.ackAlarm s i r).pending = s.pending := by
  simp [State.ackAlarm]
@[simp] theorem ackAlarm_rm (s : State) (i : Nat) (r : AlarmRecord) :
    (State.ackAlarm s i r).rm = s.rm := by
  simp [State.ackAlarm]
@[simp] theorem ackAlarm_fc (s : State) (i : Nat) (r : AlarmRecord) :
    (State.ackAlarm s i r).fc = s.fc := by
  simp [State.ackAlarm]
@[simp] theorem ackAlarm_csu (s : State) (i : Nat) (r : AlarmRecord) :
    (State.ackAlarm s i r).csu = s.csu := by
  simp [State.ackAlarm]
@[simp] theorem ackAlarm_csc (s : State) (i : Nat) (r : AlarmRecord) :
    (State.ackAlarm s i r).csc = s.csc := by
  simp [State.ackAlarm]
@[simp] theorem ackAlarm_pe (s : State) (i : Nat) (r : AlarmRecord) :
    (State.ackAlarm s i r).pe = s.pe := by
  simp [State.ackAlarm]
@[simp] theorem ackAlarm_dc (s : State) (i : Nat) (r : AlarmRecord) :
    (State.ackAlarm s i r).dc = s.dc := by
  simp [State.ackAlarm]
@[simp] theorem ackAlarm_ru (s : State) (i : Nat) (r : AlarmRecord) :
    (State.ackAlarm s i r).ru = s.ru := by
  simp [State.ackAlarm]
@[simp] theorem ackAlarm_sc (s : State) (i : Nat) (r : AlarmRecord) :
    (State.ackAlarm s i r).sc = s.sc := by
  simp [State.ackAlarm]
@[simp] theorem clearAlarm_pending (s : State) (i : Nat) :
    (State.clearAlarm s i).pending = s.pending := by
  simp [State.clearAlarm]
@[simp] theorem clearAlarm_fc (s : State) (i : Nat) :
    (State.clearAlarm s i).fc = s.fc := by
  simp [State.clearAlarm]
@[simp] theorem clearAlarm_csu (s : State) (i : Nat) :
    (State.clearAlarm s i).csu = s.csu := by
  simp [State.clearAlarm]
@[simp] theorem clearAlarm_csc (s : State) (i : Nat) :
    (State.clearAlarm s i).csc = s.csc := by
  simp [State.clearAlarm]
@[simp] theorem clearAlarm_pe (s : State) (i : Nat) :
    (State.clearAlarm s i).pe = s.pe := by
  simp [State.clearAlarm]
@[simp] theorem clearAlarm_dc (s : State) (i : Nat) :
    (State.clearAlarm s i).dc = s.dc := by
  simp [State.clearAlarm]
@[simp] theorem clearAlarm_ru (s : State) (i : Nat) :
    (State.clearAlarm s i).ru = s.ru := by
  simp [State.clearAlarm]
@[simp] theorem clearOverflow_pending (s : State) (z : ZoneId) :
    (State.clearOverflow s z).pending = s.pending := by
  unfold State.clearOverflow; dsimp only; (repeat' split) <;> simp
@[simp] theorem clearOverflow_fc (s : State) (z : ZoneId) :
    (State.clearOverflow s z).fc = s.fc := by
  unfold State.clearOverflow; dsimp only; (repeat' split) <;> simp
@[simp] theorem clearOverflow_csu (s : State) (z : ZoneId) :
    (State.clearOverflow s z).csu = s.csu := by
  unfold State.clearOverflow; dsimp only; (repeat' split) <;> simp
@[simp] theorem clearOverflow_csc (s : State) (z : ZoneId) :
    (State.clearOverflow s z).csc = s.csc := by
  unfold State.clearOverflow; dsimp only; (repeat' split) <;> simp
@[simp] theorem clearOverflow_pe (s : State) (z : ZoneId) :
    (State.clearOverflow s z).pe = s.pe := by
  unfold State.clearOverflow; dsimp only; (repeat' split) <;> simp
@[simp] theorem clearOverflow_dc (s : State) (z : ZoneId) :
    (State.clearOverflow s z).dc = s.dc := by
  unfold State.clearOverflow; dsimp only; (repeat' split) <;> simp
@[simp] theorem clearOverflow_ru (s : State) (z : ZoneId) :
    (State.clearOverflow s z).ru = s.ru := by
  unfold State.clearOverflow; dsimp only; (repeat' split) <;> simp

/-! ## Machine/Roster.lean -/

@[simp] theorem giveZoneNotice_pending (s : State) (z : ZoneId) (n : ZoneNotice) :
    (State.giveZoneNotice s z n).pending = s.pending := by
  simp [State.giveZoneNotice]
@[simp] theorem giveZoneNotice_fc (s : State) (z : ZoneId) (n : ZoneNotice) :
    (State.giveZoneNotice s z n).fc = s.fc := by
  simp [State.giveZoneNotice]
@[simp] theorem giveZoneNotice_csu (s : State) (z : ZoneId) (n : ZoneNotice) :
    (State.giveZoneNotice s z n).csu = s.csu := by
  simp [State.giveZoneNotice]
@[simp] theorem giveZoneNotice_csc (s : State) (z : ZoneId) (n : ZoneNotice) :
    (State.giveZoneNotice s z n).csc = s.csc := by
  simp [State.giveZoneNotice]
@[simp] theorem giveZoneNotice_pe (s : State) (z : ZoneId) (n : ZoneNotice) :
    (State.giveZoneNotice s z n).pe = s.pe := by
  simp [State.giveZoneNotice]
@[simp] theorem giveZoneNotice_dc (s : State) (z : ZoneId) (n : ZoneNotice) :
    (State.giveZoneNotice s z n).dc = s.dc := by
  simp [State.giveZoneNotice]
@[simp] theorem giveZoneNotice_ru (s : State) (z : ZoneId) (n : ZoneNotice) :
    (State.giveZoneNotice s z n).ru = s.ru := by
  simp [State.giveZoneNotice]
@[simp] theorem zoneNotices_pending (before s : State) :
    (State.zoneNotices before s).pending = s.pending := by
  unfold State.zoneNotices; exact foldl_keeps State.pending _ (by intros; (repeat' split) <;> simp) _ _
@[simp] theorem zoneNotices_fc (before s : State) :
    (State.zoneNotices before s).fc = s.fc := by
  unfold State.zoneNotices; exact foldl_keeps State.fc _ (by intros; (repeat' split) <;> simp) _ _
@[simp] theorem zoneNotices_csu (before s : State) :
    (State.zoneNotices before s).csu = s.csu := by
  unfold State.zoneNotices; exact foldl_keeps State.csu _ (by intros; (repeat' split) <;> simp) _ _
@[simp] theorem zoneNotices_csc (before s : State) :
    (State.zoneNotices before s).csc = s.csc := by
  unfold State.zoneNotices; exact foldl_keeps State.csc _ (by intros; (repeat' split) <;> simp) _ _
@[simp] theorem zoneNotices_pe (before s : State) :
    (State.zoneNotices before s).pe = s.pe := by
  unfold State.zoneNotices; exact foldl_keeps State.pe _ (by intros; (repeat' split) <;> simp) _ _
@[simp] theorem zoneNotices_dc (before s : State) :
    (State.zoneNotices before s).dc = s.dc := by
  unfold State.zoneNotices; exact foldl_keeps State.dc _ (by intros; (repeat' split) <;> simp) _ _
@[simp] theorem zoneNotices_ru (before s : State) :
    (State.zoneNotices before s).ru = s.ru := by
  unfold State.zoneNotices; exact foldl_keeps State.ru _ (by intros; (repeat' split) <;> simp) _ _
@[simp] theorem reannounce_pending (s : State) :
    (State.reannounce s).pending = s.pending := by
  unfold State.reannounce; exact foldl_keeps State.pending _ (by intros; (repeat' split) <;> simp) _ _
@[simp] theorem reannounce_fc (s : State) :
    (State.reannounce s).fc = s.fc := by
  unfold State.reannounce; exact foldl_keeps State.fc _ (by intros; (repeat' split) <;> simp) _ _
@[simp] theorem reannounce_csu (s : State) :
    (State.reannounce s).csu = s.csu := by
  unfold State.reannounce; exact foldl_keeps State.csu _ (by intros; (repeat' split) <;> simp) _ _
@[simp] theorem reannounce_csc (s : State) :
    (State.reannounce s).csc = s.csc := by
  unfold State.reannounce; exact foldl_keeps State.csc _ (by intros; (repeat' split) <;> simp) _ _
@[simp] theorem reannounce_pe (s : State) :
    (State.reannounce s).pe = s.pe := by
  unfold State.reannounce; exact foldl_keeps State.pe _ (by intros; (repeat' split) <;> simp) _ _
@[simp] theorem reannounce_dc (s : State) :
    (State.reannounce s).dc = s.dc := by
  unfold State.reannounce; exact foldl_keeps State.dc _ (by intros; (repeat' split) <;> simp) _ _
@[simp] theorem reannounce_ru (s : State) :
    (State.reannounce s).ru = s.ru := by
  unfold State.reannounce; exact foldl_keeps State.ru _ (by intros; (repeat' split) <;> simp) _ _
@[simp] theorem makeUnknown_pending (s : State) (z : ZoneId) (r : UnknownReason) :
    (State.makeUnknown s z r).pending = s.pending := by
  unfold State.makeUnknown; split <;> simp
@[simp] theorem makeUnknown_rm (s : State) (z : ZoneId) (r : UnknownReason) :
    (State.makeUnknown s z r).rm = s.rm := by
  unfold State.makeUnknown; split <;> simp
@[simp] theorem makeUnknown_fc (s : State) (z : ZoneId) (r : UnknownReason) :
    (State.makeUnknown s z r).fc = s.fc := by
  unfold State.makeUnknown; split <;> simp
@[simp] theorem makeUnknown_csu (s : State) (z : ZoneId) (r : UnknownReason) :
    (State.makeUnknown s z r).csu = s.csu := by
  unfold State.makeUnknown; split <;> simp
@[simp] theorem makeUnknown_csc (s : State) (z : ZoneId) (r : UnknownReason) :
    (State.makeUnknown s z r).csc = s.csc := by
  unfold State.makeUnknown; split <;> simp
@[simp] theorem makeUnknown_pe (s : State) (z : ZoneId) (r : UnknownReason) :
    (State.makeUnknown s z r).pe = s.pe := by
  unfold State.makeUnknown; split <;> simp
@[simp] theorem makeUnknown_dc (s : State) (z : ZoneId) (r : UnknownReason) :
    (State.makeUnknown s z r).dc = s.dc := by
  unfold State.makeUnknown; split <;> simp
@[simp] theorem makeUnknown_sc (s : State) (z : ZoneId) (r : UnknownReason) :
    (State.makeUnknown s z r).sc = s.sc := by
  unfold State.makeUnknown; split <;> simp
@[simp] theorem makeUnknown_sau (s : State) (z : ZoneId) (r : UnknownReason) :
    (State.makeUnknown s z r).sau = s.sau := by
  unfold State.makeUnknown; split <;> simp
@[simp] theorem makeBothUnknown_pending (s : State) (outer inner : ZoneId) :
    (State.makeBothUnknown s outer inner).pending = s.pending := by
  simp [State.makeBothUnknown]
@[simp] theorem makeBothUnknown_rm (s : State) (outer inner : ZoneId) :
    (State.makeBothUnknown s outer inner).rm = s.rm := by
  simp [State.makeBothUnknown]
@[simp] theorem makeBothUnknown_fc (s : State) (outer inner : ZoneId) :
    (State.makeBothUnknown s outer inner).fc = s.fc := by
  simp [State.makeBothUnknown]
@[simp] theorem makeBothUnknown_csu (s : State) (outer inner : ZoneId) :
    (State.makeBothUnknown s outer inner).csu = s.csu := by
  simp [State.makeBothUnknown]
@[simp] theorem makeBothUnknown_csc (s : State) (outer inner : ZoneId) :
    (State.makeBothUnknown s outer inner).csc = s.csc := by
  simp [State.makeBothUnknown]
@[simp] theorem makeBothUnknown_pe (s : State) (outer inner : ZoneId) :
    (State.makeBothUnknown s outer inner).pe = s.pe := by
  simp [State.makeBothUnknown]
@[simp] theorem makeBothUnknown_dc (s : State) (outer inner : ZoneId) :
    (State.makeBothUnknown s outer inner).dc = s.dc := by
  simp [State.makeBothUnknown]
@[simp] theorem makeBothUnknown_sc (s : State) (outer inner : ZoneId) :
    (State.makeBothUnknown s outer inner).sc = s.sc := by
  simp [State.makeBothUnknown]
@[simp] theorem makeBothUnknown_sau (s : State) (outer inner : ZoneId) :
    (State.makeBothUnknown s outer inner).sau = s.sau := by
  simp [State.makeBothUnknown]
@[simp] theorem removeEntry_pending (s : State) (number : Nat) :
    (State.removeEntry s number).pending = s.pending := by
  unfold State.removeEntry; exact foldl_keeps State.pending _ (by intros; (repeat' split) <;> simp) _ _
@[simp] theorem removeEntry_rm (s : State) (number : Nat) :
    (State.removeEntry s number).rm = s.rm := by
  unfold State.removeEntry; exact foldl_keeps State.rm _ (by intros; (repeat' split) <;> simp) _ _
@[simp] theorem removeEntry_fc (s : State) (number : Nat) :
    (State.removeEntry s number).fc = s.fc := by
  unfold State.removeEntry; exact foldl_keeps State.fc _ (by intros; (repeat' split) <;> simp) _ _
@[simp] theorem removeEntry_csu (s : State) (number : Nat) :
    (State.removeEntry s number).csu = s.csu := by
  unfold State.removeEntry; exact foldl_keeps State.csu _ (by intros; (repeat' split) <;> simp) _ _
@[simp] theorem removeEntry_csc (s : State) (number : Nat) :
    (State.removeEntry s number).csc = s.csc := by
  unfold State.removeEntry; exact foldl_keeps State.csc _ (by intros; (repeat' split) <;> simp) _ _
@[simp] theorem removeEntry_pe (s : State) (number : Nat) :
    (State.removeEntry s number).pe = s.pe := by
  unfold State.removeEntry; exact foldl_keeps State.pe _ (by intros; (repeat' split) <;> simp) _ _
@[simp] theorem removeEntry_dc (s : State) (number : Nat) :
    (State.removeEntry s number).dc = s.dc := by
  unfold State.removeEntry; exact foldl_keeps State.dc _ (by intros; (repeat' split) <;> simp) _ _
@[simp] theorem removeEntry_sc (s : State) (number : Nat) :
    (State.removeEntry s number).sc = s.sc := by
  unfold State.removeEntry; exact foldl_keeps State.sc _ (by intros; (repeat' split) <;> simp) _ _
@[simp] theorem removeEntry_sau (s : State) (number : Nat) :
    (State.removeEntry s number).sau = s.sau := by
  unfold State.removeEntry; exact foldl_keeps State.sau _ (by intros; (repeat' split) <;> simp) _ _
@[simp] theorem removeEntry_sp (s : State) (number : Nat) :
    (State.removeEntry s number).sp = s.sp := by
  unfold State.removeEntry; exact foldl_keeps State.sp _ (by intros; (repeat' split) <;> simp) _ _
@[simp] theorem moveCredential_pending (s : State) (door : DoorId) (dest : ZoneId) (custodian : Bool) (c : PassageCred) :
    (State.moveCredential s door dest custodian c).pending = s.pending := by
  unfold State.moveCredential; dsimp only; (repeat' split) <;> simp
@[simp] theorem moveCredential_rm (s : State) (door : DoorId) (dest : ZoneId) (custodian : Bool) (c : PassageCred) :
    (State.moveCredential s door dest custodian c).rm = s.rm := by
  unfold State.moveCredential; dsimp only; (repeat' split) <;> simp
@[simp] theorem moveCredential_fc (s : State) (door : DoorId) (dest : ZoneId) (custodian : Bool) (c : PassageCred) :
    (State.moveCredential s door dest custodian c).fc = s.fc := by
  unfold State.moveCredential; dsimp only; (repeat' split) <;> simp
@[simp] theorem moveCredential_csu (s : State) (door : DoorId) (dest : ZoneId) (custodian : Bool) (c : PassageCred) :
    (State.moveCredential s door dest custodian c).csu = s.csu := by
  unfold State.moveCredential; dsimp only; (repeat' split) <;> simp
@[simp] theorem moveCredential_csc (s : State) (door : DoorId) (dest : ZoneId) (custodian : Bool) (c : PassageCred) :
    (State.moveCredential s door dest custodian c).csc = s.csc := by
  unfold State.moveCredential; dsimp only; (repeat' split) <;> simp
@[simp] theorem moveCredential_pe (s : State) (door : DoorId) (dest : ZoneId) (custodian : Bool) (c : PassageCred) :
    (State.moveCredential s door dest custodian c).pe = s.pe := by
  unfold State.moveCredential; dsimp only; (repeat' split) <;> simp
@[simp] theorem moveCredential_dc (s : State) (door : DoorId) (dest : ZoneId) (custodian : Bool) (c : PassageCred) :
    (State.moveCredential s door dest custodian c).dc = s.dc := by
  unfold State.moveCredential; dsimp only; (repeat' split) <;> simp
@[simp] theorem moveCredential_sc (s : State) (door : DoorId) (dest : ZoneId) (custodian : Bool) (c : PassageCred) :
    (State.moveCredential s door dest custodian c).sc = s.sc := by
  unfold State.moveCredential; dsimp only; (repeat' split) <;> simp
@[simp] theorem moveCredential_sau (s : State) (door : DoorId) (dest : ZoneId) (custodian : Bool) (c : PassageCred) :
    (State.moveCredential s door dest custodian c).sau = s.sau := by
  unfold State.moveCredential; dsimp only; (repeat' split) <;> simp
@[simp] theorem applyPassage_pending (s : State) (door : DoorId) (p : Passage) :
    (State.applyPassage s door p).pending = s.pending := by
  unfold State.applyPassage; split
  · exact foldl_keeps State.pending _ (by intros; simp) _ _
  · simp
@[simp] theorem applyPassage_rm (s : State) (door : DoorId) (p : Passage) :
    (State.applyPassage s door p).rm = s.rm := by
  unfold State.applyPassage; split
  · exact foldl_keeps State.rm _ (by intros; simp) _ _
  · simp
@[simp] theorem applyPassage_fc (s : State) (door : DoorId) (p : Passage) :
    (State.applyPassage s door p).fc = s.fc := by
  unfold State.applyPassage; split
  · exact foldl_keeps State.fc _ (by intros; simp) _ _
  · simp
@[simp] theorem applyPassage_csu (s : State) (door : DoorId) (p : Passage) :
    (State.applyPassage s door p).csu = s.csu := by
  unfold State.applyPassage; split
  · exact foldl_keeps State.csu _ (by intros; simp) _ _
  · simp
@[simp] theorem applyPassage_csc (s : State) (door : DoorId) (p : Passage) :
    (State.applyPassage s door p).csc = s.csc := by
  unfold State.applyPassage; split
  · exact foldl_keeps State.csc _ (by intros; simp) _ _
  · simp
@[simp] theorem applyPassage_pe (s : State) (door : DoorId) (p : Passage) :
    (State.applyPassage s door p).pe = s.pe := by
  unfold State.applyPassage; split
  · exact foldl_keeps State.pe _ (by intros; simp) _ _
  · simp
@[simp] theorem applyPassage_dc (s : State) (door : DoorId) (p : Passage) :
    (State.applyPassage s door p).dc = s.dc := by
  unfold State.applyPassage; split
  · exact foldl_keeps State.dc _ (by intros; simp) _ _
  · simp
@[simp] theorem applyPassage_sc (s : State) (door : DoorId) (p : Passage) :
    (State.applyPassage s door p).sc = s.sc := by
  unfold State.applyPassage; split
  · exact foldl_keeps State.sc _ (by intros; simp) _ _
  · simp
@[simp] theorem applyPassage_sau (s : State) (door : DoorId) (p : Passage) :
    (State.applyPassage s door p).sau = s.sau := by
  unfold State.applyPassage; split
  · exact foldl_keeps State.sau _ (by intros; simp) _ _
  · simp
@[simp] theorem openingNotice_pending (s : State) (outer inner : ZoneId) :
    (State.openingNotice s outer inner).pending = s.pending := by
  simp [State.openingNotice]
@[simp] theorem openingNotice_fc (s : State) (outer inner : ZoneId) :
    (State.openingNotice s outer inner).fc = s.fc := by
  simp [State.openingNotice]
@[simp] theorem openingNotice_csu (s : State) (outer inner : ZoneId) :
    (State.openingNotice s outer inner).csu = s.csu := by
  simp [State.openingNotice]
@[simp] theorem openingNotice_csc (s : State) (outer inner : ZoneId) :
    (State.openingNotice s outer inner).csc = s.csc := by
  simp [State.openingNotice]
@[simp] theorem openingNotice_pe (s : State) (outer inner : ZoneId) :
    (State.openingNotice s outer inner).pe = s.pe := by
  simp [State.openingNotice]
@[simp] theorem openingNotice_dc (s : State) (outer inner : ZoneId) :
    (State.openingNotice s outer inner).dc = s.dc := by
  simp [State.openingNotice]
@[simp] theorem verify_pending (s : State) (z : ZoneId) (r : VerifyReason) :
    (State.verify s z r).pending = s.pending := by
  simp [State.verify]
@[simp] theorem verify_fc (s : State) (z : ZoneId) (r : VerifyReason) :
    (State.verify s z r).fc = s.fc := by
  simp [State.verify]
@[simp] theorem verify_csu (s : State) (z : ZoneId) (r : VerifyReason) :
    (State.verify s z r).csu = s.csu := by
  simp [State.verify]
@[simp] theorem verify_csc (s : State) (z : ZoneId) (r : VerifyReason) :
    (State.verify s z r).csc = s.csc := by
  simp [State.verify]
@[simp] theorem verify_pe (s : State) (z : ZoneId) (r : VerifyReason) :
    (State.verify s z r).pe = s.pe := by
  simp [State.verify]
@[simp] theorem verify_dc (s : State) (z : ZoneId) (r : VerifyReason) :
    (State.verify s z r).dc = s.dc := by
  simp [State.verify]
@[simp] theorem clearKeyNotice_pending (s : State) (z : ZoneId) :
    (State.clearKeyNotice s z).pending = s.pending := by
  unfold State.clearKeyNotice; split <;> simp
@[simp] theorem clearKeyNotice_fc (s : State) (z : ZoneId) :
    (State.clearKeyNotice s z).fc = s.fc := by
  unfold State.clearKeyNotice; split <;> simp
@[simp] theorem clearKeyNotice_csu (s : State) (z : ZoneId) :
    (State.clearKeyNotice s z).csu = s.csu := by
  unfold State.clearKeyNotice; split <;> simp
@[simp] theorem clearKeyNotice_csc (s : State) (z : ZoneId) :
    (State.clearKeyNotice s z).csc = s.csc := by
  unfold State.clearKeyNotice; split <;> simp
@[simp] theorem clearKeyNotice_pe (s : State) (z : ZoneId) :
    (State.clearKeyNotice s z).pe = s.pe := by
  unfold State.clearKeyNotice; split <;> simp
@[simp] theorem clearKeyNotice_dc (s : State) (z : ZoneId) :
    (State.clearKeyNotice s z).dc = s.dc := by
  unfold State.clearKeyNotice; split <;> simp

/-! ## Machine/Doors.lean -/

@[simp] theorem postDoor_pending (s : State) (kind : EventKind) (d : DoorId) (subject : Option Subject) (reason : Option Nat) :
    (State.postDoor s kind d subject reason).pending = s.pending := by
  simp [State.postDoor]
@[simp] theorem postDoor_rm (s : State) (kind : EventKind) (d : DoorId) (subject : Option Subject) (reason : Option Nat) :
    (State.postDoor s kind d subject reason).rm = s.rm := by
  simp [State.postDoor]
@[simp] theorem postDoor_fc (s : State) (kind : EventKind) (d : DoorId) (subject : Option Subject) (reason : Option Nat) :
    (State.postDoor s kind d subject reason).fc = s.fc := by
  simp [State.postDoor]
@[simp] theorem postDoor_csu (s : State) (kind : EventKind) (d : DoorId) (subject : Option Subject) (reason : Option Nat) :
    (State.postDoor s kind d subject reason).csu = s.csu := by
  simp [State.postDoor]
@[simp] theorem postDoor_csc (s : State) (kind : EventKind) (d : DoorId) (subject : Option Subject) (reason : Option Nat) :
    (State.postDoor s kind d subject reason).csc = s.csc := by
  simp [State.postDoor]
@[simp] theorem postDoor_pe (s : State) (kind : EventKind) (d : DoorId) (subject : Option Subject) (reason : Option Nat) :
    (State.postDoor s kind d subject reason).pe = s.pe := by
  simp [State.postDoor]
@[simp] theorem postDoor_dc (s : State) (kind : EventKind) (d : DoorId) (subject : Option Subject) (reason : Option Nat) :
    (State.postDoor s kind d subject reason).dc = s.dc := by
  simp [State.postDoor]
@[simp] theorem postDoor_ru (s : State) (kind : EventKind) (d : DoorId) (subject : Option Subject) (reason : Option Nat) :
    (State.postDoor s kind d subject reason).ru = s.ru := by
  simp [State.postDoor]
@[simp] theorem postDoor_sc (s : State) (kind : EventKind) (d : DoorId) (subject : Option Subject) (reason : Option Nat) :
    (State.postDoor s kind d subject reason).sc = s.sc := by
  simp [State.postDoor]
@[simp] theorem postDoor_sau (s : State) (kind : EventKind) (d : DoorId) (subject : Option Subject) (reason : Option Nat) :
    (State.postDoor s kind d subject reason).sau = s.sau := by
  simp [State.postDoor]
@[simp] theorem setContact_pending (s : State) (d : DoorId) (c : Contact) :
    (State.setContact s d c).pending = s.pending := by
  unfold State.setContact; dsimp only; (repeat' split) <;> simp
@[simp] theorem setContact_fc (s : State) (d : DoorId) (c : Contact) :
    (State.setContact s d c).fc = s.fc := by
  unfold State.setContact; dsimp only; (repeat' split) <;> simp
@[simp] theorem setContact_csu (s : State) (d : DoorId) (c : Contact) :
    (State.setContact s d c).csu = s.csu := by
  unfold State.setContact; dsimp only; (repeat' split) <;> simp
@[simp] theorem setContact_csc (s : State) (d : DoorId) (c : Contact) :
    (State.setContact s d c).csc = s.csc := by
  unfold State.setContact; dsimp only; (repeat' split) <;> simp
@[simp] theorem setContact_pe (s : State) (d : DoorId) (c : Contact) :
    (State.setContact s d c).pe = s.pe := by
  unfold State.setContact; dsimp only; (repeat' split) <;> simp
@[simp] theorem setContact_ru (s : State) (d : DoorId) (c : Contact) :
    (State.setContact s d c).ru = s.ru := by
  unfold State.setContact; dsimp only; (repeat' split) <;> simp
@[simp] theorem postPassage_pending (s : State) (d : DoorId) (p : Passage) :
    (State.postPassage s d p).pending = s.pending := by
  simp [State.postPassage]
@[simp] theorem postPassage_rm (s : State) (d : DoorId) (p : Passage) :
    (State.postPassage s d p).rm = s.rm := by
  simp [State.postPassage]
@[simp] theorem postPassage_fc (s : State) (d : DoorId) (p : Passage) :
    (State.postPassage s d p).fc = s.fc := by
  simp [State.postPassage]
@[simp] theorem postPassage_csu (s : State) (d : DoorId) (p : Passage) :
    (State.postPassage s d p).csu = s.csu := by
  simp [State.postPassage]
@[simp] theorem postPassage_csc (s : State) (d : DoorId) (p : Passage) :
    (State.postPassage s d p).csc = s.csc := by
  simp [State.postPassage]
@[simp] theorem postPassage_pe (s : State) (d : DoorId) (p : Passage) :
    (State.postPassage s d p).pe = s.pe := by
  simp [State.postPassage]
@[simp] theorem postPassage_dc (s : State) (d : DoorId) (p : Passage) :
    (State.postPassage s d p).dc = s.dc := by
  simp [State.postPassage]
@[simp] theorem postPassage_ru (s : State) (d : DoorId) (p : Passage) :
    (State.postPassage s d p).ru = s.ru := by
  simp [State.postPassage]
@[simp] theorem postPassage_sc (s : State) (d : DoorId) (p : Passage) :
    (State.postPassage s d p).sc = s.sc := by
  simp [State.postPassage]
@[simp] theorem postPassage_sau (s : State) (d : DoorId) (p : Passage) :
    (State.postPassage s d p).sau = s.sau := by
  simp [State.postPassage]
@[simp] theorem postUnused_pending (s : State) (d : DoorId) (p : Passage) (r : UnusedReason) :
    (State.postUnused s d p r).pending = s.pending := by
  simp [State.postUnused]
@[simp] theorem postUnused_rm (s : State) (d : DoorId) (p : Passage) (r : UnusedReason) :
    (State.postUnused s d p r).rm = s.rm := by
  simp [State.postUnused]
@[simp] theorem postUnused_fc (s : State) (d : DoorId) (p : Passage) (r : UnusedReason) :
    (State.postUnused s d p r).fc = s.fc := by
  simp [State.postUnused]
@[simp] theorem postUnused_csu (s : State) (d : DoorId) (p : Passage) (r : UnusedReason) :
    (State.postUnused s d p r).csu = s.csu := by
  simp [State.postUnused]
@[simp] theorem postUnused_csc (s : State) (d : DoorId) (p : Passage) (r : UnusedReason) :
    (State.postUnused s d p r).csc = s.csc := by
  simp [State.postUnused]
@[simp] theorem postUnused_pe (s : State) (d : DoorId) (p : Passage) (r : UnusedReason) :
    (State.postUnused s d p r).pe = s.pe := by
  simp [State.postUnused]
@[simp] theorem postUnused_dc (s : State) (d : DoorId) (p : Passage) (r : UnusedReason) :
    (State.postUnused s d p r).dc = s.dc := by
  simp [State.postUnused]
@[simp] theorem postUnused_ru (s : State) (d : DoorId) (p : Passage) (r : UnusedReason) :
    (State.postUnused s d p r).ru = s.ru := by
  simp [State.postUnused]
@[simp] theorem postUnused_sc (s : State) (d : DoorId) (p : Passage) (r : UnusedReason) :
    (State.postUnused s d p r).sc = s.sc := by
  simp [State.postUnused]
@[simp] theorem postUnused_sau (s : State) (d : DoorId) (p : Passage) (r : UnusedReason) :
    (State.postUnused s d p r).sau = s.sau := by
  simp [State.postUnused]
@[simp] theorem confirmPassage_pending (s : State) (d : DoorId) (p : Passage) :
    (State.confirmPassage s d p).pending = s.pending := by
  simp [State.confirmPassage]
@[simp] theorem confirmPassage_fc (s : State) (d : DoorId) (p : Passage) :
    (State.confirmPassage s d p).fc = s.fc := by
  simp [State.confirmPassage]
@[simp] theorem confirmPassage_csu (s : State) (d : DoorId) (p : Passage) :
    (State.confirmPassage s d p).csu = s.csu := by
  simp [State.confirmPassage]
@[simp] theorem confirmPassage_csc (s : State) (d : DoorId) (p : Passage) :
    (State.confirmPassage s d p).csc = s.csc := by
  simp [State.confirmPassage]
@[simp] theorem confirmPassage_pe (s : State) (d : DoorId) (p : Passage) :
    (State.confirmPassage s d p).pe = s.pe := by
  simp [State.confirmPassage]
@[simp] theorem confirmPassage_dc (s : State) (d : DoorId) (p : Passage) :
    (State.confirmPassage s d p).dc = s.dc := by
  simp [State.confirmPassage]
@[simp] theorem confirmWithEgress_pending (s : State) (d : DoorId) (p : Passage) :
    (State.confirmWithEgress s d p).pending = s.pending := by
  simp [State.confirmWithEgress]
@[simp] theorem confirmWithEgress_fc (s : State) (d : DoorId) (p : Passage) :
    (State.confirmWithEgress s d p).fc = s.fc := by
  simp [State.confirmWithEgress]
@[simp] theorem confirmWithEgress_csu (s : State) (d : DoorId) (p : Passage) :
    (State.confirmWithEgress s d p).csu = s.csu := by
  simp [State.confirmWithEgress]
@[simp] theorem confirmWithEgress_csc (s : State) (d : DoorId) (p : Passage) :
    (State.confirmWithEgress s d p).csc = s.csc := by
  simp [State.confirmWithEgress]
@[simp] theorem confirmWithEgress_pe (s : State) (d : DoorId) (p : Passage) :
    (State.confirmWithEgress s d p).pe = s.pe := by
  simp [State.confirmWithEgress]
@[simp] theorem confirmWithEgress_dc (s : State) (d : DoorId) (p : Passage) :
    (State.confirmWithEgress s d p).dc = s.dc := by
  simp [State.confirmWithEgress]
@[simp] theorem doorOpening_pending (s : State) (d : DoorId) :
    (State.doorOpening s d).pending = s.pending := by
  simp [State.doorOpening]
@[simp] theorem doorOpening_fc (s : State) (d : DoorId) :
    (State.doorOpening s d).fc = s.fc := by
  simp [State.doorOpening]
@[simp] theorem doorOpening_csu (s : State) (d : DoorId) :
    (State.doorOpening s d).csu = s.csu := by
  simp [State.doorOpening]
@[simp] theorem doorOpening_csc (s : State) (d : DoorId) :
    (State.doorOpening s d).csc = s.csc := by
  simp [State.doorOpening]
@[simp] theorem doorOpening_pe (s : State) (d : DoorId) :
    (State.doorOpening s d).pe = s.pe := by
  simp [State.doorOpening]
@[simp] theorem doorOpening_dc (s : State) (d : DoorId) :
    (State.doorOpening s d).dc = s.dc := by
  simp [State.doorOpening]
@[simp] theorem unattributed_pending (s : State) (d : DoorId) (r : EgressReason) :
    (State.unattributed s d r).pending = s.pending := by
  simp [State.unattributed]
@[simp] theorem unattributed_fc (s : State) (d : DoorId) (r : EgressReason) :
    (State.unattributed s d r).fc = s.fc := by
  simp [State.unattributed]
@[simp] theorem unattributed_csu (s : State) (d : DoorId) (r : EgressReason) :
    (State.unattributed s d r).csu = s.csu := by
  simp [State.unattributed]
@[simp] theorem unattributed_csc (s : State) (d : DoorId) (r : EgressReason) :
    (State.unattributed s d r).csc = s.csc := by
  simp [State.unattributed]
@[simp] theorem unattributed_pe (s : State) (d : DoorId) (r : EgressReason) :
    (State.unattributed s d r).pe = s.pe := by
  simp [State.unattributed]
@[simp] theorem unattributed_dc (s : State) (d : DoorId) (r : EgressReason) :
    (State.unattributed s d r).dc = s.dc := by
  simp [State.unattributed]
@[simp] theorem setOpen_pending (s : State) (d : DoorId) :
    (State.setOpen s d).pending = s.pending := by
  simp [State.setOpen]
@[simp] theorem setOpen_rm (s : State) (d : DoorId) :
    (State.setOpen s d).rm = s.rm := by
  simp [State.setOpen]
@[simp] theorem setOpen_fc (s : State) (d : DoorId) :
    (State.setOpen s d).fc = s.fc := by
  simp [State.setOpen]
@[simp] theorem setOpen_csu (s : State) (d : DoorId) :
    (State.setOpen s d).csu = s.csu := by
  simp [State.setOpen]
@[simp] theorem setOpen_csc (s : State) (d : DoorId) :
    (State.setOpen s d).csc = s.csc := by
  simp [State.setOpen]
@[simp] theorem setOpen_pe (s : State) (d : DoorId) :
    (State.setOpen s d).pe = s.pe := by
  simp [State.setOpen]
@[simp] theorem setOpen_ru (s : State) (d : DoorId) :
    (State.setOpen s d).ru = s.ru := by
  simp [State.setOpen]
@[simp] theorem setOpen_sc (s : State) (d : DoorId) :
    (State.setOpen s d).sc = s.sc := by
  simp [State.setOpen]
@[simp] theorem setOpen_sau (s : State) (d : DoorId) :
    (State.setOpen s d).sau = s.sau := by
  simp [State.setOpen]
@[simp] theorem setOpen_sp (s : State) (d : DoorId) :
    (State.setOpen s d).sp = s.sp := by
  simp [State.setOpen]
@[simp] theorem judgeOpening_pending (s : State) (d : DoorId) (from' : Contact) (handle : Bool) :
    (State.judgeOpening s d from' handle).pending = s.pending := by
  unfold State.judgeOpening; (repeat' split) <;> simp
@[simp] theorem judgeOpening_fc (s : State) (d : DoorId) (from' : Contact) (handle : Bool) :
    (State.judgeOpening s d from' handle).fc = s.fc := by
  unfold State.judgeOpening; (repeat' split) <;> simp
@[simp] theorem judgeOpening_csu (s : State) (d : DoorId) (from' : Contact) (handle : Bool) :
    (State.judgeOpening s d from' handle).csu = s.csu := by
  unfold State.judgeOpening; (repeat' split) <;> simp
@[simp] theorem judgeOpening_csc (s : State) (d : DoorId) (from' : Contact) (handle : Bool) :
    (State.judgeOpening s d from' handle).csc = s.csc := by
  unfold State.judgeOpening; (repeat' split) <;> simp
@[simp] theorem judgeOpening_pe (s : State) (d : DoorId) (from' : Contact) (handle : Bool) :
    (State.judgeOpening s d from' handle).pe = s.pe := by
  unfold State.judgeOpening; (repeat' split) <;> simp
@[simp] theorem setHeldOpen_pending (s : State) (d : DoorId) :
    (State.setHeldOpen s d).pending = s.pending := by
  simp [State.setHeldOpen]
@[simp] theorem setHeldOpen_rm (s : State) (d : DoorId) :
    (State.setHeldOpen s d).rm = s.rm := by
  simp [State.setHeldOpen]
@[simp] theorem setHeldOpen_fc (s : State) (d : DoorId) :
    (State.setHeldOpen s d).fc = s.fc := by
  simp [State.setHeldOpen]
@[simp] theorem setHeldOpen_csu (s : State) (d : DoorId) :
    (State.setHeldOpen s d).csu = s.csu := by
  simp [State.setHeldOpen]
@[simp] theorem setHeldOpen_csc (s : State) (d : DoorId) :
    (State.setHeldOpen s d).csc = s.csc := by
  simp [State.setHeldOpen]
@[simp] theorem setHeldOpen_pe (s : State) (d : DoorId) :
    (State.setHeldOpen s d).pe = s.pe := by
  simp [State.setHeldOpen]
@[simp] theorem setHeldOpen_ru (s : State) (d : DoorId) :
    (State.setHeldOpen s d).ru = s.ru := by
  simp [State.setHeldOpen]
@[simp] theorem setHeldOpen_sc (s : State) (d : DoorId) :
    (State.setHeldOpen s d).sc = s.sc := by
  simp [State.setHeldOpen]
@[simp] theorem setHeldOpen_sau (s : State) (d : DoorId) :
    (State.setHeldOpen s d).sau = s.sau := by
  simp [State.setHeldOpen]
@[simp] theorem faultEndsOpen_pending (s : State) (d : DoorId) :
    (State.faultEndsOpen s d).pending = s.pending := by
  simp [State.faultEndsOpen]
@[simp] theorem faultEndsOpen_fc (s : State) (d : DoorId) :
    (State.faultEndsOpen s d).fc = s.fc := by
  simp [State.faultEndsOpen]
@[simp] theorem faultEndsOpen_csu (s : State) (d : DoorId) :
    (State.faultEndsOpen s d).csu = s.csu := by
  simp [State.faultEndsOpen]
@[simp] theorem faultEndsOpen_csc (s : State) (d : DoorId) :
    (State.faultEndsOpen s d).csc = s.csc := by
  simp [State.faultEndsOpen]
@[simp] theorem faultEndsOpen_pe (s : State) (d : DoorId) :
    (State.faultEndsOpen s d).pe = s.pe := by
  simp [State.faultEndsOpen]
@[simp] theorem refuseAt_pending (s : State) (d : DoorId) (reader : Option DevIx) (m : Message) (number : Nat) (r : DenyReason) :
    (State.refuseAt s d reader m number r).pending = s.pending := by
  simp [State.refuseAt]
@[simp] theorem refuseAt_fc (s : State) (d : DoorId) (reader : Option DevIx) (m : Message) (number : Nat) (r : DenyReason) :
    (State.refuseAt s d reader m number r).fc = s.fc := by
  simp [State.refuseAt]
@[simp] theorem refuseAt_csu (s : State) (d : DoorId) (reader : Option DevIx) (m : Message) (number : Nat) (r : DenyReason) :
    (State.refuseAt s d reader m number r).csu = s.csu := by
  simp [State.refuseAt]
@[simp] theorem refuseAt_csc (s : State) (d : DoorId) (reader : Option DevIx) (m : Message) (number : Nat) (r : DenyReason) :
    (State.refuseAt s d reader m number r).csc = s.csc := by
  simp [State.refuseAt]
@[simp] theorem refuseAt_pe (s : State) (d : DoorId) (reader : Option DevIx) (m : Message) (number : Nat) (r : DenyReason) :
    (State.refuseAt s d reader m number r).pe = s.pe := by
  simp [State.refuseAt]
@[simp] theorem refuseAt_dc (s : State) (d : DoorId) (reader : Option DevIx) (m : Message) (number : Nat) (r : DenyReason) :
    (State.refuseAt s d reader m number r).dc = s.dc := by
  simp [State.refuseAt]
@[simp] theorem refuseAt_ru (s : State) (d : DoorId) (reader : Option DevIx) (m : Message) (number : Nat) (r : DenyReason) :
    (State.refuseAt s d reader m number r).ru = s.ru := by
  simp [State.refuseAt]
@[simp] theorem refuseAt_sc (s : State) (d : DoorId) (reader : Option DevIx) (m : Message) (number : Nat) (r : DenyReason) :
    (State.refuseAt s d reader m number r).sc = s.sc := by
  simp [State.refuseAt]
@[simp] theorem refuseAt_sau (s : State) (d : DoorId) (reader : Option DevIx) (m : Message) (number : Nat) (r : DenyReason) :
    (State.refuseAt s d reader m number r).sau = s.sau := by
  simp [State.refuseAt]
@[simp] theorem lockDoor_pending (s : State) (d : DoorId) :
    (State.lockDoor s d).pending = s.pending := by
  simp [State.lockDoor]
@[simp] theorem lockDoor_fc (s : State) (d : DoorId) :
    (State.lockDoor s d).fc = s.fc := by
  simp [State.lockDoor]
@[simp] theorem lockDoor_csu (s : State) (d : DoorId) :
    (State.lockDoor s d).csu = s.csu := by
  simp [State.lockDoor]
@[simp] theorem lockDoor_csc (s : State) (d : DoorId) :
    (State.lockDoor s d).csc = s.csc := by
  simp [State.lockDoor]
@[simp] theorem lockDoor_pe (s : State) (d : DoorId) :
    (State.lockDoor s d).pe = s.pe := by
  simp [State.lockDoor]
@[simp] theorem lockDoor_ru (s : State) (d : DoorId) :
    (State.lockDoor s d).ru = s.ru := by
  simp [State.lockDoor]
@[simp] theorem lockDoor_sc (s : State) (d : DoorId) :
    (State.lockDoor s d).sc = s.sc := by
  simp [State.lockDoor]
@[simp] theorem lockDoor_sau (s : State) (d : DoorId) :
    (State.lockDoor s d).sau = s.sau := by
  simp [State.lockDoor]
@[simp] theorem unlockFor_pending (s : State) (d : DoorId) (p : Passage) :
    (State.unlockFor s d p).pending = s.pending := by
  simp [State.unlockFor]
@[simp] theorem unlockFor_fc (s : State) (d : DoorId) (p : Passage) :
    (State.unlockFor s d p).fc = s.fc := by
  simp [State.unlockFor]
@[simp] theorem unlockFor_csu (s : State) (d : DoorId) (p : Passage) :
    (State.unlockFor s d p).csu = s.csu := by
  simp [State.unlockFor]
@[simp] theorem unlockFor_csc (s : State) (d : DoorId) (p : Passage) :
    (State.unlockFor s d p).csc = s.csc := by
  simp [State.unlockFor]
@[simp] theorem unlockFor_pe (s : State) (d : DoorId) (p : Passage) :
    (State.unlockFor s d p).pe = s.pe := by
  simp [State.unlockFor]
@[simp] theorem unlockFor_ru (s : State) (d : DoorId) (p : Passage) :
    (State.unlockFor s d p).ru = s.ru := by
  simp [State.unlockFor]
@[simp] theorem unlockFor_sc (s : State) (d : DoorId) (p : Passage) :
    (State.unlockFor s d p).sc = s.sc := by
  simp [State.unlockFor]
@[simp] theorem unlockFor_sau (s : State) (d : DoorId) (p : Passage) :
    (State.unlockFor s d p).sau = s.sau := by
  simp [State.unlockFor]
@[simp] theorem confirmHeld_pending (s : State) (d : DoorId) (handle : Bool) :
    (State.confirmHeld s d handle).pending = s.pending := by
  unfold State.confirmHeld; (repeat' split) <;> simp
@[simp] theorem confirmHeld_fc (s : State) (d : DoorId) (handle : Bool) :
    (State.confirmHeld s d handle).fc = s.fc := by
  unfold State.confirmHeld; (repeat' split) <;> simp
@[simp] theorem confirmHeld_csu (s : State) (d : DoorId) (handle : Bool) :
    (State.confirmHeld s d handle).csu = s.csu := by
  unfold State.confirmHeld; (repeat' split) <;> simp
@[simp] theorem confirmHeld_csc (s : State) (d : DoorId) (handle : Bool) :
    (State.confirmHeld s d handle).csc = s.csc := by
  unfold State.confirmHeld; (repeat' split) <;> simp
@[simp] theorem confirmHeld_pe (s : State) (d : DoorId) (handle : Bool) :
    (State.confirmHeld s d handle).pe = s.pe := by
  unfold State.confirmHeld; (repeat' split) <;> simp
@[simp] theorem plainContact_pending (s : State) (d : DoorId) (from' : Contact) (opened handle : Bool) :
    (State.plainContact s d from' opened handle).pending = s.pending := by
  unfold State.plainContact; dsimp only; (repeat' split) <;> simp
@[simp] theorem plainContact_fc (s : State) (d : DoorId) (from' : Contact) (opened handle : Bool) :
    (State.plainContact s d from' opened handle).fc = s.fc := by
  unfold State.plainContact; dsimp only; (repeat' split) <;> simp
@[simp] theorem plainContact_csu (s : State) (d : DoorId) (from' : Contact) (opened handle : Bool) :
    (State.plainContact s d from' opened handle).csu = s.csu := by
  unfold State.plainContact; dsimp only; (repeat' split) <;> simp
@[simp] theorem plainContact_csc (s : State) (d : DoorId) (from' : Contact) (opened handle : Bool) :
    (State.plainContact s d from' opened handle).csc = s.csc := by
  unfold State.plainContact; dsimp only; (repeat' split) <;> simp
@[simp] theorem plainContact_pe (s : State) (d : DoorId) (from' : Contact) (opened handle : Bool) :
    (State.plainContact s d from' opened handle).pe = s.pe := by
  unfold State.plainContact; dsimp only; (repeat' split) <;> simp
@[simp] theorem refuseEscort_pending (s : State) (d : DoorId) (m : Message) (r : DenyReason) :
    (State.refuseEscort s d m r).pending = s.pending := by
  unfold State.refuseEscort; split <;> simp
@[simp] theorem refuseEscort_fc (s : State) (d : DoorId) (m : Message) (r : DenyReason) :
    (State.refuseEscort s d m r).fc = s.fc := by
  unfold State.refuseEscort; split <;> simp
@[simp] theorem refuseEscort_csu (s : State) (d : DoorId) (m : Message) (r : DenyReason) :
    (State.refuseEscort s d m r).csu = s.csu := by
  unfold State.refuseEscort; split <;> simp
@[simp] theorem refuseEscort_csc (s : State) (d : DoorId) (m : Message) (r : DenyReason) :
    (State.refuseEscort s d m r).csc = s.csc := by
  unfold State.refuseEscort; split <;> simp
@[simp] theorem refuseEscort_pe (s : State) (d : DoorId) (m : Message) (r : DenyReason) :
    (State.refuseEscort s d m r).pe = s.pe := by
  unfold State.refuseEscort; split <;> simp
@[simp] theorem refuseEscort_ru (s : State) (d : DoorId) (m : Message) (r : DenyReason) :
    (State.refuseEscort s d m r).ru = s.ru := by
  unfold State.refuseEscort; split <;> simp
@[simp] theorem refuseEscort_sc (s : State) (d : DoorId) (m : Message) (r : DenyReason) :
    (State.refuseEscort s d m r).sc = s.sc := by
  unfold State.refuseEscort; split <;> simp
@[simp] theorem refuseEscort_sau (s : State) (d : DoorId) (m : Message) (r : DenyReason) :
    (State.refuseEscort s d m r).sau = s.sau := by
  unfold State.refuseEscort; split <;> simp
@[simp] theorem plainFault_pending (s : State) (d : DoorId) :
    (State.plainFault s d).pending = s.pending := by
  unfold State.plainFault; dsimp only; (repeat' split) <;> simp
@[simp] theorem plainFault_fc (s : State) (d : DoorId) :
    (State.plainFault s d).fc = s.fc := by
  unfold State.plainFault; dsimp only; (repeat' split) <;> simp
@[simp] theorem plainFault_csu (s : State) (d : DoorId) :
    (State.plainFault s d).csu = s.csu := by
  unfold State.plainFault; dsimp only; (repeat' split) <;> simp
@[simp] theorem plainFault_csc (s : State) (d : DoorId) :
    (State.plainFault s d).csc = s.csc := by
  unfold State.plainFault; dsimp only; (repeat' split) <;> simp
@[simp] theorem plainFault_pe (s : State) (d : DoorId) :
    (State.plainFault s d).pe = s.pe := by
  unfold State.plainFault; dsimp only; (repeat' split) <;> simp
@[simp] theorem plainFault_ru (s : State) (d : DoorId) :
    (State.plainFault s d).ru = s.ru := by
  unfold State.plainFault; dsimp only; (repeat' split) <;> simp
@[simp] theorem plainFault_sc (s : State) (d : DoorId) :
    (State.plainFault s d).sc = s.sc := by
  unfold State.plainFault; dsimp only; (repeat' split) <;> simp
@[simp] theorem plainFault_sau (s : State) (d : DoorId) :
    (State.plainFault s d).sau = s.sau := by
  unfold State.plainFault; dsimp only; (repeat' split) <;> simp
@[simp] theorem grantEscort_pending (s : State) (d : DoorId) (number : Nat) :
    (State.grantEscort s d number).pending = s.pending := by
  simp [State.grantEscort]
@[simp] theorem grantEscort_rm (s : State) (d : DoorId) (number : Nat) :
    (State.grantEscort s d number).rm = s.rm := by
  simp [State.grantEscort]
@[simp] theorem grantEscort_fc (s : State) (d : DoorId) (number : Nat) :
    (State.grantEscort s d number).fc = s.fc := by
  simp [State.grantEscort]
@[simp] theorem grantEscort_csu (s : State) (d : DoorId) (number : Nat) :
    (State.grantEscort s d number).csu = s.csu := by
  simp [State.grantEscort]
@[simp] theorem grantEscort_csc (s : State) (d : DoorId) (number : Nat) :
    (State.grantEscort s d number).csc = s.csc := by
  simp [State.grantEscort]
@[simp] theorem grantEscort_pe (s : State) (d : DoorId) (number : Nat) :
    (State.grantEscort s d number).pe = s.pe := by
  simp [State.grantEscort]
@[simp] theorem grantEscort_dc (s : State) (d : DoorId) (number : Nat) :
    (State.grantEscort s d number).dc = s.dc := by
  simp [State.grantEscort]
@[simp] theorem grantEscort_ru (s : State) (d : DoorId) (number : Nat) :
    (State.grantEscort s d number).ru = s.ru := by
  simp [State.grantEscort]
@[simp] theorem grantEscort_sc (s : State) (d : DoorId) (number : Nat) :
    (State.grantEscort s d number).sc = s.sc := by
  simp [State.grantEscort]
@[simp] theorem grantEscort_sau (s : State) (d : DoorId) (number : Nat) :
    (State.grantEscort s d number).sau = s.sau := by
  simp [State.grantEscort]
@[simp] theorem completePairing_pending (s : State) (g : Grant) (e : Escort) :
    (State.completePairing s g e).pending = s.pending := by
  simp [State.completePairing]
@[simp] theorem completePairing_fc (s : State) (g : Grant) (e : Escort) :
    (State.completePairing s g e).fc = s.fc := by
  simp [State.completePairing]
@[simp] theorem completePairing_csu (s : State) (g : Grant) (e : Escort) :
    (State.completePairing s g e).csu = s.csu := by
  simp [State.completePairing]
@[simp] theorem completePairing_csc (s : State) (g : Grant) (e : Escort) :
    (State.completePairing s g e).csc = s.csc := by
  simp [State.completePairing]
@[simp] theorem completePairing_pe (s : State) (g : Grant) (e : Escort) :
    (State.completePairing s g e).pe = s.pe := by
  simp [State.completePairing]
@[simp] theorem completePairing_ru (s : State) (g : Grant) (e : Escort) :
    (State.completePairing s g e).ru = s.ru := by
  simp [State.completePairing]
@[simp] theorem completePairing_sc (s : State) (g : Grant) (e : Escort) :
    (State.completePairing s g e).sc = s.sc := by
  simp [State.completePairing]
@[simp] theorem completePairing_sau (s : State) (g : Grant) (e : Escort) :
    (State.completePairing s g e).sau = s.sau := by
  simp [State.completePairing]
@[simp] theorem confirmAtOnce_pending (s : State) (g : Grant) (list : List PassageCred) (custodian : Bool) :
    (State.confirmAtOnce s g list custodian).pending = s.pending := by
  simp [State.confirmAtOnce]
@[simp] theorem confirmAtOnce_fc (s : State) (g : Grant) (list : List PassageCred) (custodian : Bool) :
    (State.confirmAtOnce s g list custodian).fc = s.fc := by
  simp [State.confirmAtOnce]
@[simp] theorem confirmAtOnce_csu (s : State) (g : Grant) (list : List PassageCred) (custodian : Bool) :
    (State.confirmAtOnce s g list custodian).csu = s.csu := by
  simp [State.confirmAtOnce]
@[simp] theorem confirmAtOnce_csc (s : State) (g : Grant) (list : List PassageCred) (custodian : Bool) :
    (State.confirmAtOnce s g list custodian).csc = s.csc := by
  simp [State.confirmAtOnce]
@[simp] theorem confirmAtOnce_pe (s : State) (g : Grant) (list : List PassageCred) (custodian : Bool) :
    (State.confirmAtOnce s g list custodian).pe = s.pe := by
  simp [State.confirmAtOnce]
@[simp] theorem confirmAtOnce_dc (s : State) (g : Grant) (list : List PassageCred) (custodian : Bool) :
    (State.confirmAtOnce s g list custodian).dc = s.dc := by
  simp [State.confirmAtOnce]
@[simp] theorem dropGrant_pending (s : State) (g : Grant) :
    (State.dropGrant s g).1.pending = s.pending := by
  simp [State.dropGrant]
@[simp] theorem dropGrant_fc (s : State) (g : Grant) :
    (State.dropGrant s g).1.fc = s.fc := by
  simp [State.dropGrant]
@[simp] theorem dropGrant_csu (s : State) (g : Grant) :
    (State.dropGrant s g).1.csu = s.csu := by
  simp [State.dropGrant]
@[simp] theorem dropGrant_csc (s : State) (g : Grant) :
    (State.dropGrant s g).1.csc = s.csc := by
  simp [State.dropGrant]
@[simp] theorem dropGrant_pe (s : State) (g : Grant) :
    (State.dropGrant s g).1.pe = s.pe := by
  simp [State.dropGrant]
@[simp] theorem dropGrant_dc (s : State) (g : Grant) :
    (State.dropGrant s g).1.dc = s.dc := by
  simp [State.dropGrant]
@[simp] theorem dropGrant_ru (s : State) (g : Grant) :
    (State.dropGrant s g).1.ru = s.ru := by
  simp [State.dropGrant]
@[simp] theorem dropGrant_sc (s : State) (g : Grant) :
    (State.dropGrant s g).1.sc = s.sc := by
  simp [State.dropGrant]
@[simp] theorem dropGrant_sau (s : State) (g : Grant) :
    (State.dropGrant s g).1.sau = s.sau := by
  simp [State.dropGrant]
@[simp] theorem plainGrant_pending (s : State) (g : Grant) :
    (State.plainGrant s g).1.pending = s.pending := by
  unfold State.plainGrant; dsimp only; (repeat' split) <;> simp
@[simp] theorem plainGrant_fc (s : State) (g : Grant) :
    (State.plainGrant s g).1.fc = s.fc := by
  unfold State.plainGrant; dsimp only; (repeat' split) <;> simp
@[simp] theorem plainGrant_csu (s : State) (g : Grant) :
    (State.plainGrant s g).1.csu = s.csu := by
  unfold State.plainGrant; dsimp only; (repeat' split) <;> simp
@[simp] theorem plainGrant_csc (s : State) (g : Grant) :
    (State.plainGrant s g).1.csc = s.csc := by
  unfold State.plainGrant; dsimp only; (repeat' split) <;> simp
@[simp] theorem plainGrant_pe (s : State) (g : Grant) :
    (State.plainGrant s g).1.pe = s.pe := by
  unfold State.plainGrant; dsimp only; (repeat' split) <;> simp
@[simp] theorem escortPresented_pending (s : State) (d : DoorId) (e : Escort) :
    (State.escortPresented s d e).pending = s.pending := by
  unfold State.escortPresented; dsimp only; (repeat' split) <;> simp
@[simp] theorem escortPresented_fc (s : State) (d : DoorId) (e : Escort) :
    (State.escortPresented s d e).fc = s.fc := by
  unfold State.escortPresented; dsimp only; (repeat' split) <;> simp
@[simp] theorem escortPresented_csu (s : State) (d : DoorId) (e : Escort) :
    (State.escortPresented s d e).csu = s.csu := by
  unfold State.escortPresented; dsimp only; (repeat' split) <;> simp
@[simp] theorem escortPresented_csc (s : State) (d : DoorId) (e : Escort) :
    (State.escortPresented s d e).csc = s.csc := by
  unfold State.escortPresented; dsimp only; (repeat' split) <;> simp
@[simp] theorem escortPresented_pe (s : State) (d : DoorId) (e : Escort) :
    (State.escortPresented s d e).pe = s.pe := by
  unfold State.escortPresented; dsimp only; (repeat' split) <;> simp
@[simp] theorem escortPresented_ru (s : State) (d : DoorId) (e : Escort) :
    (State.escortPresented s d e).ru = s.ru := by
  unfold State.escortPresented; dsimp only; (repeat' split) <;> simp
@[simp] theorem escortPresented_sc (s : State) (d : DoorId) (e : Escort) :
    (State.escortPresented s d e).sc = s.sc := by
  unfold State.escortPresented; dsimp only; (repeat' split) <;> simp
@[simp] theorem escortPresented_sau (s : State) (d : DoorId) (e : Escort) :
    (State.escortPresented s d e).sau = s.sau := by
  unfold State.escortPresented; dsimp only; (repeat' split) <;> simp
@[simp] theorem unlockExpired_pending (s : State) (d : DoorId) :
    (State.unlockExpired s d).pending = s.pending := by
  unfold State.unlockExpired; dsimp only; (repeat' split) <;> simp
@[simp] theorem unlockExpired_fc (s : State) (d : DoorId) :
    (State.unlockExpired s d).fc = s.fc := by
  unfold State.unlockExpired; dsimp only; (repeat' split) <;> simp
@[simp] theorem unlockExpired_csu (s : State) (d : DoorId) :
    (State.unlockExpired s d).csu = s.csu := by
  unfold State.unlockExpired; dsimp only; (repeat' split) <;> simp
@[simp] theorem unlockExpired_csc (s : State) (d : DoorId) :
    (State.unlockExpired s d).csc = s.csc := by
  unfold State.unlockExpired; dsimp only; (repeat' split) <;> simp
@[simp] theorem unlockExpired_pe (s : State) (d : DoorId) :
    (State.unlockExpired s d).pe = s.pe := by
  unfold State.unlockExpired; dsimp only; (repeat' split) <;> simp
@[simp] theorem unlockExpired_ru (s : State) (d : DoorId) :
    (State.unlockExpired s d).ru = s.ru := by
  unfold State.unlockExpired; dsimp only; (repeat' split) <;> simp
@[simp] theorem unlockExpired_sc (s : State) (d : DoorId) :
    (State.unlockExpired s d).sc = s.sc := by
  unfold State.unlockExpired; dsimp only; (repeat' split) <;> simp
@[simp] theorem unlockExpired_sau (s : State) (d : DoorId) :
    (State.unlockExpired s d).sau = s.sau := by
  unfold State.unlockExpired; dsimp only; (repeat' split) <;> simp

/-! ## Machine/Strongroom.lean -/

@[simp] theorem secure_pending (s : State) (d : DoorId) :
    (State.secure s d).pending = s.pending := by
  simp [State.secure]
@[simp] theorem secure_fc (s : State) (d : DoorId) :
    (State.secure s d).fc = s.fc := by
  simp [State.secure]
@[simp] theorem secure_csu (s : State) (d : DoorId) :
    (State.secure s d).csu = s.csu := by
  simp [State.secure]
@[simp] theorem secure_csc (s : State) (d : DoorId) :
    (State.secure s d).csc = s.csc := by
  simp [State.secure]
@[simp] theorem secure_pe (s : State) (d : DoorId) :
    (State.secure s d).pe = s.pe := by
  simp [State.secure]
@[simp] theorem secure_ru (s : State) (d : DoorId) :
    (State.secure s d).ru = s.ru := by
  simp [State.secure]
@[simp] theorem secure_sc (s : State) (d : DoorId) :
    (State.secure s d).sc = s.sc := by
  simp [State.secure]
@[simp] theorem secure_sau (s : State) (d : DoorId) :
    (State.secure s d).sau = s.sau := by
  simp [State.secure]
@[simp] theorem showEntry_pending (s : State) (d : DoorId) (m : Message) :
    (State.showEntry s d m).pending = s.pending := by
  simp [State.showEntry]
@[simp] theorem showEntry_fc (s : State) (d : DoorId) (m : Message) :
    (State.showEntry s d m).fc = s.fc := by
  simp [State.showEntry]
@[simp] theorem showEntry_csu (s : State) (d : DoorId) (m : Message) :
    (State.showEntry s d m).csu = s.csu := by
  simp [State.showEntry]
@[simp] theorem showEntry_csc (s : State) (d : DoorId) (m : Message) :
    (State.showEntry s d m).csc = s.csc := by
  simp [State.showEntry]
@[simp] theorem showEntry_pe (s : State) (d : DoorId) (m : Message) :
    (State.showEntry s d m).pe = s.pe := by
  simp [State.showEntry]
@[simp] theorem showEntry_dc (s : State) (d : DoorId) (m : Message) :
    (State.showEntry s d m).dc = s.dc := by
  simp [State.showEntry]
@[simp] theorem showEntry_ru (s : State) (d : DoorId) (m : Message) :
    (State.showEntry s d m).ru = s.ru := by
  simp [State.showEntry]
@[simp] theorem showEntry_sc (s : State) (d : DoorId) (m : Message) :
    (State.showEntry s d m).sc = s.sc := by
  simp [State.showEntry]
@[simp] theorem showEntry_sau (s : State) (d : DoorId) (m : Message) :
    (State.showEntry s d m).sau = s.sau := by
  simp [State.showEntry]
@[simp] theorem refuseCustody_pending (s : State) (c : Custody) :
    (State.refuseCustody s c).pending = s.pending := by
  simp [State.refuseCustody]
@[simp] theorem refuseCustody_fc (s : State) (c : Custody) :
    (State.refuseCustody s c).fc = s.fc := by
  simp [State.refuseCustody]
@[simp] theorem refuseCustody_csu (s : State) (c : Custody) :
    (State.refuseCustody s c).csu = s.csu := by
  simp [State.refuseCustody]
@[simp] theorem refuseCustody_csc (s : State) (c : Custody) :
    (State.refuseCustody s c).csc = s.csc := by
  simp [State.refuseCustody]
@[simp] theorem refuseCustody_pe (s : State) (c : Custody) :
    (State.refuseCustody s c).pe = s.pe := by
  simp [State.refuseCustody]
@[simp] theorem refuseCustody_dc (s : State) (c : Custody) :
    (State.refuseCustody s c).dc = s.dc := by
  simp [State.refuseCustody]
@[simp] theorem refuseCustody_ru (s : State) (c : Custody) :
    (State.refuseCustody s c).ru = s.ru := by
  simp [State.refuseCustody]
@[simp] theorem refuseCustody_sc (s : State) (c : Custody) :
    (State.refuseCustody s c).sc = s.sc := by
  simp [State.refuseCustody]
@[simp] theorem refuseCustody_sau (s : State) (c : Custody) :
    (State.refuseCustody s c).sau = s.sau := by
  simp [State.refuseCustody]
@[simp] theorem firstCustodian_pending (s : State) (c : Custody) :
    (State.firstCustodian s c).pending = s.pending := by
  unfold State.firstCustodian; split <;> simp
@[simp] theorem firstCustodian_fc (s : State) (c : Custody) :
    (State.firstCustodian s c).fc = s.fc := by
  unfold State.firstCustodian; split <;> simp
@[simp] theorem firstCustodian_csu (s : State) (c : Custody) :
    (State.firstCustodian s c).csu = s.csu := by
  unfold State.firstCustodian; split <;> simp
@[simp] theorem firstCustodian_csc (s : State) (c : Custody) :
    (State.firstCustodian s c).csc = s.csc := by
  unfold State.firstCustodian; split <;> simp
@[simp] theorem firstCustodian_pe (s : State) (c : Custody) :
    (State.firstCustodian s c).pe = s.pe := by
  unfold State.firstCustodian; split <;> simp
@[simp] theorem firstCustodian_ru (s : State) (c : Custody) :
    (State.firstCustodian s c).ru = s.ru := by
  unfold State.firstCustodian; split <;> simp
@[simp] theorem firstCustodian_sc (s : State) (c : Custody) :
    (State.firstCustodian s c).sc = s.sc := by
  unfold State.firstCustodian; split <;> simp
@[simp] theorem firstCustodian_sau (s : State) (c : Custody) :
    (State.firstCustodian s c).sau = s.sau := by
  unfold State.firstCustodian; split <;> simp
@[simp] theorem startDelay_pending (s : State) (c : Custody) (b : Budget) :
    (State.startDelay s c b).pending = s.pending := by
  simp [State.startDelay]
@[simp] theorem startDelay_fc (s : State) (c : Custody) (b : Budget) :
    (State.startDelay s c b).fc = s.fc := by
  simp [State.startDelay]
@[simp] theorem startDelay_csu (s : State) (c : Custody) (b : Budget) :
    (State.startDelay s c b).csu = s.csu := by
  simp [State.startDelay]
@[simp] theorem startDelay_csc (s : State) (c : Custody) (b : Budget) :
    (State.startDelay s c b).csc = s.csc := by
  simp [State.startDelay]
@[simp] theorem startDelay_pe (s : State) (c : Custody) (b : Budget) :
    (State.startDelay s c b).pe = s.pe := by
  simp [State.startDelay]
@[simp] theorem startDelay_ru (s : State) (c : Custody) (b : Budget) :
    (State.startDelay s c b).ru = s.ru := by
  simp [State.startDelay]
@[simp] theorem startDelay_sc (s : State) (c : Custody) (b : Budget) :
    (State.startDelay s c b).sc = s.sc := by
  simp [State.startDelay]
@[simp] theorem startDelay_sau (s : State) (c : Custody) (b : Budget) :
    (State.startDelay s c b).sau = s.sau := by
  simp [State.startDelay]
@[simp] theorem secondCustodian_pending (s : State) (c : Custody) (a : Custodian) :
    (State.secondCustodian s c a).pending = s.pending := by
  unfold State.secondCustodian; dsimp only; (repeat' split) <;> simp
@[simp] theorem secondCustodian_fc (s : State) (c : Custody) (a : Custodian) :
    (State.secondCustodian s c a).fc = s.fc := by
  unfold State.secondCustodian; dsimp only; (repeat' split) <;> simp
@[simp] theorem secondCustodian_csu (s : State) (c : Custody) (a : Custodian) :
    (State.secondCustodian s c a).csu = s.csu := by
  unfold State.secondCustodian; dsimp only; (repeat' split) <;> simp
@[simp] theorem secondCustodian_csc (s : State) (c : Custody) (a : Custodian) :
    (State.secondCustodian s c a).csc = s.csc := by
  unfold State.secondCustodian; dsimp only; (repeat' split) <;> simp
@[simp] theorem secondCustodian_pe (s : State) (c : Custody) (a : Custodian) :
    (State.secondCustodian s c a).pe = s.pe := by
  unfold State.secondCustodian; dsimp only; (repeat' split) <;> simp
@[simp] theorem secondCustodian_ru (s : State) (c : Custody) (a : Custodian) :
    (State.secondCustodian s c a).ru = s.ru := by
  unfold State.secondCustodian; dsimp only; (repeat' split) <;> simp
@[simp] theorem secondCustodian_sc (s : State) (c : Custody) (a : Custodian) :
    (State.secondCustodian s c a).sc = s.sc := by
  unfold State.secondCustodian; dsimp only; (repeat' split) <;> simp
@[simp] theorem secondCustodian_sau (s : State) (c : Custody) (a : Custodian) :
    (State.secondCustodian s c a).sau = s.sau := by
  unfold State.secondCustodian; dsimp only; (repeat' split) <;> simp
@[simp] theorem unboltForEntry_pending (s : State) (c : Custody) :
    (State.unboltForEntry s c).pending = s.pending := by
  simp [State.unboltForEntry]
@[simp] theorem unboltForEntry_fc (s : State) (c : Custody) :
    (State.unboltForEntry s c).fc = s.fc := by
  simp [State.unboltForEntry]
@[simp] theorem unboltForEntry_csu (s : State) (c : Custody) :
    (State.unboltForEntry s c).csu = s.csu := by
  simp [State.unboltForEntry]
@[simp] theorem unboltForEntry_csc (s : State) (c : Custody) :
    (State.unboltForEntry s c).csc = s.csc := by
  simp [State.unboltForEntry]
@[simp] theorem unboltForEntry_pe (s : State) (c : Custody) :
    (State.unboltForEntry s c).pe = s.pe := by
  simp [State.unboltForEntry]
@[simp] theorem unboltForEntry_ru (s : State) (c : Custody) :
    (State.unboltForEntry s c).ru = s.ru := by
  simp [State.unboltForEntry]
@[simp] theorem unboltForEntry_sc (s : State) (c : Custody) :
    (State.unboltForEntry s c).sc = s.sc := by
  simp [State.unboltForEntry]
@[simp] theorem unboltForEntry_sau (s : State) (c : Custody) :
    (State.unboltForEntry s c).sau = s.sau := by
  simp [State.unboltForEntry]
@[simp] theorem confirmCustody_pending (s : State) (c : Custody) :
    (State.confirmCustody s c).pending = s.pending := by
  unfold State.confirmCustody; dsimp only; (repeat' split) <;> simp
@[simp] theorem confirmCustody_fc (s : State) (c : Custody) :
    (State.confirmCustody s c).fc = s.fc := by
  unfold State.confirmCustody; dsimp only; (repeat' split) <;> simp
@[simp] theorem confirmCustody_csu (s : State) (c : Custody) :
    (State.confirmCustody s c).csu = s.csu := by
  unfold State.confirmCustody; dsimp only; (repeat' split) <;> simp
@[simp] theorem confirmCustody_csc (s : State) (c : Custody) :
    (State.confirmCustody s c).csc = s.csc := by
  unfold State.confirmCustody; dsimp only; (repeat' split) <;> simp
@[simp] theorem confirmCustody_pe (s : State) (c : Custody) :
    (State.confirmCustody s c).pe = s.pe := by
  unfold State.confirmCustody; dsimp only; (repeat' split) <;> simp
@[simp] theorem confirmCustody_ru (s : State) (c : Custody) :
    (State.confirmCustody s c).ru = s.ru := by
  unfold State.confirmCustody; dsimp only; (repeat' split) <;> simp
@[simp] theorem confirmCustody_sc (s : State) (c : Custody) :
    (State.confirmCustody s c).sc = s.sc := by
  unfold State.confirmCustody; dsimp only; (repeat' split) <;> simp
@[simp] theorem confirmCustody_sau (s : State) (c : Custody) :
    (State.confirmCustody s c).sau = s.sau := by
  unfold State.confirmCustody; dsimp only; (repeat' split) <;> simp
@[simp] theorem custodyUnbolted_pending (s : State) (c : Custody) :
    (State.custodyUnbolted s c).pending = s.pending := by
  unfold State.custodyUnbolted; dsimp only; (repeat' split) <;> simp
@[simp] theorem custodyUnbolted_fc (s : State) (c : Custody) :
    (State.custodyUnbolted s c).fc = s.fc := by
  unfold State.custodyUnbolted; dsimp only; (repeat' split) <;> simp
@[simp] theorem custodyUnbolted_csu (s : State) (c : Custody) :
    (State.custodyUnbolted s c).csu = s.csu := by
  unfold State.custodyUnbolted; dsimp only; (repeat' split) <;> simp
@[simp] theorem custodyUnbolted_csc (s : State) (c : Custody) :
    (State.custodyUnbolted s c).csc = s.csc := by
  unfold State.custodyUnbolted; dsimp only; (repeat' split) <;> simp
@[simp] theorem custodyUnbolted_pe (s : State) (c : Custody) :
    (State.custodyUnbolted s c).pe = s.pe := by
  unfold State.custodyUnbolted; dsimp only; (repeat' split) <;> simp
@[simp] theorem custodyUnbolted_dc (s : State) (c : Custody) :
    (State.custodyUnbolted s c).dc = s.dc := by
  unfold State.custodyUnbolted; dsimp only; (repeat' split) <;> simp
@[simp] theorem custodyUnbolted_ru (s : State) (c : Custody) :
    (State.custodyUnbolted s c).ru = s.ru := by
  unfold State.custodyUnbolted; dsimp only; (repeat' split) <;> simp
@[simp] theorem custodyUnbolted_sc (s : State) (c : Custody) :
    (State.custodyUnbolted s c).sc = s.sc := by
  unfold State.custodyUnbolted; dsimp only; (repeat' split) <;> simp
@[simp] theorem custodyUnbolted_sau (s : State) (c : Custody) :
    (State.custodyUnbolted s c).sau = s.sau := by
  unfold State.custodyUnbolted; dsimp only; (repeat' split) <;> simp
@[simp] theorem custodyOpen_pending (s : State) (c : Custody) :
    (State.custodyOpen s c).pending = s.pending := by
  unfold State.custodyOpen; split <;> simp
@[simp] theorem custodyOpen_fc (s : State) (c : Custody) :
    (State.custodyOpen s c).fc = s.fc := by
  unfold State.custodyOpen; split <;> simp
@[simp] theorem custodyOpen_csu (s : State) (c : Custody) :
    (State.custodyOpen s c).csu = s.csu := by
  unfold State.custodyOpen; split <;> simp
@[simp] theorem custodyOpen_csc (s : State) (c : Custody) :
    (State.custodyOpen s c).csc = s.csc := by
  unfold State.custodyOpen; split <;> simp
@[simp] theorem custodyOpen_pe (s : State) (c : Custody) :
    (State.custodyOpen s c).pe = s.pe := by
  unfold State.custodyOpen; split <;> simp
@[simp] theorem custodyOpen_dc (s : State) (c : Custody) :
    (State.custodyOpen s c).dc = s.dc := by
  unfold State.custodyOpen; split <;> simp
@[simp] theorem custodyPresented_pending (s : State) (c : Custody) :
    (State.custodyPresented s c).pending = s.pending := by
  unfold State.custodyPresented; dsimp only; (repeat' split) <;> simp
@[simp] theorem custodyPresented_fc (s : State) (c : Custody) :
    (State.custodyPresented s c).fc = s.fc := by
  unfold State.custodyPresented; dsimp only; (repeat' split) <;> simp
@[simp] theorem custodyPresented_csu (s : State) (c : Custody) :
    (State.custodyPresented s c).csu = s.csu := by
  unfold State.custodyPresented; dsimp only; (repeat' split) <;> simp
@[simp] theorem custodyPresented_csc (s : State) (c : Custody) :
    (State.custodyPresented s c).csc = s.csc := by
  unfold State.custodyPresented; dsimp only; (repeat' split) <;> simp
@[simp] theorem custodyPresented_pe (s : State) (c : Custody) :
    (State.custodyPresented s c).pe = s.pe := by
  unfold State.custodyPresented; dsimp only; (repeat' split) <;> simp
@[simp] theorem unboltForExit_pending (s : State) (g : Grant) :
    (State.unboltForExit s g).pending = s.pending := by
  simp [State.unboltForExit]
@[simp] theorem unboltForExit_fc (s : State) (g : Grant) :
    (State.unboltForExit s g).fc = s.fc := by
  simp [State.unboltForExit]
@[simp] theorem unboltForExit_csu (s : State) (g : Grant) :
    (State.unboltForExit s g).csu = s.csu := by
  simp [State.unboltForExit]
@[simp] theorem unboltForExit_csc (s : State) (g : Grant) :
    (State.unboltForExit s g).csc = s.csc := by
  simp [State.unboltForExit]
@[simp] theorem unboltForExit_pe (s : State) (g : Grant) :
    (State.unboltForExit s g).pe = s.pe := by
  simp [State.unboltForExit]
@[simp] theorem unboltForExit_ru (s : State) (g : Grant) :
    (State.unboltForExit s g).ru = s.ru := by
  simp [State.unboltForExit]
@[simp] theorem unboltForExit_sc (s : State) (g : Grant) :
    (State.unboltForExit s g).sc = s.sc := by
  simp [State.unboltForExit]
@[simp] theorem unboltForExit_sau (s : State) (g : Grant) :
    (State.unboltForExit s g).sau = s.sau := by
  simp [State.unboltForExit]
@[simp] theorem strongroomExit_pending (s : State) (g : Grant) :
    (State.strongroomExit s g).1.pending = s.pending := by
  unfold State.strongroomExit; dsimp only; (repeat' split) <;> simp
@[simp] theorem strongroomExit_fc (s : State) (g : Grant) :
    (State.strongroomExit s g).1.fc = s.fc := by
  unfold State.strongroomExit; dsimp only; (repeat' split) <;> simp
@[simp] theorem strongroomExit_csu (s : State) (g : Grant) :
    (State.strongroomExit s g).1.csu = s.csu := by
  unfold State.strongroomExit; dsimp only; (repeat' split) <;> simp
@[simp] theorem strongroomExit_csc (s : State) (g : Grant) :
    (State.strongroomExit s g).1.csc = s.csc := by
  unfold State.strongroomExit; dsimp only; (repeat' split) <;> simp
@[simp] theorem strongroomExit_pe (s : State) (g : Grant) :
    (State.strongroomExit s g).1.pe = s.pe := by
  unfold State.strongroomExit; dsimp only; (repeat' split) <;> simp
@[simp] theorem takeGrant_pending (s : State) (g : Grant) :
    (State.takeGrant s g).1.pending = s.pending := by
  unfold State.takeGrant; split <;> simp
@[simp] theorem takeGrant_fc (s : State) (g : Grant) :
    (State.takeGrant s g).1.fc = s.fc := by
  unfold State.takeGrant; split <;> simp
@[simp] theorem takeGrant_csu (s : State) (g : Grant) :
    (State.takeGrant s g).1.csu = s.csu := by
  unfold State.takeGrant; split <;> simp
@[simp] theorem takeGrant_csc (s : State) (g : Grant) :
    (State.takeGrant s g).1.csc = s.csc := by
  unfold State.takeGrant; split <;> simp
@[simp] theorem takeGrant_pe (s : State) (g : Grant) :
    (State.takeGrant s g).1.pe = s.pe := by
  unfold State.takeGrant; split <;> simp
@[simp] theorem strongroomContact_pending (s : State) (d : DoorId) (from' : Contact) (opened handle : Bool) :
    (State.strongroomContact s d from' opened handle).pending = s.pending := by
  unfold State.strongroomContact; dsimp only; (repeat' split) <;> simp
@[simp] theorem strongroomContact_fc (s : State) (d : DoorId) (from' : Contact) (opened handle : Bool) :
    (State.strongroomContact s d from' opened handle).fc = s.fc := by
  unfold State.strongroomContact; dsimp only; (repeat' split) <;> simp
@[simp] theorem strongroomContact_csu (s : State) (d : DoorId) (from' : Contact) (opened handle : Bool) :
    (State.strongroomContact s d from' opened handle).csu = s.csu := by
  unfold State.strongroomContact; dsimp only; (repeat' split) <;> simp
@[simp] theorem strongroomContact_csc (s : State) (d : DoorId) (from' : Contact) (opened handle : Bool) :
    (State.strongroomContact s d from' opened handle).csc = s.csc := by
  unfold State.strongroomContact; dsimp only; (repeat' split) <;> simp
@[simp] theorem strongroomContact_pe (s : State) (d : DoorId) (from' : Contact) (opened handle : Bool) :
    (State.strongroomContact s d from' opened handle).pe = s.pe := by
  unfold State.strongroomContact; dsimp only; (repeat' split) <;> simp
@[simp] theorem strongroomFault_pending (s : State) (d : DoorId) :
    (State.strongroomFault s d).pending = s.pending := by
  unfold State.strongroomFault; dsimp only; (repeat' split) <;> simp
@[simp] theorem strongroomFault_fc (s : State) (d : DoorId) :
    (State.strongroomFault s d).fc = s.fc := by
  unfold State.strongroomFault; dsimp only; (repeat' split) <;> simp
@[simp] theorem strongroomFault_csu (s : State) (d : DoorId) :
    (State.strongroomFault s d).csu = s.csu := by
  unfold State.strongroomFault; dsimp only; (repeat' split) <;> simp
@[simp] theorem strongroomFault_csc (s : State) (d : DoorId) :
    (State.strongroomFault s d).csc = s.csc := by
  unfold State.strongroomFault; dsimp only; (repeat' split) <;> simp
@[simp] theorem strongroomFault_pe (s : State) (d : DoorId) :
    (State.strongroomFault s d).pe = s.pe := by
  unfold State.strongroomFault; dsimp only; (repeat' split) <;> simp
@[simp] theorem strongroomFault_ru (s : State) (d : DoorId) :
    (State.strongroomFault s d).ru = s.ru := by
  unfold State.strongroomFault; dsimp only; (repeat' split) <;> simp
@[simp] theorem strongroomFault_sc (s : State) (d : DoorId) :
    (State.strongroomFault s d).sc = s.sc := by
  unfold State.strongroomFault; dsimp only; (repeat' split) <;> simp
@[simp] theorem strongroomFault_sau (s : State) (d : DoorId) :
    (State.strongroomFault s d).sau = s.sau := by
  unfold State.strongroomFault; dsimp only; (repeat' split) <;> simp
@[simp] theorem doorUnitMissing_pending (s : State) (d : DoorId) :
    (State.doorUnitMissing s d).pending = s.pending := by
  unfold State.doorUnitMissing; dsimp only; (repeat' split) <;> simp
@[simp] theorem doorUnitMissing_fc (s : State) (d : DoorId) :
    (State.doorUnitMissing s d).fc = s.fc := by
  unfold State.doorUnitMissing; dsimp only; (repeat' split) <;> simp
@[simp] theorem doorUnitMissing_csu (s : State) (d : DoorId) :
    (State.doorUnitMissing s d).csu = s.csu := by
  unfold State.doorUnitMissing; dsimp only; (repeat' split) <;> simp
@[simp] theorem doorUnitMissing_csc (s : State) (d : DoorId) :
    (State.doorUnitMissing s d).csc = s.csc := by
  unfold State.doorUnitMissing; dsimp only; (repeat' split) <;> simp
@[simp] theorem doorUnitMissing_pe (s : State) (d : DoorId) :
    (State.doorUnitMissing s d).pe = s.pe := by
  unfold State.doorUnitMissing; dsimp only; (repeat' split) <;> simp
@[simp] theorem doorUnitMissing_ru (s : State) (d : DoorId) :
    (State.doorUnitMissing s d).ru = s.ru := by
  unfold State.doorUnitMissing; dsimp only; (repeat' split) <;> simp
@[simp] theorem compareBolt_pending (s : State) (d : DoorId) (reported : Bolt) :
    (State.compareBolt s d reported).pending = s.pending := by
  unfold State.compareBolt; dsimp only; (repeat' split) <;> simp
@[simp] theorem compareBolt_fc (s : State) (d : DoorId) (reported : Bolt) :
    (State.compareBolt s d reported).fc = s.fc := by
  unfold State.compareBolt; dsimp only; (repeat' split) <;> simp
@[simp] theorem compareBolt_csu (s : State) (d : DoorId) (reported : Bolt) :
    (State.compareBolt s d reported).csu = s.csu := by
  unfold State.compareBolt; dsimp only; (repeat' split) <;> simp
@[simp] theorem compareBolt_csc (s : State) (d : DoorId) (reported : Bolt) :
    (State.compareBolt s d reported).csc = s.csc := by
  unfold State.compareBolt; dsimp only; (repeat' split) <;> simp
@[simp] theorem compareBolt_pe (s : State) (d : DoorId) (reported : Bolt) :
    (State.compareBolt s d reported).pe = s.pe := by
  unfold State.compareBolt; dsimp only; (repeat' split) <;> simp
@[simp] theorem compareBolt_ru (s : State) (d : DoorId) (reported : Bolt) :
    (State.compareBolt s d reported).ru = s.ru := by
  unfold State.compareBolt; dsimp only; (repeat' split) <;> simp
@[simp] theorem compareBolt_sc (s : State) (d : DoorId) (reported : Bolt) :
    (State.compareBolt s d reported).sc = s.sc := by
  unfold State.compareBolt; dsimp only; (repeat' split) <;> simp
@[simp] theorem compareBolt_sau (s : State) (d : DoorId) (reported : Bolt) :
    (State.compareBolt s d reported).sau = s.sau := by
  unfold State.compareBolt; dsimp only; (repeat' split) <;> simp
@[simp] theorem contactChange_pending (s : State) (d : DoorId) (c : Contact) (handle : Bool) :
    (State.contactChange s d c handle).pending = s.pending := by
  unfold State.contactChange; dsimp only; (repeat' split) <;> simp
@[simp] theorem contactChange_fc (s : State) (d : DoorId) (c : Contact) (handle : Bool) :
    (State.contactChange s d c handle).fc = s.fc := by
  unfold State.contactChange; dsimp only; (repeat' split) <;> simp
@[simp] theorem contactChange_csu (s : State) (d : DoorId) (c : Contact) (handle : Bool) :
    (State.contactChange s d c handle).csu = s.csu := by
  unfold State.contactChange; dsimp only; (repeat' split) <;> simp
@[simp] theorem contactChange_csc (s : State) (d : DoorId) (c : Contact) (handle : Bool) :
    (State.contactChange s d c handle).csc = s.csc := by
  unfold State.contactChange; dsimp only; (repeat' split) <;> simp
@[simp] theorem contactChange_pe (s : State) (d : DoorId) (c : Contact) (handle : Bool) :
    (State.contactChange s d c handle).pe = s.pe := by
  unfold State.contactChange; dsimp only; (repeat' split) <;> simp
@[simp] theorem doorStatusReport_pending (s : State) (d : DoorId) (c : Contact) (b : Bolt) (handle : Bool) :
    (State.doorStatusReport s d c b handle).pending = s.pending := by
  unfold State.doorStatusReport; dsimp only; (repeat' split) <;> simp
@[simp] theorem doorStatusReport_fc (s : State) (d : DoorId) (c : Contact) (b : Bolt) (handle : Bool) :
    (State.doorStatusReport s d c b handle).fc = s.fc := by
  unfold State.doorStatusReport; dsimp only; (repeat' split) <;> simp
@[simp] theorem doorStatusReport_csu (s : State) (d : DoorId) (c : Contact) (b : Bolt) (handle : Bool) :
    (State.doorStatusReport s d c b handle).csu = s.csu := by
  unfold State.doorStatusReport; dsimp only; (repeat' split) <;> simp
@[simp] theorem doorStatusReport_csc (s : State) (d : DoorId) (c : Contact) (b : Bolt) (handle : Bool) :
    (State.doorStatusReport s d c b handle).csc = s.csc := by
  unfold State.doorStatusReport; dsimp only; (repeat' split) <;> simp
@[simp] theorem doorStatusReport_pe (s : State) (d : DoorId) (c : Contact) (b : Bolt) (handle : Bool) :
    (State.doorStatusReport s d c b handle).pe = s.pe := by
  unfold State.doorStatusReport; dsimp only; (repeat' split) <;> simp
@[simp] theorem unboltExpired_pending (s : State) (d : DoorId) :
    (State.unboltExpired s d).pending = s.pending := by
  unfold State.unboltExpired; dsimp only; (repeat' split) <;> simp
@[simp] theorem unboltExpired_fc (s : State) (d : DoorId) :
    (State.unboltExpired s d).fc = s.fc := by
  unfold State.unboltExpired; dsimp only; (repeat' split) <;> simp
@[simp] theorem unboltExpired_csu (s : State) (d : DoorId) :
    (State.unboltExpired s d).csu = s.csu := by
  unfold State.unboltExpired; dsimp only; (repeat' split) <;> simp
@[simp] theorem unboltExpired_csc (s : State) (d : DoorId) :
    (State.unboltExpired s d).csc = s.csc := by
  unfold State.unboltExpired; dsimp only; (repeat' split) <;> simp
@[simp] theorem unboltExpired_pe (s : State) (d : DoorId) :
    (State.unboltExpired s d).pe = s.pe := by
  unfold State.unboltExpired; dsimp only; (repeat' split) <;> simp
@[simp] theorem unboltExpired_ru (s : State) (d : DoorId) :
    (State.unboltExpired s d).ru = s.ru := by
  unfold State.unboltExpired; dsimp only; (repeat' split) <;> simp
@[simp] theorem unboltExpired_sc (s : State) (d : DoorId) :
    (State.unboltExpired s d).sc = s.sc := by
  unfold State.unboltExpired; dsimp only; (repeat' split) <;> simp
@[simp] theorem unboltExpired_sau (s : State) (d : DoorId) :
    (State.unboltExpired s d).sau = s.sau := by
  unfold State.unboltExpired; dsimp only; (repeat' split) <;> simp
@[simp] theorem delayExpired_pending (s : State) (d : DoorId) :
    (State.delayExpired s d).pending = s.pending := by
  unfold State.delayExpired; dsimp only; (repeat' split) <;> simp
@[simp] theorem delayExpired_fc (s : State) (d : DoorId) :
    (State.delayExpired s d).fc = s.fc := by
  unfold State.delayExpired; dsimp only; (repeat' split) <;> simp
@[simp] theorem delayExpired_csu (s : State) (d : DoorId) :
    (State.delayExpired s d).csu = s.csu := by
  unfold State.delayExpired; dsimp only; (repeat' split) <;> simp
@[simp] theorem delayExpired_csc (s : State) (d : DoorId) :
    (State.delayExpired s d).csc = s.csc := by
  unfold State.delayExpired; dsimp only; (repeat' split) <;> simp
@[simp] theorem delayExpired_pe (s : State) (d : DoorId) :
    (State.delayExpired s d).pe = s.pe := by
  unfold State.delayExpired; dsimp only; (repeat' split) <;> simp
@[simp] theorem delayExpired_ru (s : State) (d : DoorId) :
    (State.delayExpired s d).ru = s.ru := by
  unfold State.delayExpired; dsimp only; (repeat' split) <;> simp
@[simp] theorem delayExpired_sc (s : State) (d : DoorId) :
    (State.delayExpired s d).sc = s.sc := by
  unfold State.delayExpired; dsimp only; (repeat' split) <;> simp
@[simp] theorem delayExpired_sau (s : State) (d : DoorId) :
    (State.delayExpired s d).sau = s.sau := by
  unfold State.delayExpired; dsimp only; (repeat' split) <;> simp
@[simp] theorem displayExpired_pending (s : State) (d : DoorId) :
    (State.displayExpired s d).pending = s.pending := by
  simp [State.displayExpired]
@[simp] theorem displayExpired_fc (s : State) (d : DoorId) :
    (State.displayExpired s d).fc = s.fc := by
  simp [State.displayExpired]
@[simp] theorem displayExpired_csu (s : State) (d : DoorId) :
    (State.displayExpired s d).csu = s.csu := by
  simp [State.displayExpired]
@[simp] theorem displayExpired_csc (s : State) (d : DoorId) :
    (State.displayExpired s d).csc = s.csc := by
  simp [State.displayExpired]
@[simp] theorem displayExpired_pe (s : State) (d : DoorId) :
    (State.displayExpired s d).pe = s.pe := by
  simp [State.displayExpired]
@[simp] theorem displayExpired_ru (s : State) (d : DoorId) :
    (State.displayExpired s d).ru = s.ru := by
  simp [State.displayExpired]
@[simp] theorem displayExpired_sc (s : State) (d : DoorId) :
    (State.displayExpired s d).sc = s.sc := by
  simp [State.displayExpired]
@[simp] theorem displayExpired_sau (s : State) (d : DoorId) :
    (State.displayExpired s d).sau = s.sau := by
  simp [State.displayExpired]

/-! ## Machine/Presentation.lean -/

@[simp] theorem postPe_pending (s : State) (kind : EventKind) (p : Presentation) (zone : ZoneId) (reason : Nat) :
    (State.postPe s kind p zone reason).pending = s.pending := by
  simp [State.postPe]
@[simp] theorem postPe_rm (s : State) (kind : EventKind) (p : Presentation) (zone : ZoneId) (reason : Nat) :
    (State.postPe s kind p zone reason).rm = s.rm := by
  simp [State.postPe]
@[simp] theorem postPe_fc (s : State) (kind : EventKind) (p : Presentation) (zone : ZoneId) (reason : Nat) :
    (State.postPe s kind p zone reason).fc = s.fc := by
  simp [State.postPe]
@[simp] theorem postPe_csu (s : State) (kind : EventKind) (p : Presentation) (zone : ZoneId) (reason : Nat) :
    (State.postPe s kind p zone reason).csu = s.csu := by
  simp [State.postPe]
@[simp] theorem postPe_csc (s : State) (kind : EventKind) (p : Presentation) (zone : ZoneId) (reason : Nat) :
    (State.postPe s kind p zone reason).csc = s.csc := by
  simp [State.postPe]
@[simp] theorem postPe_pe (s : State) (kind : EventKind) (p : Presentation) (zone : ZoneId) (reason : Nat) :
    (State.postPe s kind p zone reason).pe = s.pe := by
  simp [State.postPe]
@[simp] theorem postPe_dc (s : State) (kind : EventKind) (p : Presentation) (zone : ZoneId) (reason : Nat) :
    (State.postPe s kind p zone reason).dc = s.dc := by
  simp [State.postPe]
@[simp] theorem postPe_ru (s : State) (kind : EventKind) (p : Presentation) (zone : ZoneId) (reason : Nat) :
    (State.postPe s kind p zone reason).ru = s.ru := by
  simp [State.postPe]
@[simp] theorem postPe_sc (s : State) (kind : EventKind) (p : Presentation) (zone : ZoneId) (reason : Nat) :
    (State.postPe s kind p zone reason).sc = s.sc := by
  simp [State.postPe]
@[simp] theorem postPe_sau (s : State) (kind : EventKind) (p : Presentation) (zone : ZoneId) (reason : Nat) :
    (State.postPe s kind p zone reason).sau = s.sau := by
  simp [State.postPe]
@[simp] theorem deny_pending (s : State) (p : Presentation) (r : DenyReason) :
    (State.deny s p r).pending = s.pending := by
  simp [State.deny]
@[simp] theorem deny_fc (s : State) (p : Presentation) (r : DenyReason) :
    (State.deny s p r).fc = s.fc := by
  simp [State.deny]
@[simp] theorem deny_csu (s : State) (p : Presentation) (r : DenyReason) :
    (State.deny s p r).csu = s.csu := by
  simp [State.deny]
@[simp] theorem deny_csc (s : State) (p : Presentation) (r : DenyReason) :
    (State.deny s p r).csc = s.csc := by
  simp [State.deny]
@[simp] theorem deny_pe (s : State) (p : Presentation) (r : DenyReason) :
    (State.deny s p r).pe = s.pe := by
  simp [State.deny]
@[simp] theorem deny_dc (s : State) (p : Presentation) (r : DenyReason) :
    (State.deny s p r).dc = s.dc := by
  simp [State.deny]
@[simp] theorem deny_ru (s : State) (p : Presentation) (r : DenyReason) :
    (State.deny s p r).ru = s.ru := by
  simp [State.deny]
@[simp] theorem deny_sc (s : State) (p : Presentation) (r : DenyReason) :
    (State.deny s p r).sc = s.sc := by
  simp [State.deny]
@[simp] theorem deny_sau (s : State) (p : Presentation) (r : DenyReason) :
    (State.deny s p r).sau = s.sau := by
  simp [State.deny]
@[simp] theorem denyLost_pending (s : State) (p : Presentation) :
    (State.denyLost s p).pending = s.pending := by
  simp [State.denyLost]
@[simp] theorem denyLost_fc (s : State) (p : Presentation) :
    (State.denyLost s p).fc = s.fc := by
  simp [State.denyLost]
@[simp] theorem denyLost_csu (s : State) (p : Presentation) :
    (State.denyLost s p).csu = s.csu := by
  simp [State.denyLost]
@[simp] theorem denyLost_csc (s : State) (p : Presentation) :
    (State.denyLost s p).csc = s.csc := by
  simp [State.denyLost]
@[simp] theorem denyLost_pe (s : State) (p : Presentation) :
    (State.denyLost s p).pe = s.pe := by
  simp [State.denyLost]
@[simp] theorem denyLost_dc (s : State) (p : Presentation) :
    (State.denyLost s p).dc = s.dc := by
  simp [State.denyLost]
@[simp] theorem denyLost_ru (s : State) (p : Presentation) :
    (State.denyLost s p).ru = s.ru := by
  simp [State.denyLost]
@[simp] theorem denyLost_sc (s : State) (p : Presentation) :
    (State.denyLost s p).sc = s.sc := by
  simp [State.denyLost]
@[simp] theorem denyLost_sau (s : State) (p : Presentation) :
    (State.denyLost s p).sau = s.sau := by
  simp [State.denyLost]
@[simp] theorem denyFull_pending (s : State) (p : Presentation) (r : RoomReason) :
    (State.denyFull s p r).pending = s.pending := by
  simp [State.denyFull]
@[simp] theorem denyFull_fc (s : State) (p : Presentation) (r : RoomReason) :
    (State.denyFull s p r).fc = s.fc := by
  simp [State.denyFull]
@[simp] theorem denyFull_csu (s : State) (p : Presentation) (r : RoomReason) :
    (State.denyFull s p r).csu = s.csu := by
  simp [State.denyFull]
@[simp] theorem denyFull_csc (s : State) (p : Presentation) (r : RoomReason) :
    (State.denyFull s p r).csc = s.csc := by
  simp [State.denyFull]
@[simp] theorem denyFull_pe (s : State) (p : Presentation) (r : RoomReason) :
    (State.denyFull s p r).pe = s.pe := by
  simp [State.denyFull]
@[simp] theorem denyFull_dc (s : State) (p : Presentation) (r : RoomReason) :
    (State.denyFull s p r).dc = s.dc := by
  simp [State.denyFull]
@[simp] theorem denyFull_ru (s : State) (p : Presentation) (r : RoomReason) :
    (State.denyFull s p r).ru = s.ru := by
  simp [State.denyFull]
@[simp] theorem denyFull_sc (s : State) (p : Presentation) (r : RoomReason) :
    (State.denyFull s p r).sc = s.sc := by
  simp [State.denyFull]
@[simp] theorem denyFull_sau (s : State) (p : Presentation) (r : RoomReason) :
    (State.denyFull s p r).sau = s.sau := by
  simp [State.denyFull]
@[simp] theorem handGrant_pending (s : State) (p : Presentation) (list : List PassageCred) :
    (State.handGrant s p list).pending = s.pending := by
  unfold State.handGrant; dsimp only; split <;> rename_i h <;> (try split) <;> (simpa using (congrArg (fun r => r.1.pending) h).symm)
@[simp] theorem handGrant_fc (s : State) (p : Presentation) (list : List PassageCred) :
    (State.handGrant s p list).fc = s.fc := by
  unfold State.handGrant; dsimp only; split <;> rename_i h <;> (try split) <;> (simpa using (congrArg (fun r => r.1.fc) h).symm)
@[simp] theorem handGrant_csu (s : State) (p : Presentation) (list : List PassageCred) :
    (State.handGrant s p list).csu = s.csu := by
  unfold State.handGrant; dsimp only; split <;> rename_i h <;> (try split) <;> (simpa using (congrArg (fun r => r.1.csu) h).symm)
@[simp] theorem handGrant_csc (s : State) (p : Presentation) (list : List PassageCred) :
    (State.handGrant s p list).csc = s.csc := by
  unfold State.handGrant; dsimp only; split <;> rename_i h <;> (try split) <;> (simpa using (congrArg (fun r => r.1.csc) h).symm)
@[simp] theorem handGrant_pe (s : State) (p : Presentation) (list : List PassageCred) :
    (State.handGrant s p list).pe = s.pe := by
  unfold State.handGrant; dsimp only; split <;> rename_i h <;> (try split) <;> (simpa using (congrArg (fun r => r.1.pe) h).symm)
@[simp] theorem handOff_pending (s : State) (p : Presentation) (r : CredRecord) (duress : Bool) :
    (State.handOff s p r duress).pending = s.pending := by
  unfold State.handOff; dsimp only; (repeat' split) <;> simp
@[simp] theorem handOff_fc (s : State) (p : Presentation) (r : CredRecord) (duress : Bool) :
    (State.handOff s p r duress).fc = s.fc := by
  unfold State.handOff; dsimp only; (repeat' split) <;> simp
@[simp] theorem handOff_csu (s : State) (p : Presentation) (r : CredRecord) (duress : Bool) :
    (State.handOff s p r duress).csu = s.csu := by
  unfold State.handOff; dsimp only; (repeat' split) <;> simp
@[simp] theorem handOff_csc (s : State) (p : Presentation) (r : CredRecord) (duress : Bool) :
    (State.handOff s p r duress).csc = s.csc := by
  unfold State.handOff; dsimp only; (repeat' split) <;> simp
@[simp] theorem handOff_pe (s : State) (p : Presentation) (r : CredRecord) (duress : Bool) :
    (State.handOff s p r duress).pe = s.pe := by
  unfold State.handOff; dsimp only; (repeat' split) <;> simp
@[simp] theorem checkZone_pending (s : State) (p : Presentation) (r : CredRecord) (duress : Bool) :
    (State.checkZone s p r duress).pending = s.pending := by
  unfold State.checkZone; (repeat' split) <;> simp
@[simp] theorem checkZone_fc (s : State) (p : Presentation) (r : CredRecord) (duress : Bool) :
    (State.checkZone s p r duress).fc = s.fc := by
  unfold State.checkZone; (repeat' split) <;> simp
@[simp] theorem checkZone_csu (s : State) (p : Presentation) (r : CredRecord) (duress : Bool) :
    (State.checkZone s p r duress).csu = s.csu := by
  unfold State.checkZone; (repeat' split) <;> simp
@[simp] theorem checkZone_csc (s : State) (p : Presentation) (r : CredRecord) (duress : Bool) :
    (State.checkZone s p r duress).csc = s.csc := by
  unfold State.checkZone; (repeat' split) <;> simp
@[simp] theorem checkZone_pe (s : State) (p : Presentation) (r : CredRecord) (duress : Bool) :
    (State.checkZone s p r duress).pe = s.pe := by
  unfold State.checkZone; (repeat' split) <;> simp
@[simp] theorem checkPassback_pending (s : State) (p : Presentation) (r : CredRecord) (duress : Bool) :
    (State.checkPassback s p r duress).pending = s.pending := by
  unfold State.checkPassback; (repeat' split) <;> simp
@[simp] theorem checkPassback_fc (s : State) (p : Presentation) (r : CredRecord) (duress : Bool) :
    (State.checkPassback s p r duress).fc = s.fc := by
  unfold State.checkPassback; (repeat' split) <;> simp
@[simp] theorem checkPassback_csu (s : State) (p : Presentation) (r : CredRecord) (duress : Bool) :
    (State.checkPassback s p r duress).csu = s.csu := by
  unfold State.checkPassback; (repeat' split) <;> simp
@[simp] theorem checkPassback_csc (s : State) (p : Presentation) (r : CredRecord) (duress : Bool) :
    (State.checkPassback s p r duress).csc = s.csc := by
  unfold State.checkPassback; (repeat' split) <;> simp
@[simp] theorem checkPassback_pe (s : State) (p : Presentation) (r : CredRecord) (duress : Bool) :
    (State.checkPassback s p r duress).pe = s.pe := by
  unfold State.checkPassback; (repeat' split) <;> simp
@[simp] theorem duressNotice_pending (s : State) (p : Presentation) :
    (State.duressNotice s p).pending = s.pending := by
  simp [State.duressNotice]
@[simp] theorem duressNotice_fc (s : State) (p : Presentation) :
    (State.duressNotice s p).fc = s.fc := by
  simp [State.duressNotice]
@[simp] theorem duressNotice_csu (s : State) (p : Presentation) :
    (State.duressNotice s p).csu = s.csu := by
  simp [State.duressNotice]
@[simp] theorem duressNotice_csc (s : State) (p : Presentation) :
    (State.duressNotice s p).csc = s.csc := by
  simp [State.duressNotice]
@[simp] theorem duressNotice_pe (s : State) (p : Presentation) :
    (State.duressNotice s p).pe = s.pe := by
  simp [State.duressNotice]
@[simp] theorem duressNotice_dc (s : State) (p : Presentation) :
    (State.duressNotice s p).dc = s.dc := by
  simp [State.duressNotice]
@[simp] theorem duressNotice_ru (s : State) (p : Presentation) :
    (State.duressNotice s p).ru = s.ru := by
  simp [State.duressNotice]
@[simp] theorem checkCredential_pending (s : State) (p : Presentation) (r : CredRecord) :
    (State.checkCredential s p r).pending = s.pending := by
  unfold State.checkCredential; (repeat' split) <;> simp
@[simp] theorem checkCredential_fc (s : State) (p : Presentation) (r : CredRecord) :
    (State.checkCredential s p r).fc = s.fc := by
  unfold State.checkCredential; (repeat' split) <;> simp
@[simp] theorem checkCredential_csu (s : State) (p : Presentation) (r : CredRecord) :
    (State.checkCredential s p r).csu = s.csu := by
  unfold State.checkCredential; (repeat' split) <;> simp
@[simp] theorem checkCredential_csc (s : State) (p : Presentation) (r : CredRecord) :
    (State.checkCredential s p r).csc = s.csc := by
  unfold State.checkCredential; (repeat' split) <;> simp
@[simp] theorem checkCredential_pe (s : State) (p : Presentation) (r : CredRecord) :
    (State.checkCredential s p r).pe = s.pe := by
  unfold State.checkCredential; (repeat' split) <;> simp
@[simp] theorem decideEntry_pending (s : State) (p : Presentation) (a : Answer) :
    (State.decideEntry s p a).pending = s.pending := by
  unfold State.decideEntry; (repeat' split) <;> simp
@[simp] theorem decideEntry_fc (s : State) (p : Presentation) (a : Answer) :
    (State.decideEntry s p a).fc = s.fc := by
  unfold State.decideEntry; (repeat' split) <;> simp
@[simp] theorem decideEntry_csu (s : State) (p : Presentation) (a : Answer) :
    (State.decideEntry s p a).csu = s.csu := by
  unfold State.decideEntry; (repeat' split) <;> simp
@[simp] theorem decideEntry_csc (s : State) (p : Presentation) (a : Answer) :
    (State.decideEntry s p a).csc = s.csc := by
  unfold State.decideEntry; (repeat' split) <;> simp
@[simp] theorem decideEntry_pe (s : State) (p : Presentation) (a : Answer) :
    (State.decideEntry s p a).pe = s.pe := by
  unfold State.decideEntry; (repeat' split) <;> simp
@[simp] theorem decideExit_pending (s : State) (p : Presentation) (a : Answer) :
    (State.decideExit s p a).pending = s.pending := by
  unfold State.decideExit; split <;> simp
@[simp] theorem decideExit_fc (s : State) (p : Presentation) (a : Answer) :
    (State.decideExit s p a).fc = s.fc := by
  unfold State.decideExit; split <;> simp
@[simp] theorem decideExit_csu (s : State) (p : Presentation) (a : Answer) :
    (State.decideExit s p a).csu = s.csu := by
  unfold State.decideExit; split <;> simp
@[simp] theorem decideExit_csc (s : State) (p : Presentation) (a : Answer) :
    (State.decideExit s p a).csc = s.csc := by
  unfold State.decideExit; split <;> simp
@[simp] theorem decideExit_pe (s : State) (p : Presentation) (a : Answer) :
    (State.decideExit s p a).pe = s.pe := by
  unfold State.decideExit; split <;> simp
@[simp] theorem decidePresentation_pending (s : State) (p : Presentation) (a : Answer) :
    (State.decidePresentation s p a).pending = s.pending := by
  unfold State.decidePresentation; split <;> simp
@[simp] theorem decidePresentation_fc (s : State) (p : Presentation) (a : Answer) :
    (State.decidePresentation s p a).fc = s.fc := by
  unfold State.decidePresentation; split <;> simp
@[simp] theorem decidePresentation_csu (s : State) (p : Presentation) (a : Answer) :
    (State.decidePresentation s p a).csu = s.csu := by
  unfold State.decidePresentation; split <;> simp
@[simp] theorem decidePresentation_csc (s : State) (p : Presentation) (a : Answer) :
    (State.decidePresentation s p a).csc = s.csc := by
  unfold State.decidePresentation; split <;> simp
@[simp] theorem decidePresentation_pe (s : State) (p : Presentation) (a : Answer) :
    (State.decidePresentation s p a).pe = s.pe := by
  unfold State.decidePresentation; split <;> simp
@[simp] theorem listFull_pending (s : State) (p : Presentation) :
    (State.listFull s p).pending = s.pending := by
  unfold State.listFull; split <;> simp
@[simp] theorem listFull_fc (s : State) (p : Presentation) :
    (State.listFull s p).fc = s.fc := by
  unfold State.listFull; split <;> simp
@[simp] theorem listFull_csu (s : State) (p : Presentation) :
    (State.listFull s p).csu = s.csu := by
  unfold State.listFull; split <;> simp
@[simp] theorem listFull_csc (s : State) (p : Presentation) :
    (State.listFull s p).csc = s.csc := by
  unfold State.listFull; split <;> simp
@[simp] theorem listFull_pe (s : State) (p : Presentation) :
    (State.listFull s p).pe = s.pe := by
  unfold State.listFull; split <;> simp
@[simp] theorem waitForStore_pending (s : State) (p : Presentation) :
    (State.waitForStore s p).pending = s.pending := by
  unfold State.waitForStore; split <;> simp
@[simp] theorem waitForStore_fc (s : State) (p : Presentation) :
    (State.waitForStore s p).fc = s.fc := by
  unfold State.waitForStore; split <;> simp
@[simp] theorem waitForStore_csu (s : State) (p : Presentation) :
    (State.waitForStore s p).csu = s.csu := by
  unfold State.waitForStore; split <;> simp
@[simp] theorem present_pending (s : State) (p : Presentation) :
    (State.present s p).pending = s.pending := by
  unfold State.present; (repeat' split) <;> simp
@[simp] theorem present_fc (s : State) (p : Presentation) :
    (State.present s p).fc = s.fc := by
  unfold State.present; (repeat' split) <;> simp
@[simp] theorem present_csu (s : State) (p : Presentation) :
    (State.present s p).csu = s.csu := by
  unfold State.present; (repeat' split) <;> simp
@[simp] theorem arrive_pending (s : State) (p : Presentation) :
    (State.arrive s p).pending = s.pending := by
  unfold State.arrive; (repeat' split) <;> simp
@[simp] theorem arrive_fc (s : State) (p : Presentation) :
    (State.arrive s p).fc = s.fc := by
  unfold State.arrive; (repeat' split) <;> simp
@[simp] theorem arrive_csu (s : State) (p : Presentation) :
    (State.arrive s p).csu = s.csu := by
  unfold State.arrive; (repeat' split) <;> simp
@[simp] theorem badgeReport_pending (s : State) (reader : DevIx) (door : DoorId) (side : Side) (number issue : Nat) (pin : Option Nat) :
    (State.badgeReport s reader door side number issue pin).pending = s.pending := by
  simp [State.badgeReport]
@[simp] theorem badgeReport_fc (s : State) (reader : DevIx) (door : DoorId) (side : Side) (number issue : Nat) (pin : Option Nat) :
    (State.badgeReport s reader door side number issue pin).fc = s.fc := by
  simp [State.badgeReport]
@[simp] theorem badgeReport_csu (s : State) (reader : DevIx) (door : DoorId) (side : Side) (number issue : Nat) (pin : Option Nat) :
    (State.badgeReport s reader door side number issue pin).csu = s.csu := by
  simp [State.badgeReport]
@[simp] theorem resume_pending (s : State) (reader : DevIx) (a : Answer) :
    (State.resume s reader a).pending = s.pending := by
  unfold State.resume; split <;> simp
@[simp] theorem resume_fc (s : State) (reader : DevIx) (a : Answer) :
    (State.resume s reader a).fc = s.fc := by
  unfold State.resume; split <;> simp
@[simp] theorem resume_csu (s : State) (reader : DevIx) (a : Answer) :
    (State.resume s reader a).csu = s.csu := by
  unfold State.resume; split <;> simp
@[simp] theorem resume_csc (s : State) (reader : DevIx) (a : Answer) :
    (State.resume s reader a).csc = s.csc := by
  unfold State.resume; split <;> simp
@[simp] theorem dropPresentation_pending (s : State) (reader : DevIx) :
    (State.dropPresentation s reader).pending = s.pending := by
  unfold State.dropPresentation; split <;> simp
@[simp] theorem dropPresentation_rm (s : State) (reader : DevIx) :
    (State.dropPresentation s reader).rm = s.rm := by
  unfold State.dropPresentation; split <;> simp
@[simp] theorem dropPresentation_fc (s : State) (reader : DevIx) :
    (State.dropPresentation s reader).fc = s.fc := by
  unfold State.dropPresentation; split <;> simp
@[simp] theorem dropPresentation_csu (s : State) (reader : DevIx) :
    (State.dropPresentation s reader).csu = s.csu := by
  unfold State.dropPresentation; split <;> simp
@[simp] theorem dropPresentation_dc (s : State) (reader : DevIx) :
    (State.dropPresentation s reader).dc = s.dc := by
  unfold State.dropPresentation; split <;> simp
@[simp] theorem dropPresentation_ru (s : State) (reader : DevIx) :
    (State.dropPresentation s reader).ru = s.ru := by
  unfold State.dropPresentation; split <;> simp
@[simp] theorem dropPresentation_sc (s : State) (reader : DevIx) :
    (State.dropPresentation s reader).sc = s.sc := by
  unfold State.dropPresentation; split <;> simp
@[simp] theorem dropPresentation_sau (s : State) (reader : DevIx) :
    (State.dropPresentation s reader).sau = s.sau := by
  unfold State.dropPresentation; split <;> simp
@[simp] theorem dropPresentation_sp (s : State) (reader : DevIx) :
    (State.dropPresentation s reader).sp = s.sp := by
  unfold State.dropPresentation; split <;> simp

/-! ## Machine/Restart.lean -/

@[simp] theorem restartFc_pending (s : State) :
    (State.restartFc s).pending = s.pending := by
  simp only [State.restartFc]; rw [foldl_keeps State.pending _ (by intros; simp), foldl_keeps State.pending _ (by intros; simp)]
@[simp] theorem restartFc_csu (s : State) :
    (State.restartFc s).csu = s.csu := by
  simp only [State.restartFc]; rw [foldl_keeps State.csu _ (by intros; simp), foldl_keeps State.csu _ (by intros; simp)]
@[simp] theorem restartFc_csc (s : State) :
    (State.restartFc s).csc = s.csc := by
  simp only [State.restartFc]; rw [foldl_keeps State.csc _ (by intros; simp), foldl_keeps State.csc _ (by intros; simp)]
@[simp] theorem restartFc_pe (s : State) :
    (State.restartFc s).pe = s.pe := by
  simp only [State.restartFc]; rw [foldl_keeps State.pe _ (by intros; simp), foldl_keeps State.pe _ (by intros; simp)]
@[simp] theorem restartFc_dc (s : State) :
    (State.restartFc s).dc = s.dc := by
  simp only [State.restartFc]; rw [foldl_keeps State.dc _ (by intros; simp), foldl_keeps State.dc _ (by intros; simp)]
@[simp] theorem restartFc_ru (s : State) :
    (State.restartFc s).ru = s.ru := by
  simp only [State.restartFc]; rw [foldl_keeps State.ru _ (by intros; simp), foldl_keeps State.ru _ (by intros; simp)]
@[simp] theorem restartCsc_pending (s : State) :
    (State.restartCsc s).pending = s.pending := by
  unfold State.restartCsc; split <;> simp
@[simp] theorem restartCsc_rm (s : State) :
    (State.restartCsc s).rm = s.rm := by
  unfold State.restartCsc; split <;> simp
@[simp] theorem restartCsc_fc (s : State) :
    (State.restartCsc s).fc = s.fc := by
  unfold State.restartCsc; split <;> simp
@[simp] theorem restartCsc_csu (s : State) :
    (State.restartCsc s).csu = s.csu := by
  unfold State.restartCsc; split <;> simp
@[simp] theorem restartCsc_pe (s : State) :
    (State.restartCsc s).pe = s.pe := by
  unfold State.restartCsc; split <;> simp
@[simp] theorem restartCsc_dc (s : State) :
    (State.restartCsc s).dc = s.dc := by
  unfold State.restartCsc; split <;> simp
@[simp] theorem restartCsc_ru (s : State) :
    (State.restartCsc s).ru = s.ru := by
  unfold State.restartCsc; split <;> simp
@[simp] theorem restartCsc_sc (s : State) :
    (State.restartCsc s).sc = s.sc := by
  unfold State.restartCsc; split <;> simp
@[simp] theorem restartCsc_sau (s : State) :
    (State.restartCsc s).sau = s.sau := by
  unfold State.restartCsc; split <;> simp
@[simp] theorem restartDoor_pending (s : State) (d : DoorId) :
    (State.restartDoor s d).pending = s.pending := by
  unfold State.restartDoor; dsimp only; (repeat' split) <;> simp
@[simp] theorem restartDoor_fc (s : State) (d : DoorId) :
    (State.restartDoor s d).fc = s.fc := by
  unfold State.restartDoor; dsimp only; (repeat' split) <;> simp
@[simp] theorem restartDoor_csu (s : State) (d : DoorId) :
    (State.restartDoor s d).csu = s.csu := by
  unfold State.restartDoor; dsimp only; (repeat' split) <;> simp
@[simp] theorem restartDoor_csc (s : State) (d : DoorId) :
    (State.restartDoor s d).csc = s.csc := by
  unfold State.restartDoor; dsimp only; (repeat' split) <;> simp
@[simp] theorem restartDoor_pe (s : State) (d : DoorId) :
    (State.restartDoor s d).pe = s.pe := by
  unfold State.restartDoor; dsimp only; (repeat' split) <;> simp
@[simp] theorem restartDoor_ru (s : State) (d : DoorId) :
    (State.restartDoor s d).ru = s.ru := by
  unfold State.restartDoor; dsimp only; (repeat' split) <;> simp
@[simp] theorem restartZone_pending (s : State) (z : ZoneId) :
    (State.restartZone s z).pending = s.pending := by
  unfold State.restartZone; split <;> simp
@[simp] theorem restartZone_fc (s : State) (z : ZoneId) :
    (State.restartZone s z).fc = s.fc := by
  unfold State.restartZone; split <;> simp
@[simp] theorem restartZone_csu (s : State) (z : ZoneId) :
    (State.restartZone s z).csu = s.csu := by
  unfold State.restartZone; split <;> simp
@[simp] theorem restartZone_csc (s : State) (z : ZoneId) :
    (State.restartZone s z).csc = s.csc := by
  unfold State.restartZone; split <;> simp
@[simp] theorem restartZone_pe (s : State) (z : ZoneId) :
    (State.restartZone s z).pe = s.pe := by
  unfold State.restartZone; split <;> simp
@[simp] theorem restartZone_dc (s : State) (z : ZoneId) :
    (State.restartZone s z).dc = s.dc := by
  unfold State.restartZone; split <;> simp
@[simp] theorem restartZone_ru (s : State) (z : ZoneId) :
    (State.restartZone s z).ru = s.ru := by
  unfold State.restartZone; split <;> simp
@[simp] theorem postRestarted_pending (s : State) :
    (State.postRestarted s).pending = s.pending := by
  simp [State.postRestarted]
@[simp] theorem postRestarted_rm (s : State) :
    (State.postRestarted s).rm = s.rm := by
  simp [State.postRestarted]
@[simp] theorem postRestarted_fc (s : State) :
    (State.postRestarted s).fc = s.fc := by
  simp [State.postRestarted]
@[simp] theorem postRestarted_csu (s : State) :
    (State.postRestarted s).csu = s.csu := by
  simp [State.postRestarted]
@[simp] theorem postRestarted_csc (s : State) :
    (State.postRestarted s).csc = s.csc := by
  simp [State.postRestarted]
@[simp] theorem postRestarted_pe (s : State) :
    (State.postRestarted s).pe = s.pe := by
  simp [State.postRestarted]
@[simp] theorem postRestarted_dc (s : State) :
    (State.postRestarted s).dc = s.dc := by
  simp [State.postRestarted]
@[simp] theorem postRestarted_ru (s : State) :
    (State.postRestarted s).ru = s.ru := by
  simp [State.postRestarted]
@[simp] theorem postRestarted_sc (s : State) :
    (State.postRestarted s).sc = s.sc := by
  simp [State.postRestarted]
@[simp] theorem postRestarted_sau (s : State) :
    (State.postRestarted s).sau = s.sau := by
  simp [State.postRestarted]
@[simp] theorem restartAll_pending (s : State) :
    (State.restartAll s).pending = s.pending := by
  simp only [State.restartAll, reannounce_pending]
  rw [foldl_keeps State.pending State.restartZone (by intros; simp), toneTo_pending,
    foldl_keeps State.pending State.restartDoor (by intros; simp)]
  simp
@[simp] theorem restartAll_ru (s : State) :
    (State.restartAll s).ru = s.ru := by
  simp only [State.restartAll, reannounce_ru]
  rw [foldl_keeps State.ru State.restartZone (by intros; simp), toneTo_ru,
    foldl_keeps State.ru State.restartDoor (by intros; simp)]
  simp
@[simp] theorem testRestart_pending (s : State) :
    (State.testRestart s).pending = s.pending := by
  unfold State.testRestart; dsimp only; (repeat' split) <;> simp
@[simp] theorem testRestart_ru (s : State) :
    (State.testRestart s).ru = s.ru := by
  unfold State.testRestart; dsimp only; (repeat' split) <;> simp

/-! ## Machine/StoreCycles.lean -/

@[simp] theorem answerLook_pending (s : State) (a : Answer) :
    (State.answerLook s a).pending = s.pending := by
  simp [State.answerLook]
@[simp] theorem answerLook_rm (s : State) (a : Answer) :
    (State.answerLook s a).rm = s.rm := by
  simp [State.answerLook]
@[simp] theorem answerLook_fc (s : State) (a : Answer) :
    (State.answerLook s a).fc = s.fc := by
  simp [State.answerLook]
@[simp] theorem answerLook_csu (s : State) (a : Answer) :
    (State.answerLook s a).csu = s.csu := by
  simp [State.answerLook]
@[simp] theorem answerLook_pe (s : State) (a : Answer) :
    (State.answerLook s a).pe = s.pe := by
  simp [State.answerLook]
@[simp] theorem answerLook_dc (s : State) (a : Answer) :
    (State.answerLook s a).dc = s.dc := by
  simp [State.answerLook]
@[simp] theorem answerLook_ru (s : State) (a : Answer) :
    (State.answerLook s a).ru = s.ru := by
  simp [State.answerLook]
@[simp] theorem answerLook_sc (s : State) (a : Answer) :
    (State.answerLook s a).sc = s.sc := by
  simp [State.answerLook]
@[simp] theorem answerLook_sau (s : State) (a : Answer) :
    (State.answerLook s a).sau = s.sau := by
  simp [State.answerLook]
@[simp] theorem answerWaiter_pending (s : State) (a : Waiter → Answer) (w : Waiter) :
    (State.answerWaiter s a w).pending = s.pending := by
  unfold State.answerWaiter; split <;> simp
@[simp] theorem answerWaiter_fc (s : State) (a : Waiter → Answer) (w : Waiter) :
    (State.answerWaiter s a w).fc = s.fc := by
  unfold State.answerWaiter; split <;> simp
@[simp] theorem answerWaiter_csu (s : State) (a : Waiter → Answer) (w : Waiter) :
    (State.answerWaiter s a w).csu = s.csu := by
  unfold State.answerWaiter; split <;> simp
@[simp] theorem leaveQueue_pending (s : State) :
    (State.leaveQueue s).pending = s.pending := by
  simp [State.leaveQueue]
@[simp] theorem leaveQueue_rm (s : State) :
    (State.leaveQueue s).rm = s.rm := by
  simp [State.leaveQueue]
@[simp] theorem leaveQueue_fc (s : State) :
    (State.leaveQueue s).fc = s.fc := by
  simp [State.leaveQueue]
@[simp] theorem leaveQueue_csu (s : State) :
    (State.leaveQueue s).csu = s.csu := by
  simp [State.leaveQueue]
@[simp] theorem leaveQueue_pe (s : State) :
    (State.leaveQueue s).pe = s.pe := by
  simp [State.leaveQueue]
@[simp] theorem leaveQueue_dc (s : State) :
    (State.leaveQueue s).dc = s.dc := by
  simp [State.leaveQueue]
@[simp] theorem leaveQueue_ru (s : State) :
    (State.leaveQueue s).ru = s.ru := by
  simp [State.leaveQueue]
@[simp] theorem leaveQueue_sc (s : State) :
    (State.leaveQueue s).sc = s.sc := by
  simp [State.leaveQueue]
@[simp] theorem leaveQueue_sau (s : State) :
    (State.leaveQueue s).sau = s.sau := by
  simp [State.leaveQueue]
@[simp] theorem leaveQueue_sp (s : State) :
    (State.leaveQueue s).sp = s.sp := by
  simp [State.leaveQueue]
@[simp] theorem fetchGood_pending (s : State) (r : FetchRequest) (slots : List (List Byte)) :
    (State.fetchGood s r slots).pending = s.pending := by
  unfold State.fetchGood; exact foldl_keeps State.pending _ (by intros; (repeat' split) <;> simp) _ _
@[simp] theorem fetchGood_fc (s : State) (r : FetchRequest) (slots : List (List Byte)) :
    (State.fetchGood s r slots).fc = s.fc := by
  unfold State.fetchGood; exact foldl_keeps State.fc _ (by intros; (repeat' split) <;> simp) _ _
@[simp] theorem fetchGood_csu (s : State) (r : FetchRequest) (slots : List (List Byte)) :
    (State.fetchGood s r slots).csu = s.csu := by
  unfold State.fetchGood; exact foldl_keeps State.csu _ (by intros; (repeat' split) <;> simp) _ _
@[simp] theorem postStoreFault_pending (s : State) (number : Nat) (r : StoreReason) :
    (State.postStoreFault s number r).pending = s.pending := by
  simp [State.postStoreFault]
@[simp] theorem postStoreFault_rm (s : State) (number : Nat) (r : StoreReason) :
    (State.postStoreFault s number r).rm = s.rm := by
  simp [State.postStoreFault]
@[simp] theorem postStoreFault_fc (s : State) (number : Nat) (r : StoreReason) :
    (State.postStoreFault s number r).fc = s.fc := by
  simp [State.postStoreFault]
@[simp] theorem postStoreFault_csu (s : State) (number : Nat) (r : StoreReason) :
    (State.postStoreFault s number r).csu = s.csu := by
  simp [State.postStoreFault]
@[simp] theorem postStoreFault_csc (s : State) (number : Nat) (r : StoreReason) :
    (State.postStoreFault s number r).csc = s.csc := by
  simp [State.postStoreFault]
@[simp] theorem postStoreFault_pe (s : State) (number : Nat) (r : StoreReason) :
    (State.postStoreFault s number r).pe = s.pe := by
  simp [State.postStoreFault]
@[simp] theorem postStoreFault_dc (s : State) (number : Nat) (r : StoreReason) :
    (State.postStoreFault s number r).dc = s.dc := by
  simp [State.postStoreFault]
@[simp] theorem postStoreFault_ru (s : State) (number : Nat) (r : StoreReason) :
    (State.postStoreFault s number r).ru = s.ru := by
  simp [State.postStoreFault]
@[simp] theorem postStoreFault_sc (s : State) (number : Nat) (r : StoreReason) :
    (State.postStoreFault s number r).sc = s.sc := by
  simp [State.postStoreFault]
@[simp] theorem postStoreFault_sau (s : State) (number : Nat) (r : StoreReason) :
    (State.postStoreFault s number r).sau = s.sau := by
  simp [State.postStoreFault]
@[simp] theorem fetchFault_pending (s : State) (r : FetchRequest) :
    (State.fetchFault s r).pending = s.pending := by
  unfold State.fetchFault; exact foldl_keeps State.pending _ (by intros; (repeat' split) <;> simp) _ _
@[simp] theorem fetchFault_fc (s : State) (r : FetchRequest) :
    (State.fetchFault s r).fc = s.fc := by
  unfold State.fetchFault; exact foldl_keeps State.fc _ (by intros; (repeat' split) <;> simp) _ _
@[simp] theorem fetchFault_csu (s : State) (r : FetchRequest) :
    (State.fetchFault s r).csu = s.csu := by
  unfold State.fetchFault; exact foldl_keeps State.csu _ (by intros; (repeat' split) <;> simp) _ _
@[simp] theorem postWriteEnd_pending (s : State) (w : WriteRecord) (e : WriteEnd) :
    (State.postWriteEnd s w e).pending = s.pending := by
  unfold State.postWriteEnd; split <;> simp
@[simp] theorem postWriteEnd_rm (s : State) (w : WriteRecord) (e : WriteEnd) :
    (State.postWriteEnd s w e).rm = s.rm := by
  unfold State.postWriteEnd; split <;> simp
@[simp] theorem postWriteEnd_fc (s : State) (w : WriteRecord) (e : WriteEnd) :
    (State.postWriteEnd s w e).fc = s.fc := by
  unfold State.postWriteEnd; split <;> simp
@[simp] theorem postWriteEnd_csu (s : State) (w : WriteRecord) (e : WriteEnd) :
    (State.postWriteEnd s w e).csu = s.csu := by
  unfold State.postWriteEnd; split <;> simp
@[simp] theorem postWriteEnd_csc (s : State) (w : WriteRecord) (e : WriteEnd) :
    (State.postWriteEnd s w e).csc = s.csc := by
  unfold State.postWriteEnd; split <;> simp
@[simp] theorem postWriteEnd_pe (s : State) (w : WriteRecord) (e : WriteEnd) :
    (State.postWriteEnd s w e).pe = s.pe := by
  unfold State.postWriteEnd; split <;> simp
@[simp] theorem postWriteEnd_dc (s : State) (w : WriteRecord) (e : WriteEnd) :
    (State.postWriteEnd s w e).dc = s.dc := by
  unfold State.postWriteEnd; split <;> simp
@[simp] theorem postWriteEnd_ru (s : State) (w : WriteRecord) (e : WriteEnd) :
    (State.postWriteEnd s w e).ru = s.ru := by
  unfold State.postWriteEnd; split <;> simp
@[simp] theorem postWriteEnd_sc (s : State) (w : WriteRecord) (e : WriteEnd) :
    (State.postWriteEnd s w e).sc = s.sc := by
  unfold State.postWriteEnd; split <;> simp
@[simp] theorem postWriteEnd_sau (s : State) (w : WriteRecord) (e : WriteEnd) :
    (State.postWriteEnd s w e).sau = s.sau := by
  unfold State.postWriteEnd; split <;> simp
@[simp] theorem endWrite_pending (s : State) (w : WriteRecord) (e : WriteEnd) :
    (State.endWrite s w e).pending = s.pending := by
  simp [State.endWrite]
@[simp] theorem endWrite_ru (s : State) (w : WriteRecord) (e : WriteEnd) :
    (State.endWrite s w e).ru = s.ru := by
  simp [State.endWrite]
@[simp] theorem setStage_pending (s : State) (w : WriteRecord) (stage : WriteStage) :
    (State.setStage s w stage).pending = s.pending := by
  simp [State.setStage]
@[simp] theorem setStage_rm (s : State) (w : WriteRecord) (stage : WriteStage) :
    (State.setStage s w stage).rm = s.rm := by
  simp [State.setStage]
@[simp] theorem setStage_fc (s : State) (w : WriteRecord) (stage : WriteStage) :
    (State.setStage s w stage).fc = s.fc := by
  simp [State.setStage]
@[simp] theorem setStage_csu (s : State) (w : WriteRecord) (stage : WriteStage) :
    (State.setStage s w stage).csu = s.csu := by
  simp [State.setStage]
@[simp] theorem setStage_pe (s : State) (w : WriteRecord) (stage : WriteStage) :
    (State.setStage s w stage).pe = s.pe := by
  simp [State.setStage]
@[simp] theorem setStage_dc (s : State) (w : WriteRecord) (stage : WriteStage) :
    (State.setStage s w stage).dc = s.dc := by
  simp [State.setStage]
@[simp] theorem setStage_ru (s : State) (w : WriteRecord) (stage : WriteStage) :
    (State.setStage s w stage).ru = s.ru := by
  simp [State.setStage]
@[simp] theorem setStage_sc (s : State) (w : WriteRecord) (stage : WriteStage) :
    (State.setStage s w stage).sc = s.sc := by
  simp [State.setStage]
@[simp] theorem setStage_sau (s : State) (w : WriteRecord) (stage : WriteStage) :
    (State.setStage s w stage).sau = s.sau := by
  simp [State.setStage]
@[simp] theorem setStage_sp (s : State) (w : WriteRecord) (stage : WriteStage) :
    (State.setStage s w stage).sp = s.sp := by
  simp [State.setStage]
@[simp] theorem repeatFetch_pending (s : State) (r : FetchRequest) :
    (State.repeatFetch s r).pending = s.pending := by
  simp [State.repeatFetch]
@[simp] theorem repeatFetch_rm (s : State) (r : FetchRequest) :
    (State.repeatFetch s r).rm = s.rm := by
  simp [State.repeatFetch]
@[simp] theorem repeatFetch_fc (s : State) (r : FetchRequest) :
    (State.repeatFetch s r).fc = s.fc := by
  simp [State.repeatFetch]
@[simp] theorem repeatFetch_csu (s : State) (r : FetchRequest) :
    (State.repeatFetch s r).csu = s.csu := by
  simp [State.repeatFetch]
@[simp] theorem repeatFetch_pe (s : State) (r : FetchRequest) :
    (State.repeatFetch s r).pe = s.pe := by
  simp [State.repeatFetch]
@[simp] theorem repeatFetch_dc (s : State) (r : FetchRequest) :
    (State.repeatFetch s r).dc = s.dc := by
  simp [State.repeatFetch]
@[simp] theorem repeatFetch_ru (s : State) (r : FetchRequest) :
    (State.repeatFetch s r).ru = s.ru := by
  simp [State.repeatFetch]
@[simp] theorem repeatFetch_sc (s : State) (r : FetchRequest) :
    (State.repeatFetch s r).sc = s.sc := by
  simp [State.repeatFetch]
@[simp] theorem repeatFetch_sau (s : State) (r : FetchRequest) :
    (State.repeatFetch s r).sau = s.sau := by
  simp [State.repeatFetch]
@[simp] theorem repeatFetch_sp (s : State) (r : FetchRequest) :
    (State.repeatFetch s r).sp = s.sp := by
  simp [State.repeatFetch]
@[simp] theorem readEndsFaulted_pending (s : State) :
    (State.readEndsFaulted s).pending = s.pending := by
  unfold State.readEndsFaulted; (repeat' split) <;> simp
@[simp] theorem readEndsGood_pending (s : State) (slots : List (List Byte)) :
    (State.readEndsGood s slots).pending = s.pending := by
  unfold State.readEndsGood; (repeat' split) <;> simp
@[simp] theorem readCompletes_pending (s : State) (slots : List (List Byte)) :
    (State.readCompletes s slots).pending = s.pending := by
  unfold State.readCompletes; split <;> simp
@[simp] theorem slotWritten_pending (s : State) :
    (State.slotWritten s).pending = s.pending := by
  unfold State.slotWritten; (repeat' split) <;> simp
@[simp] theorem slotWritten_rm (s : State) :
    (State.slotWritten s).rm = s.rm := by
  unfold State.slotWritten; (repeat' split) <;> simp
@[simp] theorem slotWritten_fc (s : State) :
    (State.slotWritten s).fc = s.fc := by
  unfold State.slotWritten; (repeat' split) <;> simp
@[simp] theorem slotWritten_csu (s : State) :
    (State.slotWritten s).csu = s.csu := by
  unfold State.slotWritten; (repeat' split) <;> simp
@[simp] theorem slotWritten_pe (s : State) :
    (State.slotWritten s).pe = s.pe := by
  unfold State.slotWritten; (repeat' split) <;> simp
@[simp] theorem slotWritten_dc (s : State) :
    (State.slotWritten s).dc = s.dc := by
  unfold State.slotWritten; (repeat' split) <;> simp
@[simp] theorem slotWritten_ru (s : State) :
    (State.slotWritten s).ru = s.ru := by
  unfold State.slotWritten; (repeat' split) <;> simp
@[simp] theorem slotWritten_sc (s : State) :
    (State.slotWritten s).sc = s.sc := by
  unfold State.slotWritten; (repeat' split) <;> simp
@[simp] theorem slotWritten_sau (s : State) :
    (State.slotWritten s).sau = s.sau := by
  unfold State.slotWritten; (repeat' split) <;> simp
@[simp] theorem slotWritten_sp (s : State) :
    (State.slotWritten s).sp = s.sp := by
  unfold State.slotWritten; (repeat' split) <;> simp
@[simp] theorem slotWriteFails_pending (s : State) :
    (State.slotWriteFails s).pending = s.pending := by
  unfold State.slotWriteFails; (repeat' split) <;> simp
@[simp] theorem slotWriteFails_ru (s : State) :
    (State.slotWriteFails s).ru = s.ru := by
  unfold State.slotWriteFails; (repeat' split) <;> simp
@[simp] theorem readBackEnds_pending (s : State) (equal : WriteRecord → Bool) :
    (State.readBackEnds s equal).pending = s.pending := by
  unfold State.readBackEnds; (repeat' split) <;> simp
@[simp] theorem readBackEnds_ru (s : State) (equal : WriteRecord → Bool) :
    (State.readBackEnds s equal).ru = s.ru := by
  unfold State.readBackEnds; (repeat' split) <;> simp

/-! ## Machine/Frames.lean -/

@[simp] theorem sweepEnds_pending (s : State) (returned : Bool) :
    (State.sweepEnds s returned).pending = s.pending := by
  unfold State.sweepEnds; split <;> simp
@[simp] theorem sweepEnds_fc (s : State) (returned : Bool) :
    (State.sweepEnds s returned).fc = s.fc := by
  unfold State.sweepEnds; split <;> simp
@[simp] theorem sweepEnds_csu (s : State) (returned : Bool) :
    (State.sweepEnds s returned).csu = s.csu := by
  unfold State.sweepEnds; split <;> simp
@[simp] theorem sweepEnds_csc (s : State) (returned : Bool) :
    (State.sweepEnds s returned).csc = s.csc := by
  unfold State.sweepEnds; split <;> simp
@[simp] theorem sweepEnds_pe (s : State) (returned : Bool) :
    (State.sweepEnds s returned).pe = s.pe := by
  unfold State.sweepEnds; split <;> simp
@[simp] theorem sweepEnds_dc (s : State) (returned : Bool) :
    (State.sweepEnds s returned).dc = s.dc := by
  unfold State.sweepEnds; split <;> simp
@[simp] theorem sweepEnds_ru (s : State) (returned : Bool) :
    (State.sweepEnds s returned).ru = s.ru := by
  unfold State.sweepEnds; split <;> simp
@[simp] theorem sweepEnds_sc (s : State) (returned : Bool) :
    (State.sweepEnds s returned).sc = s.sc := by
  unfold State.sweepEnds; split <;> simp
@[simp] theorem sweepEnds_sau (s : State) (returned : Bool) :
    (State.sweepEnds s returned).sau = s.sau := by
  unfold State.sweepEnds; split <;> simp
@[simp] theorem frameHeard_pending (s : State) :
    (State.frameHeard s).pending = s.pending := by
  unfold State.frameHeard; dsimp only; (repeat' split) <;> simp
@[simp] theorem frameHeard_fc (s : State) :
    (State.frameHeard s).fc = s.fc := by
  unfold State.frameHeard; dsimp only; (repeat' split) <;> simp
@[simp] theorem frameHeard_csu (s : State) :
    (State.frameHeard s).csu = s.csu := by
  unfold State.frameHeard; dsimp only; (repeat' split) <;> simp
@[simp] theorem frameHeard_csc (s : State) :
    (State.frameHeard s).csc = s.csc := by
  unfold State.frameHeard; dsimp only; (repeat' split) <;> simp
@[simp] theorem frameHeard_pe (s : State) :
    (State.frameHeard s).pe = s.pe := by
  unfold State.frameHeard; dsimp only; (repeat' split) <;> simp
@[simp] theorem frameHeard_dc (s : State) :
    (State.frameHeard s).dc = s.dc := by
  unfold State.frameHeard; dsimp only; (repeat' split) <;> simp
@[simp] theorem frameHeard_ru (s : State) :
    (State.frameHeard s).ru = s.ru := by
  unfold State.frameHeard; dsimp only; (repeat' split) <;> simp
@[simp] theorem frameHeard_sc (s : State) :
    (State.frameHeard s).sc = s.sc := by
  unfold State.frameHeard; dsimp only; (repeat' split) <;> simp
@[simp] theorem frameHeard_sau (s : State) :
    (State.frameHeard s).sau = s.sau := by
  unfold State.frameHeard; dsimp only; (repeat' split) <;> simp
@[simp] theorem silent_pending (s : State) :
    (State.silent s).pending = s.pending := by
  unfold State.silent; dsimp only; (repeat' split) <;> simp
@[simp] theorem silent_fc (s : State) :
    (State.silent s).fc = s.fc := by
  unfold State.silent; dsimp only; (repeat' split) <;> simp
@[simp] theorem silent_csu (s : State) :
    (State.silent s).csu = s.csu := by
  unfold State.silent; dsimp only; (repeat' split) <;> simp
@[simp] theorem silent_csc (s : State) :
    (State.silent s).csc = s.csc := by
  unfold State.silent; dsimp only; (repeat' split) <;> simp
@[simp] theorem silent_pe (s : State) :
    (State.silent s).pe = s.pe := by
  unfold State.silent; dsimp only; (repeat' split) <;> simp
@[simp] theorem silent_dc (s : State) :
    (State.silent s).dc = s.dc := by
  unfold State.silent; dsimp only; (repeat' split) <;> simp
@[simp] theorem silent_ru (s : State) :
    (State.silent s).ru = s.ru := by
  unfold State.silent; dsimp only; (repeat' split) <;> simp
@[simp] theorem silent_sc (s : State) :
    (State.silent s).sc = s.sc := by
  unfold State.silent; dsimp only; (repeat' split) <;> simp
@[simp] theorem silent_sau (s : State) :
    (State.silent s).sau = s.sau := by
  unfold State.silent; dsimp only; (repeat' split) <;> simp
@[simp] theorem postFc_pending (s : State) (kind : EventKind) (d : DevIx) (reason : Option Nat) :
    (State.postFc s kind d reason).pending = s.pending := by
  simp [State.postFc]
@[simp] theorem postFc_rm (s : State) (kind : EventKind) (d : DevIx) (reason : Option Nat) :
    (State.postFc s kind d reason).rm = s.rm := by
  simp [State.postFc]
@[simp] theorem postFc_fc (s : State) (kind : EventKind) (d : DevIx) (reason : Option Nat) :
    (State.postFc s kind d reason).fc = s.fc := by
  simp [State.postFc]
@[simp] theorem postFc_csu (s : State) (kind : EventKind) (d : DevIx) (reason : Option Nat) :
    (State.postFc s kind d reason).csu = s.csu := by
  simp [State.postFc]
@[simp] theorem postFc_csc (s : State) (kind : EventKind) (d : DevIx) (reason : Option Nat) :
    (State.postFc s kind d reason).csc = s.csc := by
  simp [State.postFc]
@[simp] theorem postFc_pe (s : State) (kind : EventKind) (d : DevIx) (reason : Option Nat) :
    (State.postFc s kind d reason).pe = s.pe := by
  simp [State.postFc]
@[simp] theorem postFc_dc (s : State) (kind : EventKind) (d : DevIx) (reason : Option Nat) :
    (State.postFc s kind d reason).dc = s.dc := by
  simp [State.postFc]
@[simp] theorem postFc_ru (s : State) (kind : EventKind) (d : DevIx) (reason : Option Nat) :
    (State.postFc s kind d reason).ru = s.ru := by
  simp [State.postFc]
@[simp] theorem postFc_sc (s : State) (kind : EventKind) (d : DevIx) (reason : Option Nat) :
    (State.postFc s kind d reason).sc = s.sc := by
  simp [State.postFc]
@[simp] theorem postFc_sau (s : State) (kind : EventKind) (d : DevIx) (reason : Option Nat) :
    (State.postFc s kind d reason).sau = s.sau := by
  simp [State.postFc]
@[simp] theorem foreignFrame_pending (s : State) (d : DevIx) :
    (State.foreignFrame s d).pending = s.pending := by
  unfold State.foreignFrame; split <;> simp
@[simp] theorem foreignFrame_rm (s : State) (d : DevIx) :
    (State.foreignFrame s d).rm = s.rm := by
  unfold State.foreignFrame; split <;> simp
@[simp] theorem foreignFrame_csu (s : State) (d : DevIx) :
    (State.foreignFrame s d).csu = s.csu := by
  unfold State.foreignFrame; split <;> simp
@[simp] theorem foreignFrame_csc (s : State) (d : DevIx) :
    (State.foreignFrame s d).csc = s.csc := by
  unfold State.foreignFrame; split <;> simp
@[simp] theorem foreignFrame_pe (s : State) (d : DevIx) :
    (State.foreignFrame s d).pe = s.pe := by
  unfold State.foreignFrame; split <;> simp
@[simp] theorem foreignFrame_dc (s : State) (d : DevIx) :
    (State.foreignFrame s d).dc = s.dc := by
  unfold State.foreignFrame; split <;> simp
@[simp] theorem foreignFrame_ru (s : State) (d : DevIx) :
    (State.foreignFrame s d).ru = s.ru := by
  unfold State.foreignFrame; split <;> simp
@[simp] theorem foreignFrame_sc (s : State) (d : DevIx) :
    (State.foreignFrame s d).sc = s.sc := by
  unfold State.foreignFrame; split <;> simp
@[simp] theorem foreignFrame_sau (s : State) (d : DevIx) :
    (State.foreignFrame s d).sau = s.sau := by
  unfold State.foreignFrame; split <;> simp
@[simp] theorem healthReport_pending (s : State) (d : DevIx) (health : Byte) :
    (State.healthReport s d health).pending = s.pending := by
  unfold State.healthReport; dsimp only; (repeat' split) <;> simp
@[simp] theorem healthReport_rm (s : State) (d : DevIx) (health : Byte) :
    (State.healthReport s d health).rm = s.rm := by
  unfold State.healthReport; dsimp only; (repeat' split) <;> simp
@[simp] theorem healthReport_csu (s : State) (d : DevIx) (health : Byte) :
    (State.healthReport s d health).csu = s.csu := by
  unfold State.healthReport; dsimp only; (repeat' split) <;> simp
@[simp] theorem healthReport_csc (s : State) (d : DevIx) (health : Byte) :
    (State.healthReport s d health).csc = s.csc := by
  unfold State.healthReport; dsimp only; (repeat' split) <;> simp
@[simp] theorem healthReport_pe (s : State) (d : DevIx) (health : Byte) :
    (State.healthReport s d health).pe = s.pe := by
  unfold State.healthReport; dsimp only; (repeat' split) <;> simp
@[simp] theorem healthReport_dc (s : State) (d : DevIx) (health : Byte) :
    (State.healthReport s d health).dc = s.dc := by
  unfold State.healthReport; dsimp only; (repeat' split) <;> simp
@[simp] theorem healthReport_ru (s : State) (d : DevIx) (health : Byte) :
    (State.healthReport s d health).ru = s.ru := by
  unfold State.healthReport; dsimp only; (repeat' split) <;> simp
@[simp] theorem healthReport_sc (s : State) (d : DevIx) (health : Byte) :
    (State.healthReport s d health).sc = s.sc := by
  unfold State.healthReport; dsimp only; (repeat' split) <;> simp
@[simp] theorem healthReport_sau (s : State) (d : DevIx) (health : Byte) :
    (State.healthReport s d health).sau = s.sau := by
  unfold State.healthReport; dsimp only; (repeat' split) <;> simp
@[simp] theorem route_pending (s : State) (d : DevIx) (r : Report) :
    (State.route s d r).pending = s.pending := by
  unfold State.route; split <;> simp
@[simp] theorem route_csu (s : State) (d : DevIx) (r : Report) :
    (State.route s d r).csu = s.csu := by
  unfold State.route; split <;> simp
@[simp] theorem acceptFrame_pending (s : State) (d : DevIx) (arrival : LoopEnd) (f : Frame) :
    (State.acceptFrame s d arrival f).pending = s.pending := by
  unfold State.acceptFrame; dsimp only; (repeat' split) <;> simp
@[simp] theorem acceptFrame_csu (s : State) (d : DevIx) (arrival : LoopEnd) (f : Frame) :
    (State.acceptFrame s d arrival f).csu = s.csu := by
  unfold State.acceptFrame; dsimp only; (repeat' split) <;> simp
@[simp] theorem acceptFrame_csc (s : State) (d : DevIx) (arrival : LoopEnd) (f : Frame) :
    (State.acceptFrame s d arrival f).csc = s.csc := by
  unfold State.acceptFrame; dsimp only; (repeat' split) <;> simp
@[simp] theorem acceptFrame_pe (s : State) (d : DevIx) (arrival : LoopEnd) (f : Frame) :
    (State.acceptFrame s d arrival f).pe = s.pe := by
  unfold State.acceptFrame; dsimp only; (repeat' split) <;> simp
@[simp] theorem acceptFrame_dc (s : State) (d : DevIx) (arrival : LoopEnd) (f : Frame) :
    (State.acceptFrame s d arrival f).dc = s.dc := by
  unfold State.acceptFrame; dsimp only; (repeat' split) <;> simp
@[simp] theorem acceptFrame_ru (s : State) (d : DevIx) (arrival : LoopEnd) (f : Frame) :
    (State.acceptFrame s d arrival f).ru = s.ru := by
  unfold State.acceptFrame; dsimp only; (repeat' split) <;> simp
@[simp] theorem deviceFrame_pending (s : State) (d : DevIx) (arrival : LoopEnd) (f : Frame) :
    (State.deviceFrame s d arrival f).pending = s.pending := by
  unfold State.deviceFrame; dsimp only; (repeat' split) <;> simp
@[simp] theorem deviceFrame_csu (s : State) (d : DevIx) (arrival : LoopEnd) (f : Frame) :
    (State.deviceFrame s d arrival f).csu = s.csu := by
  unfold State.deviceFrame; dsimp only; (repeat' split) <;> simp
@[simp] theorem classify_pending (s : State) (arrival : LoopEnd) (f : Frame) :
    (State.classify s arrival f).pending = s.pending := by
  unfold State.classify; (repeat' split) <;> simp
@[simp] theorem classify_csu (s : State) (arrival : LoopEnd) (f : Frame) :
    (State.classify s arrival f).csu = s.csu := by
  unfold State.classify; (repeat' split) <;> simp
@[simp] theorem loopBytes_pending (s : State) (arrival : LoopEnd) (bytes : List Byte) :
    (State.loopBytes s arrival bytes).pending = s.pending := by
  unfold State.loopBytes; split <;> simp
@[simp] theorem loopBytes_csu (s : State) (arrival : LoopEnd) (bytes : List Byte) :
    (State.loopBytes s arrival bytes).csu = s.csu := by
  unfold State.loopBytes; split <;> simp
@[simp] theorem reachMs_pending (s : State) (ms : Nat) :
    (State.reachMs s ms).pending = s.pending := by
  simp [State.reachMs]
@[simp] theorem reachMs_rm (s : State) (ms : Nat) :
    (State.reachMs s ms).rm = s.rm := by
  simp [State.reachMs]
@[simp] theorem reachMs_fc (s : State) (ms : Nat) :
    (State.reachMs s ms).fc = s.fc := by
  simp [State.reachMs]
@[simp] theorem reachMs_csc (s : State) (ms : Nat) :
    (State.reachMs s ms).csc = s.csc := by
  simp [State.reachMs]
@[simp] theorem reachMs_pe (s : State) (ms : Nat) :
    (State.reachMs s ms).pe = s.pe := by
  simp [State.reachMs]
@[simp] theorem reachMs_dc (s : State) (ms : Nat) :
    (State.reachMs s ms).dc = s.dc := by
  simp [State.reachMs]
@[simp] theorem reachMs_ru (s : State) (ms : Nat) :
    (State.reachMs s ms).ru = s.ru := by
  simp [State.reachMs]
@[simp] theorem reachMs_sc (s : State) (ms : Nat) :
    (State.reachMs s ms).sc = s.sc := by
  simp [State.reachMs]
@[simp] theorem reachMs_sau (s : State) (ms : Nat) :
    (State.reachMs s ms).sau = s.sau := by
  simp [State.reachMs]
@[simp] theorem reachMs_sp (s : State) (ms : Nat) :
    (State.reachMs s ms).sp = s.sp := by
  simp [State.reachMs]
@[simp] theorem ownerOfMissing_pending (s : State) (d : DevIx) (r : DevRole) :
    (State.ownerOfMissing s d r).pending = s.pending := by
  unfold State.ownerOfMissing; split <;> simp
@[simp] theorem ownerOfMissing_fc (s : State) (d : DevIx) (r : DevRole) :
    (State.ownerOfMissing s d r).fc = s.fc := by
  unfold State.ownerOfMissing; split <;> simp
@[simp] theorem ownerOfMissing_csu (s : State) (d : DevIx) (r : DevRole) :
    (State.ownerOfMissing s d r).csu = s.csu := by
  unfold State.ownerOfMissing; split <;> simp
@[simp] theorem ownerOfMissing_csc (s : State) (d : DevIx) (r : DevRole) :
    (State.ownerOfMissing s d r).csc = s.csc := by
  unfold State.ownerOfMissing; split <;> simp
@[simp] theorem ownerOfMissing_pe (s : State) (d : DevIx) (r : DevRole) :
    (State.ownerOfMissing s d r).pe = s.pe := by
  unfold State.ownerOfMissing; split <;> simp
@[simp] theorem ownerOfMissing_ru (s : State) (d : DevIx) (r : DevRole) :
    (State.ownerOfMissing s d r).ru = s.ru := by
  unfold State.ownerOfMissing; split <;> simp
@[simp] theorem deviceGone_pending (s : State) (d : DevIx) :
    (State.deviceGone s d).pending = s.pending := by
  simp [State.deviceGone]
@[simp] theorem deviceGone_csu (s : State) (d : DevIx) :
    (State.deviceGone s d).csu = s.csu := by
  simp [State.deviceGone]
@[simp] theorem deviceGone_csc (s : State) (d : DevIx) :
    (State.deviceGone s d).csc = s.csc := by
  simp [State.deviceGone]
@[simp] theorem deviceGone_pe (s : State) (d : DevIx) :
    (State.deviceGone s d).pe = s.pe := by
  simp [State.deviceGone]
@[simp] theorem deviceGone_ru (s : State) (d : DevIx) :
    (State.deviceGone s d).ru = s.ru := by
  simp [State.deviceGone]
@[simp] theorem admitFrames_pending (s : State) (fs : List Frame) :
    (State.admitFrames s fs).1.pending = s.pending := by
  unfold State.admitFrames; split <;> simp
@[simp] theorem admitFrames_fc (s : State) (fs : List Frame) :
    (State.admitFrames s fs).1.fc = s.fc := by
  unfold State.admitFrames; split <;> simp
@[simp] theorem admitFrames_csu (s : State) (fs : List Frame) :
    (State.admitFrames s fs).1.csu = s.csu := by
  unfold State.admitFrames; split <;> simp
@[simp] theorem admitFrames_csc (s : State) (fs : List Frame) :
    (State.admitFrames s fs).1.csc = s.csc := by
  unfold State.admitFrames; split <;> simp
@[simp] theorem admitFrames_pe (s : State) (fs : List Frame) :
    (State.admitFrames s fs).1.pe = s.pe := by
  unfold State.admitFrames; split <;> simp
@[simp] theorem admitFrames_dc (s : State) (fs : List Frame) :
    (State.admitFrames s fs).1.dc = s.dc := by
  unfold State.admitFrames; split <;> simp
@[simp] theorem admitFrames_ru (s : State) (fs : List Frame) :
    (State.admitFrames s fs).1.ru = s.ru := by
  unfold State.admitFrames; split <;> simp
@[simp] theorem admitFrames_sc (s : State) (fs : List Frame) :
    (State.admitFrames s fs).1.sc = s.sc := by
  unfold State.admitFrames; split <;> simp
@[simp] theorem admitFrames_sau (s : State) (fs : List Frame) :
    (State.admitFrames s fs).1.sau = s.sau := by
  unfold State.admitFrames; split <;> simp
@[simp] theorem admitFrames_sp (s : State) (fs : List Frame) :
    (State.admitFrames s fs).1.sp = s.sp := by
  unfold State.admitFrames; split <;> simp
@[simp] theorem stationToLoop_pending (s : State) (f : Frame) :
    (State.stationToLoop s f).1.pending = s.pending := by
  unfold State.stationToLoop; (repeat' split) <;> simp
@[simp] theorem stationToLoop_fc (s : State) (f : Frame) :
    (State.stationToLoop s f).1.fc = s.fc := by
  unfold State.stationToLoop; (repeat' split) <;> simp
@[simp] theorem stationToLoop_csu (s : State) (f : Frame) :
    (State.stationToLoop s f).1.csu = s.csu := by
  unfold State.stationToLoop; (repeat' split) <;> simp
@[simp] theorem stationToLoop_csc (s : State) (f : Frame) :
    (State.stationToLoop s f).1.csc = s.csc := by
  unfold State.stationToLoop; (repeat' split) <;> simp
@[simp] theorem stationToLoop_pe (s : State) (f : Frame) :
    (State.stationToLoop s f).1.pe = s.pe := by
  unfold State.stationToLoop; (repeat' split) <;> simp
@[simp] theorem stationToLoop_dc (s : State) (f : Frame) :
    (State.stationToLoop s f).1.dc = s.dc := by
  unfold State.stationToLoop; (repeat' split) <;> simp
@[simp] theorem stationToLoop_ru (s : State) (f : Frame) :
    (State.stationToLoop s f).1.ru = s.ru := by
  unfold State.stationToLoop; (repeat' split) <;> simp
@[simp] theorem stationToLoop_sc (s : State) (f : Frame) :
    (State.stationToLoop s f).1.sc = s.sc := by
  unfold State.stationToLoop; (repeat' split) <;> simp
@[simp] theorem stationToLoop_sau (s : State) (f : Frame) :
    (State.stationToLoop s f).1.sau = s.sau := by
  unfold State.stationToLoop; (repeat' split) <;> simp
@[simp] theorem stationToLoop_sp (s : State) (f : Frame) :
    (State.stationToLoop s f).1.sp = s.sp := by
  unfold State.stationToLoop; (repeat' split) <;> simp

/-! ## Machine/Lines.lean -/

@[simp] theorem lineNotice_pending (s : State) (l : InputLine) (active : Bool) :
    (State.lineNotice s l active).pending = s.pending := by
  unfold State.lineNotice; (repeat' split) <;> simp
@[simp] theorem lineNotice_fc (s : State) (l : InputLine) (active : Bool) :
    (State.lineNotice s l active).fc = s.fc := by
  unfold State.lineNotice; (repeat' split) <;> simp
@[simp] theorem lineNotice_csu (s : State) (l : InputLine) (active : Bool) :
    (State.lineNotice s l active).csu = s.csu := by
  unfold State.lineNotice; (repeat' split) <;> simp
@[simp] theorem lineNotice_csc (s : State) (l : InputLine) (active : Bool) :
    (State.lineNotice s l active).csc = s.csc := by
  unfold State.lineNotice; (repeat' split) <;> simp
@[simp] theorem lineNotice_pe (s : State) (l : InputLine) (active : Bool) :
    (State.lineNotice s l active).pe = s.pe := by
  unfold State.lineNotice; (repeat' split) <;> simp
@[simp] theorem lineNotice_dc (s : State) (l : InputLine) (active : Bool) :
    (State.lineNotice s l active).dc = s.dc := by
  unfold State.lineNotice; (repeat' split) <;> simp
@[simp] theorem settleExpired_pending (s : State) (l : InputLine) :
    (State.settleExpired s l).pending = s.pending := by
  unfold State.settleExpired; dsimp only; (repeat' split) <;> simp
@[simp] theorem settleExpired_fc (s : State) (l : InputLine) :
    (State.settleExpired s l).fc = s.fc := by
  unfold State.settleExpired; dsimp only; (repeat' split) <;> simp
@[simp] theorem settleExpired_csu (s : State) (l : InputLine) :
    (State.settleExpired s l).csu = s.csu := by
  unfold State.settleExpired; dsimp only; (repeat' split) <;> simp
@[simp] theorem settleExpired_csc (s : State) (l : InputLine) :
    (State.settleExpired s l).csc = s.csc := by
  unfold State.settleExpired; dsimp only; (repeat' split) <;> simp
@[simp] theorem settleExpired_pe (s : State) (l : InputLine) :
    (State.settleExpired s l).pe = s.pe := by
  unfold State.settleExpired; dsimp only; (repeat' split) <;> simp
@[simp] theorem settleExpired_dc (s : State) (l : InputLine) :
    (State.settleExpired s l).dc = s.dc := by
  unfold State.settleExpired; dsimp only; (repeat' split) <;> simp
@[simp] theorem latchNotice_pending (s : State) (l : InputLine) :
    (State.latchNotice s l).pending = s.pending := by
  unfold State.latchNotice; (repeat' split) <;> simp
@[simp] theorem latchNotice_fc (s : State) (l : InputLine) :
    (State.latchNotice s l).fc = s.fc := by
  unfold State.latchNotice; (repeat' split) <;> simp
@[simp] theorem latchNotice_csu (s : State) (l : InputLine) :
    (State.latchNotice s l).csu = s.csu := by
  unfold State.latchNotice; (repeat' split) <;> simp
@[simp] theorem latchNotice_csc (s : State) (l : InputLine) :
    (State.latchNotice s l).csc = s.csc := by
  unfold State.latchNotice; (repeat' split) <;> simp
@[simp] theorem latchNotice_pe (s : State) (l : InputLine) :
    (State.latchNotice s l).pe = s.pe := by
  unfold State.latchNotice; (repeat' split) <;> simp
@[simp] theorem latchNotice_ru (s : State) (l : InputLine) :
    (State.latchNotice s l).ru = s.ru := by
  unfold State.latchNotice; (repeat' split) <;> simp
@[simp] theorem pressExpired_pending (s : State) (l : InputLine) :
    (State.pressExpired s l).pending = s.pending := by
  unfold State.pressExpired; dsimp only; (repeat' split) <;> simp
@[simp] theorem pressExpired_fc (s : State) (l : InputLine) :
    (State.pressExpired s l).fc = s.fc := by
  unfold State.pressExpired; dsimp only; (repeat' split) <;> simp
@[simp] theorem pressExpired_csu (s : State) (l : InputLine) :
    (State.pressExpired s l).csu = s.csu := by
  unfold State.pressExpired; dsimp only; (repeat' split) <;> simp
@[simp] theorem pressExpired_csc (s : State) (l : InputLine) :
    (State.pressExpired s l).csc = s.csc := by
  unfold State.pressExpired; dsimp only; (repeat' split) <;> simp
@[simp] theorem pressExpired_pe (s : State) (l : InputLine) :
    (State.pressExpired s l).pe = s.pe := by
  unfold State.pressExpired; dsimp only; (repeat' split) <;> simp
@[simp] theorem pressExpired_ru (s : State) (l : InputLine) :
    (State.pressExpired s l).ru = s.ru := by
  unfold State.pressExpired; dsimp only; (repeat' split) <;> simp
@[simp] theorem recoveryExpired_pending (s : State) (l : InputLine) :
    (State.recoveryExpired s l).pending = s.pending := by
  unfold State.recoveryExpired; dsimp only; (repeat' split) <;> simp
@[simp] theorem recoveryExpired_rm (s : State) (l : InputLine) :
    (State.recoveryExpired s l).rm = s.rm := by
  unfold State.recoveryExpired; dsimp only; (repeat' split) <;> simp
@[simp] theorem recoveryExpired_fc (s : State) (l : InputLine) :
    (State.recoveryExpired s l).fc = s.fc := by
  unfold State.recoveryExpired; dsimp only; (repeat' split) <;> simp
@[simp] theorem recoveryExpired_csu (s : State) (l : InputLine) :
    (State.recoveryExpired s l).csu = s.csu := by
  unfold State.recoveryExpired; dsimp only; (repeat' split) <;> simp
@[simp] theorem recoveryExpired_csc (s : State) (l : InputLine) :
    (State.recoveryExpired s l).csc = s.csc := by
  unfold State.recoveryExpired; dsimp only; (repeat' split) <;> simp
@[simp] theorem recoveryExpired_pe (s : State) (l : InputLine) :
    (State.recoveryExpired s l).pe = s.pe := by
  unfold State.recoveryExpired; dsimp only; (repeat' split) <;> simp
@[simp] theorem recoveryExpired_dc (s : State) (l : InputLine) :
    (State.recoveryExpired s l).dc = s.dc := by
  unfold State.recoveryExpired; dsimp only; (repeat' split) <;> simp
@[simp] theorem recoveryExpired_ru (s : State) (l : InputLine) :
    (State.recoveryExpired s l).ru = s.ru := by
  unfold State.recoveryExpired; dsimp only; (repeat' split) <;> simp
@[simp] theorem recoveryExpired_sc (s : State) (l : InputLine) :
    (State.recoveryExpired s l).sc = s.sc := by
  unfold State.recoveryExpired; dsimp only; (repeat' split) <;> simp
@[simp] theorem recoveryExpired_sp (s : State) (l : InputLine) :
    (State.recoveryExpired s l).sp = s.sp := by
  unfold State.recoveryExpired; dsimp only; (repeat' split) <;> simp

/-! ## Machine/Tables.lean -/

@[simp] theorem storeDevice_pending (s : State) (d : DevIx) (r : DevRole) (flags : Byte) :
    (State.storeDevice s d r flags).pending = s.pending := by
  simp [State.storeDevice]
@[simp] theorem storeDevice_csu (s : State) (d : DevIx) (r : DevRole) (flags : Byte) :
    (State.storeDevice s d r flags).csu = s.csu := by
  simp [State.storeDevice]
@[simp] theorem storeDevice_dc (s : State) (d : DevIx) (r : DevRole) (flags : Byte) :
    (State.storeDevice s d r flags).dc = s.dc := by
  simp [State.storeDevice]
@[simp] theorem storeDevice_ru (s : State) (d : DevIx) (r : DevRole) (flags : Byte) :
    (State.storeDevice s d r flags).ru = s.ru := by
  simp [State.storeDevice]
@[simp] theorem writeDevice_pending (s : State) (d : DevIx) (b : List Byte) :
    (State.writeDevice s d b).1.pending = s.pending := by
  unfold State.writeDevice; (repeat' split) <;> simp
@[simp] theorem writeDevice_csu (s : State) (d : DevIx) (b : List Byte) :
    (State.writeDevice s d b).1.csu = s.csu := by
  unfold State.writeDevice; (repeat' split) <;> simp
@[simp] theorem writeDevice_dc (s : State) (d : DevIx) (b : List Byte) :
    (State.writeDevice s d b).1.dc = s.dc := by
  unfold State.writeDevice; (repeat' split) <;> simp
@[simp] theorem writeDevice_ru (s : State) (d : DevIx) (b : List Byte) :
    (State.writeDevice s d b).1.ru = s.ru := by
  unfold State.writeDevice; (repeat' split) <;> simp
@[simp] theorem storeDoor_pending (s : State) (d : DoorId) (e : DoorEntry) :
    (State.storeDoor s d e).pending = s.pending := by
  unfold State.storeDoor; dsimp only; (repeat' split) <;> simp
@[simp] theorem storeDoor_fc (s : State) (d : DoorId) (e : DoorEntry) :
    (State.storeDoor s d e).fc = s.fc := by
  unfold State.storeDoor; dsimp only; (repeat' split) <;> simp
@[simp] theorem storeDoor_csu (s : State) (d : DoorId) (e : DoorEntry) :
    (State.storeDoor s d e).csu = s.csu := by
  unfold State.storeDoor; dsimp only; (repeat' split) <;> simp
@[simp] theorem storeDoor_csc (s : State) (d : DoorId) (e : DoorEntry) :
    (State.storeDoor s d e).csc = s.csc := by
  unfold State.storeDoor; dsimp only; (repeat' split) <;> simp
@[simp] theorem storeDoor_pe (s : State) (d : DoorId) (e : DoorEntry) :
    (State.storeDoor s d e).pe = s.pe := by
  unfold State.storeDoor; dsimp only; (repeat' split) <;> simp
@[simp] theorem storeDoor_ru (s : State) (d : DoorId) (e : DoorEntry) :
    (State.storeDoor s d e).ru = s.ru := by
  unfold State.storeDoor; dsimp only; (repeat' split) <;> simp
@[simp] theorem writeDoor_pending (s : State) (d : DoorId) (b : List Byte) :
    (State.writeDoor s d b).1.pending = s.pending := by
  unfold State.writeDoor; dsimp only; (repeat' split) <;> simp
@[simp] theorem writeDoor_fc (s : State) (d : DoorId) (b : List Byte) :
    (State.writeDoor s d b).1.fc = s.fc := by
  unfold State.writeDoor; dsimp only; (repeat' split) <;> simp
@[simp] theorem writeDoor_csu (s : State) (d : DoorId) (b : List Byte) :
    (State.writeDoor s d b).1.csu = s.csu := by
  unfold State.writeDoor; dsimp only; (repeat' split) <;> simp
@[simp] theorem writeDoor_csc (s : State) (d : DoorId) (b : List Byte) :
    (State.writeDoor s d b).1.csc = s.csc := by
  unfold State.writeDoor; dsimp only; (repeat' split) <;> simp
@[simp] theorem writeDoor_pe (s : State) (d : DoorId) (b : List Byte) :
    (State.writeDoor s d b).1.pe = s.pe := by
  unfold State.writeDoor; dsimp only; (repeat' split) <;> simp
@[simp] theorem writeDoor_ru (s : State) (d : DoorId) (b : List Byte) :
    (State.writeDoor s d b).1.ru = s.ru := by
  unfold State.writeDoor; dsimp only; (repeat' split) <;> simp
@[simp] theorem writeZone_pending (s : State) (z : ZoneId) (b : List Byte) :
    (State.writeZone s z b).1.pending = s.pending := by
  unfold State.writeZone; (repeat' split) <;> simp
@[simp] theorem writeZone_fc (s : State) (z : ZoneId) (b : List Byte) :
    (State.writeZone s z b).1.fc = s.fc := by
  unfold State.writeZone; (repeat' split) <;> simp
@[simp] theorem writeZone_csc (s : State) (z : ZoneId) (b : List Byte) :
    (State.writeZone s z b).1.csc = s.csc := by
  unfold State.writeZone; (repeat' split) <;> simp
@[simp] theorem writeZone_pe (s : State) (z : ZoneId) (b : List Byte) :
    (State.writeZone s z b).1.pe = s.pe := by
  unfold State.writeZone; (repeat' split) <;> simp
@[simp] theorem writeZone_dc (s : State) (z : ZoneId) (b : List Byte) :
    (State.writeZone s z b).1.dc = s.dc := by
  unfold State.writeZone; (repeat' split) <;> simp
@[simp] theorem writeZone_sc (s : State) (z : ZoneId) (b : List Byte) :
    (State.writeZone s z b).1.sc = s.sc := by
  unfold State.writeZone; (repeat' split) <;> simp
@[simp] theorem writeChannel_pending (s : State) (c : ChannelId) (b : List Byte) :
    (State.writeChannel s c b).1.pending = s.pending := by
  unfold State.writeChannel; dsimp only; (repeat' split) <;> simp
@[simp] theorem writeChannel_fc (s : State) (c : ChannelId) (b : List Byte) :
    (State.writeChannel s c b).1.fc = s.fc := by
  unfold State.writeChannel; dsimp only; (repeat' split) <;> simp
@[simp] theorem writeChannel_csu (s : State) (c : ChannelId) (b : List Byte) :
    (State.writeChannel s c b).1.csu = s.csu := by
  unfold State.writeChannel; dsimp only; (repeat' split) <;> simp
@[simp] theorem writeChannel_csc (s : State) (c : ChannelId) (b : List Byte) :
    (State.writeChannel s c b).1.csc = s.csc := by
  unfold State.writeChannel; dsimp only; (repeat' split) <;> simp
@[simp] theorem writeChannel_pe (s : State) (c : ChannelId) (b : List Byte) :
    (State.writeChannel s c b).1.pe = s.pe := by
  unfold State.writeChannel; dsimp only; (repeat' split) <;> simp
@[simp] theorem writeChannel_dc (s : State) (c : ChannelId) (b : List Byte) :
    (State.writeChannel s c b).1.dc = s.dc := by
  unfold State.writeChannel; dsimp only; (repeat' split) <;> simp
@[simp] theorem writeChannel_ru (s : State) (c : ChannelId) (b : List Byte) :
    (State.writeChannel s c b).1.ru = s.ru := by
  unfold State.writeChannel; dsimp only; (repeat' split) <;> simp
@[simp] theorem writeSchedule_pending (s : State) (n : SchedId) (b : List Byte) :
    (State.writeSchedule s n b).1.pending = s.pending := by
  unfold State.writeSchedule; split <;> simp
@[simp] theorem writeSchedule_fc (s : State) (n : SchedId) (b : List Byte) :
    (State.writeSchedule s n b).1.fc = s.fc := by
  unfold State.writeSchedule; split <;> simp
@[simp] theorem writeSchedule_csc (s : State) (n : SchedId) (b : List Byte) :
    (State.writeSchedule s n b).1.csc = s.csc := by
  unfold State.writeSchedule; split <;> simp
@[simp] theorem writeSchedule_pe (s : State) (n : SchedId) (b : List Byte) :
    (State.writeSchedule s n b).1.pe = s.pe := by
  unfold State.writeSchedule; split <;> simp
@[simp] theorem writeSchedule_dc (s : State) (n : SchedId) (b : List Byte) :
    (State.writeSchedule s n b).1.dc = s.dc := by
  unfold State.writeSchedule; split <;> simp
@[simp] theorem writeSchedule_ru (s : State) (n : SchedId) (b : List Byte) :
    (State.writeSchedule s n b).1.ru = s.ru := by
  unfold State.writeSchedule; split <;> simp
@[simp] theorem writeSchedule_sc (s : State) (n : SchedId) (b : List Byte) :
    (State.writeSchedule s n b).1.sc = s.sc := by
  unfold State.writeSchedule; split <;> simp
@[simp] theorem endFunction_pending (s : State) (g : GiId) :
    (State.endFunction s g).pending = s.pending := by
  unfold State.endFunction; split <;> simp
@[simp] theorem endFunction_fc (s : State) (g : GiId) :
    (State.endFunction s g).fc = s.fc := by
  unfold State.endFunction; split <;> simp
@[simp] theorem endFunction_csu (s : State) (g : GiId) :
    (State.endFunction s g).csu = s.csu := by
  unfold State.endFunction; split <;> simp
@[simp] theorem endFunction_csc (s : State) (g : GiId) :
    (State.endFunction s g).csc = s.csc := by
  unfold State.endFunction; split <;> simp
@[simp] theorem endFunction_pe (s : State) (g : GiId) :
    (State.endFunction s g).pe = s.pe := by
  unfold State.endFunction; split <;> simp
@[simp] theorem endFunction_dc (s : State) (g : GiId) :
    (State.endFunction s g).dc = s.dc := by
  unfold State.endFunction; split <;> simp
@[simp] theorem endFunction_ru (s : State) (g : GiId) :
    (State.endFunction s g).ru = s.ru := by
  unfold State.endFunction; split <;> simp
@[simp] theorem writeLine_pending (s : State) (g : GiId) (b : List Byte) :
    (State.writeLine s g b).1.pending = s.pending := by
  unfold State.writeLine; split <;> simp
@[simp] theorem writeLine_fc (s : State) (g : GiId) (b : List Byte) :
    (State.writeLine s g b).1.fc = s.fc := by
  unfold State.writeLine; split <;> simp
@[simp] theorem writeLine_csu (s : State) (g : GiId) (b : List Byte) :
    (State.writeLine s g b).1.csu = s.csu := by
  unfold State.writeLine; split <;> simp
@[simp] theorem writeLine_csc (s : State) (g : GiId) (b : List Byte) :
    (State.writeLine s g b).1.csc = s.csc := by
  unfold State.writeLine; split <;> simp
@[simp] theorem writeLine_pe (s : State) (g : GiId) (b : List Byte) :
    (State.writeLine s g b).1.pe = s.pe := by
  unfold State.writeLine; split <;> simp
@[simp] theorem writeLine_dc (s : State) (g : GiId) (b : List Byte) :
    (State.writeLine s g b).1.dc = s.dc := by
  unfold State.writeLine; split <;> simp
@[simp] theorem writeLine_ru (s : State) (g : GiId) (b : List Byte) :
    (State.writeLine s g b).1.ru = s.ru := by
  unfold State.writeLine; split <;> simp
@[simp] theorem writeEntry_pending (s : State) (t : TableId) (i : Nat) (b : List Byte) :
    (State.writeEntry s t i b).1.pending = s.pending := by
  unfold State.writeEntry; (repeat' split) <;> simp

/-! ## Machine/Station.lean -/

@[simp] theorem cmdTablePoint_pending (table index : Byte) (s : State) :
    (cmdTablePoint table index s).1.pending = s.pending := by
  unfold cmdTablePoint; (repeat' split) <;> simp
@[simp] theorem cmdTablePoint_rm (table index : Byte) (s : State) :
    (cmdTablePoint table index s).1.rm = s.rm := by
  unfold cmdTablePoint; (repeat' split) <;> simp
@[simp] theorem cmdTablePoint_fc (table index : Byte) (s : State) :
    (cmdTablePoint table index s).1.fc = s.fc := by
  unfold cmdTablePoint; (repeat' split) <;> simp
@[simp] theorem cmdTablePoint_csu (table index : Byte) (s : State) :
    (cmdTablePoint table index s).1.csu = s.csu := by
  unfold cmdTablePoint; (repeat' split) <;> simp
@[simp] theorem cmdTablePoint_csc (table index : Byte) (s : State) :
    (cmdTablePoint table index s).1.csc = s.csc := by
  unfold cmdTablePoint; (repeat' split) <;> simp
@[simp] theorem cmdTablePoint_pe (table index : Byte) (s : State) :
    (cmdTablePoint table index s).1.pe = s.pe := by
  unfold cmdTablePoint; (repeat' split) <;> simp
@[simp] theorem cmdTablePoint_dc (table index : Byte) (s : State) :
    (cmdTablePoint table index s).1.dc = s.dc := by
  unfold cmdTablePoint; (repeat' split) <;> simp
@[simp] theorem cmdTablePoint_ru (table index : Byte) (s : State) :
    (cmdTablePoint table index s).1.ru = s.ru := by
  unfold cmdTablePoint; (repeat' split) <;> simp
@[simp] theorem cmdTablePoint_sc (table index : Byte) (s : State) :
    (cmdTablePoint table index s).1.sc = s.sc := by
  unfold cmdTablePoint; (repeat' split) <;> simp
@[simp] theorem cmdTablePoint_sau (table index : Byte) (s : State) :
    (cmdTablePoint table index s).1.sau = s.sau := by
  unfold cmdTablePoint; (repeat' split) <;> simp
@[simp] theorem cmdTableRead_pending (count : Byte) (s : State) :
    (cmdTableRead count s).1.pending = s.pending := by
  unfold cmdTableRead; split <;> simp
@[simp] theorem cmdTableRead_rm (count : Byte) (s : State) :
    (cmdTableRead count s).1.rm = s.rm := by
  unfold cmdTableRead; split <;> simp
@[simp] theorem cmdTableRead_fc (count : Byte) (s : State) :
    (cmdTableRead count s).1.fc = s.fc := by
  unfold cmdTableRead; split <;> simp
@[simp] theorem cmdTableRead_csu (count : Byte) (s : State) :
    (cmdTableRead count s).1.csu = s.csu := by
  unfold cmdTableRead; split <;> simp
@[simp] theorem cmdTableRead_csc (count : Byte) (s : State) :
    (cmdTableRead count s).1.csc = s.csc := by
  unfold cmdTableRead; split <;> simp
@[simp] theorem cmdTableRead_pe (count : Byte) (s : State) :
    (cmdTableRead count s).1.pe = s.pe := by
  unfold cmdTableRead; split <;> simp
@[simp] theorem cmdTableRead_dc (count : Byte) (s : State) :
    (cmdTableRead count s).1.dc = s.dc := by
  unfold cmdTableRead; split <;> simp
@[simp] theorem cmdTableRead_ru (count : Byte) (s : State) :
    (cmdTableRead count s).1.ru = s.ru := by
  unfold cmdTableRead; split <;> simp
@[simp] theorem cmdTableRead_sc (count : Byte) (s : State) :
    (cmdTableRead count s).1.sc = s.sc := by
  unfold cmdTableRead; split <;> simp
@[simp] theorem cmdTableRead_sau (count : Byte) (s : State) :
    (cmdTableRead count s).1.sau = s.sau := by
  unfold cmdTableRead; split <;> simp
@[simp] theorem writeNext_pending (t : TableId) (r : State × List ReplyCode) (b : List Byte) :
    (writeNext t r b).1.pending = r.1.pending := by
  unfold writeNext; dsimp only; (repeat' split) <;> simp
@[simp] theorem cmdTableWrite_pending (entries : List Byte) (s : State) :
    (cmdTableWrite entries s).1.pending = s.pending := by
  unfold cmdTableWrite; dsimp only; split
  · simp
  · split
    · simp
    · rw [show ∀ (l : List (List Byte)) (p : State × List ReplyCode),
        (l.foldl (writeNext s.sp.cursorTable) p).1.pending = p.1.pending from fun l => by
          induction l with
          | nil => intro p; rfl
          | cons x l ih => intro p; rw [List.foldl_cons, ih, writeNext_pending]]
@[simp] theorem takeWrite_pending (s : State) (w : WriteRecord) :
    (State.takeWrite s w).1.pending = s.pending := by
  unfold State.takeWrite; split <;> simp
@[simp] theorem takeWrite_rm (s : State) (w : WriteRecord) :
    (State.takeWrite s w).1.rm = s.rm := by
  unfold State.takeWrite; split <;> simp
@[simp] theorem takeWrite_fc (s : State) (w : WriteRecord) :
    (State.takeWrite s w).1.fc = s.fc := by
  unfold State.takeWrite; split <;> simp
@[simp] theorem takeWrite_csu (s : State) (w : WriteRecord) :
    (State.takeWrite s w).1.csu = s.csu := by
  unfold State.takeWrite; split <;> simp
@[simp] theorem takeWrite_pe (s : State) (w : WriteRecord) :
    (State.takeWrite s w).1.pe = s.pe := by
  unfold State.takeWrite; split <;> simp
@[simp] theorem takeWrite_dc (s : State) (w : WriteRecord) :
    (State.takeWrite s w).1.dc = s.dc := by
  unfold State.takeWrite; split <;> simp
@[simp] theorem takeWrite_ru (s : State) (w : WriteRecord) :
    (State.takeWrite s w).1.ru = s.ru := by
  unfold State.takeWrite; split <;> simp
@[simp] theorem takeWrite_sc (s : State) (w : WriteRecord) :
    (State.takeWrite s w).1.sc = s.sc := by
  unfold State.takeWrite; split <;> simp
@[simp] theorem takeWrite_sau (s : State) (w : WriteRecord) :
    (State.takeWrite s w).1.sau = s.sau := by
  unfold State.takeWrite; split <;> simp
@[simp] theorem takeWrite_sp (s : State) (w : WriteRecord) :
    (State.takeWrite s w).1.sp = s.sp := by
  unfold State.takeWrite; split <;> simp
@[simp] theorem cmdCredPut_pending (slot : List Byte) (s : State) :
    (cmdCredPut slot s).1.pending = s.pending := by
  unfold cmdCredPut; split <;> simp
@[simp] theorem cmdCredPut_rm (slot : List Byte) (s : State) :
    (cmdCredPut slot s).1.rm = s.rm := by
  unfold cmdCredPut; split <;> simp
@[simp] theorem cmdCredPut_fc (slot : List Byte) (s : State) :
    (cmdCredPut slot s).1.fc = s.fc := by
  unfold cmdCredPut; split <;> simp
@[simp] theorem cmdCredPut_csu (slot : List Byte) (s : State) :
    (cmdCredPut slot s).1.csu = s.csu := by
  unfold cmdCredPut; split <;> simp
@[simp] theorem cmdCredPut_pe (slot : List Byte) (s : State) :
    (cmdCredPut slot s).1.pe = s.pe := by
  unfold cmdCredPut; split <;> simp
@[simp] theorem cmdCredPut_dc (slot : List Byte) (s : State) :
    (cmdCredPut slot s).1.dc = s.dc := by
  unfold cmdCredPut; split <;> simp
@[simp] theorem cmdCredPut_ru (slot : List Byte) (s : State) :
    (cmdCredPut slot s).1.ru = s.ru := by
  unfold cmdCredPut; split <;> simp
@[simp] theorem cmdCredPut_sc (slot : List Byte) (s : State) :
    (cmdCredPut slot s).1.sc = s.sc := by
  unfold cmdCredPut; split <;> simp
@[simp] theorem cmdCredPut_sau (slot : List Byte) (s : State) :
    (cmdCredPut slot s).1.sau = s.sau := by
  unfold cmdCredPut; split <;> simp
@[simp] theorem cmdCredPut_sp (slot : List Byte) (s : State) :
    (cmdCredPut slot s).1.sp = s.sp := by
  unfold cmdCredPut; split <;> simp
@[simp] theorem cmdCredDrop_pending (number : Nat) (s : State) :
    (cmdCredDrop number s).1.pending = s.pending := by
  unfold cmdCredDrop; split <;> simp
@[simp] theorem cmdCredDrop_rm (number : Nat) (s : State) :
    (cmdCredDrop number s).1.rm = s.rm := by
  unfold cmdCredDrop; split <;> simp
@[simp] theorem cmdCredDrop_fc (number : Nat) (s : State) :
    (cmdCredDrop number s).1.fc = s.fc := by
  unfold cmdCredDrop; split <;> simp
@[simp] theorem cmdCredDrop_csu (number : Nat) (s : State) :
    (cmdCredDrop number s).1.csu = s.csu := by
  unfold cmdCredDrop; split <;> simp
@[simp] theorem cmdCredDrop_pe (number : Nat) (s : State) :
    (cmdCredDrop number s).1.pe = s.pe := by
  unfold cmdCredDrop; split <;> simp
@[simp] theorem cmdCredDrop_dc (number : Nat) (s : State) :
    (cmdCredDrop number s).1.dc = s.dc := by
  unfold cmdCredDrop; split <;> simp
@[simp] theorem cmdCredDrop_ru (number : Nat) (s : State) :
    (cmdCredDrop number s).1.ru = s.ru := by
  unfold cmdCredDrop; split <;> simp
@[simp] theorem cmdCredDrop_sc (number : Nat) (s : State) :
    (cmdCredDrop number s).1.sc = s.sc := by
  unfold cmdCredDrop; split <;> simp
@[simp] theorem cmdCredDrop_sau (number : Nat) (s : State) :
    (cmdCredDrop number s).1.sau = s.sau := by
  unfold cmdCredDrop; split <;> simp
@[simp] theorem cmdCredDrop_sp (number : Nat) (s : State) :
    (cmdCredDrop number s).1.sp = s.sp := by
  unfold cmdCredDrop; split <;> simp
@[simp] theorem cmdCredLook_pending (number : Nat) (s : State) :
    (cmdCredLook number s).1.pending = s.pending := by
  unfold cmdCredLook; (repeat' split) <;> simp
@[simp] theorem cmdCredLook_rm (number : Nat) (s : State) :
    (cmdCredLook number s).1.rm = s.rm := by
  unfold cmdCredLook; (repeat' split) <;> simp
@[simp] theorem cmdCredLook_fc (number : Nat) (s : State) :
    (cmdCredLook number s).1.fc = s.fc := by
  unfold cmdCredLook; (repeat' split) <;> simp
@[simp] theorem cmdCredLook_csu (number : Nat) (s : State) :
    (cmdCredLook number s).1.csu = s.csu := by
  unfold cmdCredLook; (repeat' split) <;> simp
@[simp] theorem cmdCredLook_pe (number : Nat) (s : State) :
    (cmdCredLook number s).1.pe = s.pe := by
  unfold cmdCredLook; (repeat' split) <;> simp
@[simp] theorem cmdCredLook_dc (number : Nat) (s : State) :
    (cmdCredLook number s).1.dc = s.dc := by
  unfold cmdCredLook; (repeat' split) <;> simp
@[simp] theorem cmdCredLook_ru (number : Nat) (s : State) :
    (cmdCredLook number s).1.ru = s.ru := by
  unfold cmdCredLook; (repeat' split) <;> simp
@[simp] theorem cmdCredLook_sc (number : Nat) (s : State) :
    (cmdCredLook number s).1.sc = s.sc := by
  unfold cmdCredLook; (repeat' split) <;> simp
@[simp] theorem cmdCredLook_sau (number : Nat) (s : State) :
    (cmdCredLook number s).1.sau = s.sau := by
  unfold cmdCredLook; (repeat' split) <;> simp
@[simp] theorem cmdCredLook_sp (number : Nat) (s : State) :
    (cmdCredLook number s).1.sp = s.sp := by
  unfold cmdCredLook; (repeat' split) <;> simp
@[simp] theorem cmdHolidayAdd_pending (day : BitVec 16) (s : State) :
    (cmdHolidayAdd day s).1.pending = s.pending := by
  unfold cmdHolidayAdd; (repeat' split) <;> simp
@[simp] theorem cmdHolidayAdd_fc (day : BitVec 16) (s : State) :
    (cmdHolidayAdd day s).1.fc = s.fc := by
  unfold cmdHolidayAdd; (repeat' split) <;> simp
@[simp] theorem cmdHolidayAdd_csc (day : BitVec 16) (s : State) :
    (cmdHolidayAdd day s).1.csc = s.csc := by
  unfold cmdHolidayAdd; (repeat' split) <;> simp
@[simp] theorem cmdHolidayAdd_pe (day : BitVec 16) (s : State) :
    (cmdHolidayAdd day s).1.pe = s.pe := by
  unfold cmdHolidayAdd; (repeat' split) <;> simp
@[simp] theorem cmdHolidayAdd_dc (day : BitVec 16) (s : State) :
    (cmdHolidayAdd day s).1.dc = s.dc := by
  unfold cmdHolidayAdd; (repeat' split) <;> simp
@[simp] theorem cmdHolidayAdd_ru (day : BitVec 16) (s : State) :
    (cmdHolidayAdd day s).1.ru = s.ru := by
  unfold cmdHolidayAdd; (repeat' split) <;> simp
@[simp] theorem cmdHolidayAdd_sc (day : BitVec 16) (s : State) :
    (cmdHolidayAdd day s).1.sc = s.sc := by
  unfold cmdHolidayAdd; (repeat' split) <;> simp
@[simp] theorem cmdHolidayDrop_pending (day : BitVec 16) (s : State) :
    (cmdHolidayDrop day s).1.pending = s.pending := by
  unfold cmdHolidayDrop; split <;> simp
@[simp] theorem cmdHolidayDrop_fc (day : BitVec 16) (s : State) :
    (cmdHolidayDrop day s).1.fc = s.fc := by
  unfold cmdHolidayDrop; split <;> simp
@[simp] theorem cmdHolidayDrop_csc (day : BitVec 16) (s : State) :
    (cmdHolidayDrop day s).1.csc = s.csc := by
  unfold cmdHolidayDrop; split <;> simp
@[simp] theorem cmdHolidayDrop_pe (day : BitVec 16) (s : State) :
    (cmdHolidayDrop day s).1.pe = s.pe := by
  unfold cmdHolidayDrop; split <;> simp
@[simp] theorem cmdHolidayDrop_dc (day : BitVec 16) (s : State) :
    (cmdHolidayDrop day s).1.dc = s.dc := by
  unfold cmdHolidayDrop; split <;> simp
@[simp] theorem cmdHolidayDrop_ru (day : BitVec 16) (s : State) :
    (cmdHolidayDrop day s).1.ru = s.ru := by
  unfold cmdHolidayDrop; split <;> simp
@[simp] theorem cmdHolidayDrop_sc (day : BitVec 16) (s : State) :
    (cmdHolidayDrop day s).1.sc = s.sc := by
  unfold cmdHolidayDrop; split <;> simp
@[simp] theorem cmdClockSet_pending (day : BitVec 16) (weekday : Byte) (second : BitVec 24) (s : State) :
    (cmdClockSet day weekday second s).1.pending = s.pending := by
  simp [cmdClockSet]
@[simp] theorem cmdClockSet_fc (day : BitVec 16) (weekday : Byte) (second : BitVec 24) (s : State) :
    (cmdClockSet day weekday second s).1.fc = s.fc := by
  simp [cmdClockSet]
@[simp] theorem cmdClockSet_csc (day : BitVec 16) (weekday : Byte) (second : BitVec 24) (s : State) :
    (cmdClockSet day weekday second s).1.csc = s.csc := by
  simp [cmdClockSet]
@[simp] theorem cmdClockSet_pe (day : BitVec 16) (weekday : Byte) (second : BitVec 24) (s : State) :
    (cmdClockSet day weekday second s).1.pe = s.pe := by
  simp [cmdClockSet]
@[simp] theorem cmdClockSet_dc (day : BitVec 16) (weekday : Byte) (second : BitVec 24) (s : State) :
    (cmdClockSet day weekday second s).1.dc = s.dc := by
  simp [cmdClockSet]
@[simp] theorem cmdClockSet_ru (day : BitVec 16) (weekday : Byte) (second : BitVec 24) (s : State) :
    (cmdClockSet day weekday second s).1.ru = s.ru := by
  simp [cmdClockSet]
@[simp] theorem cmdClockSet_sc (day : BitVec 16) (weekday : Byte) (second : BitVec 24) (s : State) :
    (cmdClockSet day weekday second s).1.sc = s.sc := by
  simp [cmdClockSet]
@[simp] theorem verifyBody_pending (zone : Byte) (r : VerifyReason) (s : State) :
    (verifyBody zone r s).1.pending = s.pending := by
  unfold verifyBody; (repeat' split) <;> simp
@[simp] theorem verifyBody_fc (zone : Byte) (r : VerifyReason) (s : State) :
    (verifyBody zone r s).1.fc = s.fc := by
  unfold verifyBody; (repeat' split) <;> simp
@[simp] theorem verifyBody_csu (zone : Byte) (r : VerifyReason) (s : State) :
    (verifyBody zone r s).1.csu = s.csu := by
  unfold verifyBody; (repeat' split) <;> simp
@[simp] theorem verifyBody_csc (zone : Byte) (r : VerifyReason) (s : State) :
    (verifyBody zone r s).1.csc = s.csc := by
  unfold verifyBody; (repeat' split) <;> simp
@[simp] theorem verifyBody_pe (zone : Byte) (r : VerifyReason) (s : State) :
    (verifyBody zone r s).1.pe = s.pe := by
  unfold verifyBody; (repeat' split) <;> simp
@[simp] theorem verifyBody_dc (zone : Byte) (r : VerifyReason) (s : State) :
    (verifyBody zone r s).1.dc = s.dc := by
  unfold verifyBody; (repeat' split) <;> simp
@[simp] theorem cmdZoneVerifyClear_pending (zone : Byte) (s : State) :
    (cmdZoneVerifyClear zone s).1.pending = s.pending := by
  simp [cmdZoneVerifyClear]
@[simp] theorem cmdZoneVerifyClear_fc (zone : Byte) (s : State) :
    (cmdZoneVerifyClear zone s).1.fc = s.fc := by
  simp [cmdZoneVerifyClear]
@[simp] theorem cmdZoneVerifyClear_csu (zone : Byte) (s : State) :
    (cmdZoneVerifyClear zone s).1.csu = s.csu := by
  simp [cmdZoneVerifyClear]
@[simp] theorem cmdZoneVerifyClear_csc (zone : Byte) (s : State) :
    (cmdZoneVerifyClear zone s).1.csc = s.csc := by
  simp [cmdZoneVerifyClear]
@[simp] theorem cmdZoneVerifyClear_pe (zone : Byte) (s : State) :
    (cmdZoneVerifyClear zone s).1.pe = s.pe := by
  simp [cmdZoneVerifyClear]
@[simp] theorem cmdZoneVerifyClear_dc (zone : Byte) (s : State) :
    (cmdZoneVerifyClear zone s).1.dc = s.dc := by
  simp [cmdZoneVerifyClear]
@[simp] theorem cmdZoneVerifyKeep_pending (zone : Byte) (s : State) :
    (cmdZoneVerifyKeep zone s).1.pending = s.pending := by
  simp [cmdZoneVerifyKeep]
@[simp] theorem cmdZoneVerifyKeep_fc (zone : Byte) (s : State) :
    (cmdZoneVerifyKeep zone s).1.fc = s.fc := by
  simp [cmdZoneVerifyKeep]
@[simp] theorem cmdZoneVerifyKeep_csu (zone : Byte) (s : State) :
    (cmdZoneVerifyKeep zone s).1.csu = s.csu := by
  simp [cmdZoneVerifyKeep]
@[simp] theorem cmdZoneVerifyKeep_csc (zone : Byte) (s : State) :
    (cmdZoneVerifyKeep zone s).1.csc = s.csc := by
  simp [cmdZoneVerifyKeep]
@[simp] theorem cmdZoneVerifyKeep_pe (zone : Byte) (s : State) :
    (cmdZoneVerifyKeep zone s).1.pe = s.pe := by
  simp [cmdZoneVerifyKeep]
@[simp] theorem cmdZoneVerifyKeep_dc (zone : Byte) (s : State) :
    (cmdZoneVerifyKeep zone s).1.dc = s.dc := by
  simp [cmdZoneVerifyKeep]
@[simp] theorem cmdZoneUnknown_pending (zone : Byte) (s : State) :
    (cmdZoneUnknown zone s).1.pending = s.pending := by
  unfold cmdZoneUnknown; split <;> simp
@[simp] theorem cmdZoneUnknown_fc (zone : Byte) (s : State) :
    (cmdZoneUnknown zone s).1.fc = s.fc := by
  unfold cmdZoneUnknown; split <;> simp
@[simp] theorem cmdZoneUnknown_csu (zone : Byte) (s : State) :
    (cmdZoneUnknown zone s).1.csu = s.csu := by
  unfold cmdZoneUnknown; split <;> simp
@[simp] theorem cmdZoneUnknown_csc (zone : Byte) (s : State) :
    (cmdZoneUnknown zone s).1.csc = s.csc := by
  unfold cmdZoneUnknown; split <;> simp
@[simp] theorem cmdZoneUnknown_pe (zone : Byte) (s : State) :
    (cmdZoneUnknown zone s).1.pe = s.pe := by
  unfold cmdZoneUnknown; split <;> simp
@[simp] theorem cmdZoneUnknown_dc (zone : Byte) (s : State) :
    (cmdZoneUnknown zone s).1.dc = s.dc := by
  unfold cmdZoneUnknown; split <;> simp
@[simp] theorem resetChannel_pending (s : State) (c : ChannelId) :
    (State.resetChannel s c).pending = s.pending := by
  simp [State.resetChannel]
@[simp] theorem resetChannel_fc (s : State) (c : ChannelId) :
    (State.resetChannel s c).fc = s.fc := by
  simp [State.resetChannel]
@[simp] theorem resetChannel_csu (s : State) (c : ChannelId) :
    (State.resetChannel s c).csu = s.csu := by
  simp [State.resetChannel]
@[simp] theorem resetChannel_csc (s : State) (c : ChannelId) :
    (State.resetChannel s c).csc = s.csc := by
  simp [State.resetChannel]
@[simp] theorem resetChannel_pe (s : State) (c : ChannelId) :
    (State.resetChannel s c).pe = s.pe := by
  simp [State.resetChannel]
@[simp] theorem resetChannel_dc (s : State) (c : ChannelId) :
    (State.resetChannel s c).dc = s.dc := by
  simp [State.resetChannel]
@[simp] theorem resetChannel_ru (s : State) (c : ChannelId) :
    (State.resetChannel s c).ru = s.ru := by
  simp [State.resetChannel]
@[simp] theorem cmdChannelReset_pending (channel : Byte) (s : State) :
    (cmdChannelReset channel s).1.pending = s.pending := by
  unfold cmdChannelReset; (repeat' split) <;> simp
@[simp] theorem cmdChannelReset_fc (channel : Byte) (s : State) :
    (cmdChannelReset channel s).1.fc = s.fc := by
  unfold cmdChannelReset; (repeat' split) <;> simp
@[simp] theorem cmdChannelReset_csu (channel : Byte) (s : State) :
    (cmdChannelReset channel s).1.csu = s.csu := by
  unfold cmdChannelReset; (repeat' split) <;> simp
@[simp] theorem cmdChannelReset_csc (channel : Byte) (s : State) :
    (cmdChannelReset channel s).1.csc = s.csc := by
  unfold cmdChannelReset; (repeat' split) <;> simp
@[simp] theorem cmdChannelReset_pe (channel : Byte) (s : State) :
    (cmdChannelReset channel s).1.pe = s.pe := by
  unfold cmdChannelReset; (repeat' split) <;> simp
@[simp] theorem cmdChannelReset_dc (channel : Byte) (s : State) :
    (cmdChannelReset channel s).1.dc = s.dc := by
  unfold cmdChannelReset; (repeat' split) <;> simp
@[simp] theorem cmdChannelReset_ru (channel : Byte) (s : State) :
    (cmdChannelReset channel s).1.ru = s.ru := by
  unfold cmdChannelReset; (repeat' split) <;> simp
@[simp] theorem cmdChannelLockout_pending (channel : Byte) (s : State) :
    (cmdChannelLockout channel s).1.pending = s.pending := by
  unfold cmdChannelLockout; (repeat' split) <;> simp
@[simp] theorem cmdChannelLockout_fc (channel : Byte) (s : State) :
    (cmdChannelLockout channel s).1.fc = s.fc := by
  unfold cmdChannelLockout; (repeat' split) <;> simp
@[simp] theorem cmdChannelLockout_csu (channel : Byte) (s : State) :
    (cmdChannelLockout channel s).1.csu = s.csu := by
  unfold cmdChannelLockout; (repeat' split) <;> simp
@[simp] theorem cmdChannelLockout_csc (channel : Byte) (s : State) :
    (cmdChannelLockout channel s).1.csc = s.csc := by
  unfold cmdChannelLockout; (repeat' split) <;> simp
@[simp] theorem cmdChannelLockout_pe (channel : Byte) (s : State) :
    (cmdChannelLockout channel s).1.pe = s.pe := by
  unfold cmdChannelLockout; (repeat' split) <;> simp
@[simp] theorem cmdChannelLockout_dc (channel : Byte) (s : State) :
    (cmdChannelLockout channel s).1.dc = s.dc := by
  unfold cmdChannelLockout; (repeat' split) <;> simp
@[simp] theorem cmdChannelLockout_ru (channel : Byte) (s : State) :
    (cmdChannelLockout channel s).1.ru = s.ru := by
  unfold cmdChannelLockout; (repeat' split) <;> simp
@[simp] theorem cmdChannelRestore_pending (channel : Byte) (s : State) :
    (cmdChannelRestore channel s).1.pending = s.pending := by
  unfold cmdChannelRestore; (repeat' split) <;> simp
@[simp] theorem cmdChannelRestore_rm (channel : Byte) (s : State) :
    (cmdChannelRestore channel s).1.rm = s.rm := by
  unfold cmdChannelRestore; (repeat' split) <;> simp
@[simp] theorem cmdChannelRestore_fc (channel : Byte) (s : State) :
    (cmdChannelRestore channel s).1.fc = s.fc := by
  unfold cmdChannelRestore; (repeat' split) <;> simp
@[simp] theorem cmdChannelRestore_csu (channel : Byte) (s : State) :
    (cmdChannelRestore channel s).1.csu = s.csu := by
  unfold cmdChannelRestore; (repeat' split) <;> simp
@[simp] theorem cmdChannelRestore_csc (channel : Byte) (s : State) :
    (cmdChannelRestore channel s).1.csc = s.csc := by
  unfold cmdChannelRestore; (repeat' split) <;> simp
@[simp] theorem cmdChannelRestore_pe (channel : Byte) (s : State) :
    (cmdChannelRestore channel s).1.pe = s.pe := by
  unfold cmdChannelRestore; (repeat' split) <;> simp
@[simp] theorem cmdChannelRestore_dc (channel : Byte) (s : State) :
    (cmdChannelRestore channel s).1.dc = s.dc := by
  unfold cmdChannelRestore; (repeat' split) <;> simp
@[simp] theorem cmdChannelRestore_ru (channel : Byte) (s : State) :
    (cmdChannelRestore channel s).1.ru = s.ru := by
  unfold cmdChannelRestore; (repeat' split) <;> simp
@[simp] theorem cmdChannelRestore_sau (channel : Byte) (s : State) :
    (cmdChannelRestore channel s).1.sau = s.sau := by
  unfold cmdChannelRestore; (repeat' split) <;> simp
@[simp] theorem cmdAlarmAck_pending (number : Byte) (s : State) :
    (cmdAlarmAck number s).1.pending = s.pending := by
  unfold cmdAlarmAck; (repeat' split) <;> simp
@[simp] theorem cmdAlarmAck_rm (number : Byte) (s : State) :
    (cmdAlarmAck number s).1.rm = s.rm := by
  unfold cmdAlarmAck; (repeat' split) <;> simp
@[simp] theorem cmdAlarmAck_fc (number : Byte) (s : State) :
    (cmdAlarmAck number s).1.fc = s.fc := by
  unfold cmdAlarmAck; (repeat' split) <;> simp
@[simp] theorem cmdAlarmAck_csu (number : Byte) (s : State) :
    (cmdAlarmAck number s).1.csu = s.csu := by
  unfold cmdAlarmAck; (repeat' split) <;> simp
@[simp] theorem cmdAlarmAck_csc (number : Byte) (s : State) :
    (cmdAlarmAck number s).1.csc = s.csc := by
  unfold cmdAlarmAck; (repeat' split) <;> simp
@[simp] theorem cmdAlarmAck_pe (number : Byte) (s : State) :
    (cmdAlarmAck number s).1.pe = s.pe := by
  unfold cmdAlarmAck; (repeat' split) <;> simp
@[simp] theorem cmdAlarmAck_dc (number : Byte) (s : State) :
    (cmdAlarmAck number s).1.dc = s.dc := by
  unfold cmdAlarmAck; (repeat' split) <;> simp
@[simp] theorem cmdAlarmAck_ru (number : Byte) (s : State) :
    (cmdAlarmAck number s).1.ru = s.ru := by
  unfold cmdAlarmAck; (repeat' split) <;> simp
@[simp] theorem cmdAlarmAck_sc (number : Byte) (s : State) :
    (cmdAlarmAck number s).1.sc = s.sc := by
  unfold cmdAlarmAck; (repeat' split) <;> simp
@[simp] theorem cmdAlarmClear_pending (number : Byte) (s : State) :
    (cmdAlarmClear number s).1.pending = s.pending := by
  unfold cmdAlarmClear; (repeat' split) <;> simp
@[simp] theorem cmdAlarmClear_fc (number : Byte) (s : State) :
    (cmdAlarmClear number s).1.fc = s.fc := by
  unfold cmdAlarmClear; (repeat' split) <;> simp
@[simp] theorem cmdAlarmClear_csu (number : Byte) (s : State) :
    (cmdAlarmClear number s).1.csu = s.csu := by
  unfold cmdAlarmClear; (repeat' split) <;> simp
@[simp] theorem cmdAlarmClear_csc (number : Byte) (s : State) :
    (cmdAlarmClear number s).1.csc = s.csc := by
  unfold cmdAlarmClear; (repeat' split) <;> simp
@[simp] theorem cmdAlarmClear_pe (number : Byte) (s : State) :
    (cmdAlarmClear number s).1.pe = s.pe := by
  unfold cmdAlarmClear; (repeat' split) <;> simp
@[simp] theorem cmdAlarmClear_dc (number : Byte) (s : State) :
    (cmdAlarmClear number s).1.dc = s.dc := by
  unfold cmdAlarmClear; (repeat' split) <;> simp
@[simp] theorem cmdAlarmClear_ru (number : Byte) (s : State) :
    (cmdAlarmClear number s).1.ru = s.ru := by
  unfold cmdAlarmClear; (repeat' split) <;> simp
@[simp] theorem cmdAlarmClearZone_pending (zone : Byte) (s : State) :
    (cmdAlarmClearZone zone s).1.pending = s.pending := by
  unfold cmdAlarmClearZone; (repeat' split) <;> simp
@[simp] theorem cmdAlarmClearZone_fc (zone : Byte) (s : State) :
    (cmdAlarmClearZone zone s).1.fc = s.fc := by
  unfold cmdAlarmClearZone; (repeat' split) <;> simp
@[simp] theorem cmdAlarmClearZone_csu (zone : Byte) (s : State) :
    (cmdAlarmClearZone zone s).1.csu = s.csu := by
  unfold cmdAlarmClearZone; (repeat' split) <;> simp
@[simp] theorem cmdAlarmClearZone_csc (zone : Byte) (s : State) :
    (cmdAlarmClearZone zone s).1.csc = s.csc := by
  unfold cmdAlarmClearZone; (repeat' split) <;> simp
@[simp] theorem cmdAlarmClearZone_pe (zone : Byte) (s : State) :
    (cmdAlarmClearZone zone s).1.pe = s.pe := by
  unfold cmdAlarmClearZone; (repeat' split) <;> simp
@[simp] theorem cmdAlarmClearZone_dc (zone : Byte) (s : State) :
    (cmdAlarmClearZone zone s).1.dc = s.dc := by
  unfold cmdAlarmClearZone; (repeat' split) <;> simp
@[simp] theorem cmdAlarmClearZone_ru (zone : Byte) (s : State) :
    (cmdAlarmClearZone zone s).1.ru = s.ru := by
  unfold cmdAlarmClearZone; (repeat' split) <;> simp
@[simp] theorem stationGrant_pending (s : State) (d : DoorId) :
    (State.stationGrant s d).1.pending = s.pending := by
  unfold State.stationGrant; dsimp only; (repeat' split) <;> simp
@[simp] theorem stationGrant_fc (s : State) (d : DoorId) :
    (State.stationGrant s d).1.fc = s.fc := by
  unfold State.stationGrant; dsimp only; (repeat' split) <;> simp
@[simp] theorem stationGrant_csu (s : State) (d : DoorId) :
    (State.stationGrant s d).1.csu = s.csu := by
  unfold State.stationGrant; dsimp only; (repeat' split) <;> simp
@[simp] theorem stationGrant_csc (s : State) (d : DoorId) :
    (State.stationGrant s d).1.csc = s.csc := by
  unfold State.stationGrant; dsimp only; (repeat' split) <;> simp
@[simp] theorem stationGrant_pe (s : State) (d : DoorId) :
    (State.stationGrant s d).1.pe = s.pe := by
  unfold State.stationGrant; dsimp only; (repeat' split) <;> simp
@[simp] theorem cmdDoorGrant_pending (door : Byte) (s : State) :
    (cmdDoorGrant door s).1.pending = s.pending := by
  unfold cmdDoorGrant; (repeat' split) <;> simp
@[simp] theorem cmdDoorGrant_fc (door : Byte) (s : State) :
    (cmdDoorGrant door s).1.fc = s.fc := by
  unfold cmdDoorGrant; (repeat' split) <;> simp
@[simp] theorem cmdDoorGrant_csu (door : Byte) (s : State) :
    (cmdDoorGrant door s).1.csu = s.csu := by
  unfold cmdDoorGrant; (repeat' split) <;> simp
@[simp] theorem cmdDoorGrant_csc (door : Byte) (s : State) :
    (cmdDoorGrant door s).1.csc = s.csc := by
  unfold cmdDoorGrant; (repeat' split) <;> simp
@[simp] theorem cmdDoorGrant_pe (door : Byte) (s : State) :
    (cmdDoorGrant door s).1.pe = s.pe := by
  unfold cmdDoorGrant; (repeat' split) <;> simp
@[simp] theorem cmdStrongroomCancel_pending (door : Byte) (s : State) :
    (cmdStrongroomCancel door s).1.pending = s.pending := by
  unfold cmdStrongroomCancel; dsimp only; (repeat' split) <;> simp
@[simp] theorem cmdStrongroomCancel_fc (door : Byte) (s : State) :
    (cmdStrongroomCancel door s).1.fc = s.fc := by
  unfold cmdStrongroomCancel; dsimp only; (repeat' split) <;> simp
@[simp] theorem cmdStrongroomCancel_csu (door : Byte) (s : State) :
    (cmdStrongroomCancel door s).1.csu = s.csu := by
  unfold cmdStrongroomCancel; dsimp only; (repeat' split) <;> simp
@[simp] theorem cmdStrongroomCancel_csc (door : Byte) (s : State) :
    (cmdStrongroomCancel door s).1.csc = s.csc := by
  unfold cmdStrongroomCancel; dsimp only; (repeat' split) <;> simp
@[simp] theorem cmdStrongroomCancel_pe (door : Byte) (s : State) :
    (cmdStrongroomCancel door s).1.pe = s.pe := by
  unfold cmdStrongroomCancel; dsimp only; (repeat' split) <;> simp
@[simp] theorem cmdStrongroomCancel_ru (door : Byte) (s : State) :
    (cmdStrongroomCancel door s).1.ru = s.ru := by
  unfold cmdStrongroomCancel; dsimp only; (repeat' split) <;> simp
@[simp] theorem cmdStrongroomCancel_sc (door : Byte) (s : State) :
    (cmdStrongroomCancel door s).1.sc = s.sc := by
  unfold cmdStrongroomCancel; dsimp only; (repeat' split) <;> simp
@[simp] theorem cmdStrongroomCancel_sau (door : Byte) (s : State) :
    (cmdStrongroomCancel door s).1.sau = s.sau := by
  unfold cmdStrongroomCancel; dsimp only; (repeat' split) <;> simp
@[simp] theorem cmdStatus_pending (s : State) :
    (cmdStatus s).1.pending = s.pending := by
  simp [cmdStatus]
@[simp] theorem cmdStatus_rm (s : State) :
    (cmdStatus s).1.rm = s.rm := by
  simp [cmdStatus]
@[simp] theorem cmdStatus_fc (s : State) :
    (cmdStatus s).1.fc = s.fc := by
  simp [cmdStatus]
@[simp] theorem cmdStatus_csu (s : State) :
    (cmdStatus s).1.csu = s.csu := by
  simp [cmdStatus]
@[simp] theorem cmdStatus_csc (s : State) :
    (cmdStatus s).1.csc = s.csc := by
  simp [cmdStatus]
@[simp] theorem cmdStatus_pe (s : State) :
    (cmdStatus s).1.pe = s.pe := by
  simp [cmdStatus]
@[simp] theorem cmdStatus_dc (s : State) :
    (cmdStatus s).1.dc = s.dc := by
  simp [cmdStatus]
@[simp] theorem cmdStatus_ru (s : State) :
    (cmdStatus s).1.ru = s.ru := by
  simp [cmdStatus]
@[simp] theorem cmdStatus_sc (s : State) :
    (cmdStatus s).1.sc = s.sc := by
  simp [cmdStatus]
@[simp] theorem cmdStatus_sau (s : State) :
    (cmdStatus s).1.sau = s.sau := by
  simp [cmdStatus]
@[simp] theorem cmdRestart_pending (s : State) :
    (cmdRestart s).1.pending = s.pending := by
  unfold cmdRestart; (repeat' split) <;> simp
@[simp] theorem cmdRestart_ru (s : State) :
    (cmdRestart s).1.ru = s.ru := by
  unfold cmdRestart; (repeat' split) <;> simp
@[simp] theorem placeReply_pending (s : State) (seq : BitVec 4) (code : Byte) (r : Reply) :
    (s.placeReply seq code r).pending = s.pending := by cases r <;> rfl
@[simp] theorem placeReply_rm (s : State) (seq : BitVec 4) (code : Byte) (r : Reply) :
    (s.placeReply seq code r).rm = s.rm := by cases r <;> rfl
@[simp] theorem placeReply_fc (s : State) (seq : BitVec 4) (code : Byte) (r : Reply) :
    (s.placeReply seq code r).fc = s.fc := by cases r <;> rfl
@[simp] theorem placeReply_csu (s : State) (seq : BitVec 4) (code : Byte) (r : Reply) :
    (s.placeReply seq code r).csu = s.csu := by cases r <;> rfl
@[simp] theorem placeReply_csc (s : State) (seq : BitVec 4) (code : Byte) (r : Reply) :
    (s.placeReply seq code r).csc = s.csc := by cases r <;> rfl
@[simp] theorem placeReply_pe (s : State) (seq : BitVec 4) (code : Byte) (r : Reply) :
    (s.placeReply seq code r).pe = s.pe := by cases r <;> rfl
@[simp] theorem placeReply_dc (s : State) (seq : BitVec 4) (code : Byte) (r : Reply) :
    (s.placeReply seq code r).dc = s.dc := by cases r <;> rfl
@[simp] theorem placeReply_ru (s : State) (seq : BitVec 4) (code : Byte) (r : Reply) :
    (s.placeReply seq code r).ru = s.ru := by cases r <;> rfl
@[simp] theorem placeReply_sc (s : State) (seq : BitVec 4) (code : Byte) (r : Reply) :
    (s.placeReply seq code r).sc = s.sc := by cases r <;> rfl
@[simp] theorem placeReply_sau (s : State) (seq : BitVec 4) (code : Byte) (r : Reply) :
    (s.placeReply seq code r).sau = s.sau := by cases r <;> rfl
@[simp] theorem takeLoopBound_pending (s : State) (seq : BitVec 4) (dst kind : Byte) (payload : List Byte) :
    (State.takeLoopBound s seq dst kind payload).pending = s.pending := by
  unfold State.takeLoopBound; split
  · simp
  · rfl
@[simp] theorem takeLoopBound_fc (s : State) (seq : BitVec 4) (dst kind : Byte) (payload : List Byte) :
    (State.takeLoopBound s seq dst kind payload).fc = s.fc := by
  unfold State.takeLoopBound; split
  · simp
  · rfl
@[simp] theorem takeLoopBound_csu (s : State) (seq : BitVec 4) (dst kind : Byte) (payload : List Byte) :
    (State.takeLoopBound s seq dst kind payload).csu = s.csu := by
  unfold State.takeLoopBound; split
  · simp
  · rfl
@[simp] theorem takeLoopBound_csc (s : State) (seq : BitVec 4) (dst kind : Byte) (payload : List Byte) :
    (State.takeLoopBound s seq dst kind payload).csc = s.csc := by
  unfold State.takeLoopBound; split
  · simp
  · rfl
@[simp] theorem takeLoopBound_pe (s : State) (seq : BitVec 4) (dst kind : Byte) (payload : List Byte) :
    (State.takeLoopBound s seq dst kind payload).pe = s.pe := by
  unfold State.takeLoopBound; split
  · simp
  · rfl
@[simp] theorem takeLoopBound_dc (s : State) (seq : BitVec 4) (dst kind : Byte) (payload : List Byte) :
    (State.takeLoopBound s seq dst kind payload).dc = s.dc := by
  unfold State.takeLoopBound; split
  · simp
  · rfl
@[simp] theorem takeLoopBound_ru (s : State) (seq : BitVec 4) (dst kind : Byte) (payload : List Byte) :
    (State.takeLoopBound s seq dst kind payload).ru = s.ru := by
  unfold State.takeLoopBound; split
  · simp
  · rfl
@[simp] theorem takeLoopBound_sc (s : State) (seq : BitVec 4) (dst kind : Byte) (payload : List Byte) :
    (State.takeLoopBound s seq dst kind payload).sc = s.sc := by
  unfold State.takeLoopBound; split
  · simp
  · rfl
@[simp] theorem takeLoopBound_sau (s : State) (seq : BitVec 4) (dst kind : Byte) (payload : List Byte) :
    (State.takeLoopBound s seq dst kind payload).sau = s.sau := by
  unfold State.takeLoopBound; split
  · simp
  · rfl
@[simp] theorem badCommand_pending (s : State) :
    (badCommand s).1.pending = s.pending := by
  unfold badCommand; (repeat' split) <;> simp
@[simp] theorem badCommand_rm (s : State) :
    (badCommand s).1.rm = s.rm := by
  unfold badCommand; (repeat' split) <;> simp
@[simp] theorem badCommand_fc (s : State) :
    (badCommand s).1.fc = s.fc := by
  unfold badCommand; (repeat' split) <;> simp
@[simp] theorem badCommand_csu (s : State) :
    (badCommand s).1.csu = s.csu := by
  unfold badCommand; (repeat' split) <;> simp
@[simp] theorem badCommand_csc (s : State) :
    (badCommand s).1.csc = s.csc := by
  unfold badCommand; (repeat' split) <;> simp
@[simp] theorem badCommand_pe (s : State) :
    (badCommand s).1.pe = s.pe := by
  unfold badCommand; (repeat' split) <;> simp
@[simp] theorem badCommand_dc (s : State) :
    (badCommand s).1.dc = s.dc := by
  unfold badCommand; (repeat' split) <;> simp
@[simp] theorem badCommand_ru (s : State) :
    (badCommand s).1.ru = s.ru := by
  unfold badCommand; (repeat' split) <;> simp
@[simp] theorem badCommand_sc (s : State) :
    (badCommand s).1.sc = s.sc := by
  unfold badCommand; (repeat' split) <;> simp
@[simp] theorem badCommand_sau (s : State) :
    (badCommand s).1.sau = s.sau := by
  unfold badCommand; (repeat' split) <;> simp
@[simp] theorem badCommand_sp (s : State) :
    (badCommand s).1.sp = s.sp := by
  unfold badCommand; (repeat' split) <;> simp
/-- A command that leaves the queue of commands alone is taken without writing it. -/
theorem takeCommand_pending (s : State) (seq : BitVec 4) (code : Byte) (body : Body) (h : (body s).1.pending = s.pending) :
    (s.takeCommand seq code body).pending = s.pending := by
  unfold State.takeCommand; (repeat' split) <;> simp [h]
theorem ite_some_all {c : Prop} [Decidable c] {a b : Option Body} {P : Body → Prop} (ha : ∀ x, a = some x → P x)
    (hb : ∀ x, b = some x → P x) (x : Body) (h : (if c then a else b) = some x) : P x := by
  split at h
  · exact ha _ h
  · exact hb _ h
theorem none_some_all {P : Body → Prop} (x : Body) (h : none = some x) : P x := by cases h
theorem some_some_all {P : Body → Prop} {a : Body} (ha : P a) (x : Body) (h : some a = some x) : P x := by
  cases h; exact ha
/-- What holds of every one of the 22 commands holds of the command that a code and parameters name. -/
theorem bodyOf_all (P : Body → Prop)
    (hTablePoint : ∀ a b, P (cmdTablePoint a b))
    (hTableRead : ∀ a, P (cmdTableRead a))
    (hTableWrite : ∀ l, P (cmdTableWrite l))
    (hCredPut : ∀ l, P (cmdCredPut l))
    (hCredDrop : ∀ n, P (cmdCredDrop n))
    (hCredLook : ∀ n, P (cmdCredLook n))
    (hHolidayAdd : ∀ d, P (cmdHolidayAdd d))
    (hHolidayDrop : ∀ d, P (cmdHolidayDrop d))
    (hClockSet : ∀ d w t, P (cmdClockSet d w t))
    (hZoneVerifyClear : ∀ a, P (cmdZoneVerifyClear a))
    (hZoneVerifyKeep : ∀ a, P (cmdZoneVerifyKeep a))
    (hZoneUnknown : ∀ a, P (cmdZoneUnknown a))
    (hChannelReset : ∀ a, P (cmdChannelReset a))
    (hChannelLockout : ∀ a, P (cmdChannelLockout a))
    (hChannelRestore : ∀ a, P (cmdChannelRestore a))
    (hAlarmAck : ∀ a, P (cmdAlarmAck a))
    (hAlarmClear : ∀ a, P (cmdAlarmClear a))
    (hAlarmClearZone : ∀ a, P (cmdAlarmClearZone a))
    (hDoorGrant : ∀ a, P (cmdDoorGrant a))
    (hStrongroomCancel : ∀ a, P (cmdStrongroomCancel a))
    (hStatus : P cmdStatus)
    (hRestart : P cmdRestart)
    (code : Byte) (l : List Byte) (body : Body) (h : bodyOf code l = some body) : P body := by
  revert body
  unfold bodyOf
  dsimp only
  refine ite_some_all (ite_some_all (some_some_all (hTablePoint _ _)) none_some_all) ?_
  refine ite_some_all (ite_some_all (some_some_all (hTableRead _)) none_some_all) ?_
  refine ite_some_all (some_some_all (hTableWrite l)) ?_
  refine ite_some_all (ite_some_all (some_some_all (hCredPut _)) none_some_all) ?_
  refine ite_some_all (ite_some_all (some_some_all (hCredDrop _)) none_some_all) ?_
  refine ite_some_all (ite_some_all (some_some_all (hCredLook _)) none_some_all) ?_
  refine ite_some_all (ite_some_all (some_some_all (hHolidayAdd _)) none_some_all) ?_
  refine ite_some_all (ite_some_all (some_some_all (hHolidayDrop _)) none_some_all) ?_
  refine ite_some_all (ite_some_all (some_some_all (hClockSet _ _ _)) none_some_all) ?_
  refine ite_some_all (ite_some_all (some_some_all (hZoneVerifyClear _)) none_some_all) ?_
  refine ite_some_all (ite_some_all (some_some_all (hZoneVerifyKeep _)) none_some_all) ?_
  refine ite_some_all (ite_some_all (some_some_all (hZoneUnknown _)) none_some_all) ?_
  refine ite_some_all (ite_some_all (some_some_all (hChannelReset _)) none_some_all) ?_
  refine ite_some_all (ite_some_all (some_some_all (hChannelLockout _)) none_some_all) ?_
  refine ite_some_all (ite_some_all (some_some_all (hChannelRestore _)) none_some_all) ?_
  refine ite_some_all (ite_some_all (some_some_all (hAlarmAck _)) none_some_all) ?_
  refine ite_some_all (ite_some_all (some_some_all (hAlarmClear _)) none_some_all) ?_
  refine ite_some_all (ite_some_all (some_some_all (hAlarmClearZone _)) none_some_all) ?_
  refine ite_some_all (ite_some_all (some_some_all (hDoorGrant _)) none_some_all) ?_
  refine ite_some_all (ite_some_all (some_some_all (hStrongroomCancel _)) none_some_all) ?_
  refine ite_some_all (ite_some_all (some_some_all hStatus) none_some_all) ?_
  refine ite_some_all (ite_some_all (some_some_all hRestart) none_some_all) ?_
  exact none_some_all
theorem bodyOf_pending (code : Byte) (l : List Byte) (body : Body) (h : bodyOf code l = some body) :
    ∀ s, (body s).1.pending = s.pending :=
  bodyOf_all (fun body => ∀ s, (body s).1.pending = s.pending)
    (fun _ _ _ => cmdTablePoint_pending _ _ _)
    (fun _ _ => cmdTableRead_pending _ _)
    (fun _ _ => cmdTableWrite_pending _ _)
    (fun _ _ => cmdCredPut_pending _ _)
    (fun _ _ => cmdCredDrop_pending _ _)
    (fun _ _ => cmdCredLook_pending _ _)
    (fun _ _ => cmdHolidayAdd_pending _ _)
    (fun _ _ => cmdHolidayDrop_pending _ _)
    (fun _ _ _ _ => cmdClockSet_pending _ _ _ _)
    (fun _ _ => cmdZoneVerifyClear_pending _ _)
    (fun _ _ => cmdZoneVerifyKeep_pending _ _)
    (fun _ _ => cmdZoneUnknown_pending _ _)
    (fun _ _ => cmdChannelReset_pending _ _)
    (fun _ _ => cmdChannelLockout_pending _ _)
    (fun _ _ => cmdChannelRestore_pending _ _)
    (fun _ _ => cmdAlarmAck_pending _ _)
    (fun _ _ => cmdAlarmClear_pending _ _)
    (fun _ _ => cmdAlarmClearZone_pending _ _)
    (fun _ _ => cmdDoorGrant_pending _ _)
    (fun _ _ => cmdStrongroomCancel_pending _ _)
    (fun _ => cmdStatus_pending _)
    (fun _ => cmdRestart_pending _)
    code l body h
@[simp] theorem stationFrameTaken_pending (s : State) (f : Frame) :
    (State.stationFrameTaken s f).pending = s.pending := by
  unfold State.stationFrameTaken
  repeat' split
  · rfl
  · exact takeCommand_pending _ _ _ _ (by simp [badCommand])
  · refine takeCommand_pending _ _ _ _ ?_
    rename_i code l _
    rcases h : bodyOf code l with _ | body
    · simp [badCommand]
    · simpa using bodyOf_pending _ _ _ h s
  · rfl
  · simp
  · rfl
/-- R198: a byte, whatever it completes, changes the receiver and the intake alone. -/
theorem rxByte_keeps {α : Type} (p : State → α) (h1 : ∀ s l, p (s.setRx l) = p s) (h2 : ∀ s l, p (s.setIntake l) = p s)
    (s : State) (b : Byte) : p (State.rxByte s b) = p s := by
  unfold State.rxByte State.offerFrame; (repeat' split) <;> simp [h1, h2]
@[simp] theorem rxByte_pending (s : State) (b : Byte) :
    (State.rxByte s b).pending = s.pending := rxByte_keeps State.pending (by simp) (by simp) s b
@[simp] theorem takeIntake_pending (s : State) : (State.takeIntake s).pending = s.pending := by
  unfold State.takeIntake; exact foldl_keeps State.pending _ (by intros; simp) _ _
@[simp] theorem rxBytes_pending (s : State) (l : List Byte) :
    (State.rxBytes s l).pending = s.pending := by
  unfold State.rxBytes; rw [takeIntake_pending]; exact foldl_keeps State.pending _ (by intros; simp) _ _
@[simp] theorem rxGap_pending (s : State) (b : Byte) :
    (State.rxGap s b).pending = s.pending := by
  simp [State.rxGap]
@[simp] theorem rxLong_pending (s : State) (len : Byte) :
    (State.rxLong s len).pending = s.pending := by
  unfold State.rxLong; split <;> simp
@[simp] theorem rxLong_rm (s : State) (len : Byte) :
    (State.rxLong s len).rm = s.rm := by
  unfold State.rxLong; split <;> simp
@[simp] theorem rxLong_fc (s : State) (len : Byte) :
    (State.rxLong s len).fc = s.fc := by
  unfold State.rxLong; split <;> simp
@[simp] theorem rxLong_csu (s : State) (len : Byte) :
    (State.rxLong s len).csu = s.csu := by
  unfold State.rxLong; split <;> simp
@[simp] theorem rxLong_csc (s : State) (len : Byte) :
    (State.rxLong s len).csc = s.csc := by
  unfold State.rxLong; split <;> simp
@[simp] theorem rxLong_pe (s : State) (len : Byte) :
    (State.rxLong s len).pe = s.pe := by
  unfold State.rxLong; split <;> simp
@[simp] theorem rxLong_dc (s : State) (len : Byte) :
    (State.rxLong s len).dc = s.dc := by
  unfold State.rxLong; split <;> simp
@[simp] theorem rxLong_ru (s : State) (len : Byte) :
    (State.rxLong s len).ru = s.ru := by
  unfold State.rxLong; split <;> simp
@[simp] theorem rxLong_sc (s : State) (len : Byte) :
    (State.rxLong s len).sc = s.sc := by
  unfold State.rxLong; split <;> simp
@[simp] theorem rxLong_sau (s : State) (len : Byte) :
    (State.rxLong s len).sau = s.sau := by
  unfold State.rxLong; split <;> simp

/-! ## Machine/ResetAndTime.lean -/

@[simp] theorem tickClock_pending (s : State) :
    (State.tickClock s).pending = s.pending := by
  unfold State.tickClock; dsimp only; (repeat' split) <;> simp
@[simp] theorem tickClock_rm (s : State) :
    (State.tickClock s).rm = s.rm := by
  unfold State.tickClock; dsimp only; (repeat' split) <;> simp
@[simp] theorem tickClock_fc (s : State) :
    (State.tickClock s).fc = s.fc := by
  unfold State.tickClock; dsimp only; (repeat' split) <;> simp
@[simp] theorem tickClock_csc (s : State) :
    (State.tickClock s).csc = s.csc := by
  unfold State.tickClock; dsimp only; (repeat' split) <;> simp
@[simp] theorem tickClock_pe (s : State) :
    (State.tickClock s).pe = s.pe := by
  unfold State.tickClock; dsimp only; (repeat' split) <;> simp
@[simp] theorem tickClock_dc (s : State) :
    (State.tickClock s).dc = s.dc := by
  unfold State.tickClock; dsimp only; (repeat' split) <;> simp
@[simp] theorem tickClock_ru (s : State) :
    (State.tickClock s).ru = s.ru := by
  unfold State.tickClock; dsimp only; (repeat' split) <;> simp
@[simp] theorem tickClock_sc (s : State) :
    (State.tickClock s).sc = s.sc := by
  unfold State.tickClock; dsimp only; (repeat' split) <;> simp
@[simp] theorem tickClock_sau (s : State) :
    (State.tickClock s).sau = s.sau := by
  unfold State.tickClock; dsimp only; (repeat' split) <;> simp

/-! ## Machine/ChannelTimers.lean -/

@[simp] theorem endSoak_pending (s : State) (c : ChannelId) :
    (State.endSoak s c).pending = s.pending := by
  simp [State.endSoak]
@[simp] theorem endSoak_rm (s : State) (c : ChannelId) :
    (State.endSoak s c).rm = s.rm := by
  simp [State.endSoak]
@[simp] theorem endSoak_fc (s : State) (c : ChannelId) :
    (State.endSoak s c).fc = s.fc := by
  simp [State.endSoak]
@[simp] theorem endSoak_csu (s : State) (c : ChannelId) :
    (State.endSoak s c).csu = s.csu := by
  simp [State.endSoak]
@[simp] theorem endSoak_csc (s : State) (c : ChannelId) :
    (State.endSoak s c).csc = s.csc := by
  simp [State.endSoak]
@[simp] theorem endSoak_pe (s : State) (c : ChannelId) :
    (State.endSoak s c).pe = s.pe := by
  simp [State.endSoak]
@[simp] theorem endSoak_dc (s : State) (c : ChannelId) :
    (State.endSoak s c).dc = s.dc := by
  simp [State.endSoak]
@[simp] theorem endSoak_ru (s : State) (c : ChannelId) :
    (State.endSoak s c).ru = s.ru := by
  simp [State.endSoak]
@[simp] theorem endSoak_sau (s : State) (c : ChannelId) :
    (State.endSoak s c).sau = s.sau := by
  simp [State.endSoak]
@[simp] theorem refreshTone_pending (s : State) (c : ChannelId) :
    (State.refreshTone s c).pending = s.pending := by
  simp [State.refreshTone]
@[simp] theorem refreshTone_fc (s : State) (c : ChannelId) :
    (State.refreshTone s c).fc = s.fc := by
  simp [State.refreshTone]
@[simp] theorem refreshTone_csu (s : State) (c : ChannelId) :
    (State.refreshTone s c).csu = s.csu := by
  simp [State.refreshTone]
@[simp] theorem refreshTone_csc (s : State) (c : ChannelId) :
    (State.refreshTone s c).csc = s.csc := by
  simp [State.refreshTone]
@[simp] theorem refreshTone_pe (s : State) (c : ChannelId) :
    (State.refreshTone s c).pe = s.pe := by
  simp [State.refreshTone]
@[simp] theorem refreshTone_dc (s : State) (c : ChannelId) :
    (State.refreshTone s c).dc = s.dc := by
  simp [State.refreshTone]
@[simp] theorem refreshTone_ru (s : State) (c : ChannelId) :
    (State.refreshTone s c).ru = s.ru := by
  simp [State.refreshTone]
@[simp] theorem refreshTone_sau (s : State) (c : ChannelId) :
    (State.refreshTone s c).sau = s.sau := by
  simp [State.refreshTone]
@[simp] theorem setDriveFault_pending (s : State) (c : ChannelId) :
    (State.setDriveFault s c).pending = s.pending := by
  simp [State.setDriveFault]
@[simp] theorem setDriveFault_rm (s : State) (c : ChannelId) :
    (State.setDriveFault s c).rm = s.rm := by
  simp [State.setDriveFault]
@[simp] theorem setDriveFault_fc (s : State) (c : ChannelId) :
    (State.setDriveFault s c).fc = s.fc := by
  simp [State.setDriveFault]
@[simp] theorem setDriveFault_csu (s : State) (c : ChannelId) :
    (State.setDriveFault s c).csu = s.csu := by
  simp [State.setDriveFault]
@[simp] theorem setDriveFault_csc (s : State) (c : ChannelId) :
    (State.setDriveFault s c).csc = s.csc := by
  simp [State.setDriveFault]
@[simp] theorem setDriveFault_pe (s : State) (c : ChannelId) :
    (State.setDriveFault s c).pe = s.pe := by
  simp [State.setDriveFault]
@[simp] theorem setDriveFault_dc (s : State) (c : ChannelId) :
    (State.setDriveFault s c).dc = s.dc := by
  simp [State.setDriveFault]
@[simp] theorem setDriveFault_ru (s : State) (c : ChannelId) :
    (State.setDriveFault s c).ru = s.ru := by
  simp [State.setDriveFault]
@[simp] theorem setDriveFault_sau (s : State) (c : ChannelId) :
    (State.setDriveFault s c).sau = s.sau := by
  simp [State.setDriveFault]
@[simp] theorem clearDriveFault_pending (s : State) (c : ChannelId) :
    (State.clearDriveFault s c).pending = s.pending := by
  simp [State.clearDriveFault]
@[simp] theorem clearDriveFault_rm (s : State) (c : ChannelId) :
    (State.clearDriveFault s c).rm = s.rm := by
  simp [State.clearDriveFault]
@[simp] theorem clearDriveFault_fc (s : State) (c : ChannelId) :
    (State.clearDriveFault s c).fc = s.fc := by
  simp [State.clearDriveFault]
@[simp] theorem clearDriveFault_csu (s : State) (c : ChannelId) :
    (State.clearDriveFault s c).csu = s.csu := by
  simp [State.clearDriveFault]
@[simp] theorem clearDriveFault_csc (s : State) (c : ChannelId) :
    (State.clearDriveFault s c).csc = s.csc := by
  simp [State.clearDriveFault]
@[simp] theorem clearDriveFault_pe (s : State) (c : ChannelId) :
    (State.clearDriveFault s c).pe = s.pe := by
  simp [State.clearDriveFault]
@[simp] theorem clearDriveFault_dc (s : State) (c : ChannelId) :
    (State.clearDriveFault s c).dc = s.dc := by
  simp [State.clearDriveFault]
@[simp] theorem clearDriveFault_ru (s : State) (c : ChannelId) :
    (State.clearDriveFault s c).ru = s.ru := by
  simp [State.clearDriveFault]
@[simp] theorem clearDriveFault_sau (s : State) (c : ChannelId) :
    (State.clearDriveFault s c).sau = s.sau := by
  simp [State.clearDriveFault]

end Sys2Proof.Machine
end

