-- ==== Sys2Proof/Laws/Commute.lean ====
section
/-! SUPPORT. What an originated frame and a posted event leave alone, as equations: a record may be written before or after
them, and is read the same. -/

namespace Sys2Proof.Machine

/-! ## Originating a frame reads and writes no other block than RM, FC and the event queue -/

theorem placeOriginated_with (s : State) (f : Frame) (pending : List Instr) (csc : Csc) (pe : Pe) (dc : Dc) (ru : Ru) (sc : Sc)
    (sau : Sau) :
    State.placeOriginated { s with pending, csc, pe, dc, ru, sc, sau } f =
      { s.placeOriginated f with pending, csc, pe, dc, ru, sc, sau } := by
  unfold State.placeOriginated
  cases h : s.rm.supersedeIndex f with
  | some i => rfl
  | none =>
    by_cases h2 : s.rm.queue.length < 32
    · simp only [h2, if_true]; rfl
    · simp only [h2, if_false]
      have e : State.displaceIndex { s with pending, csc, pe, dc, ru, sc, sau } = s.displaceIndex := rfl
      rw [e]
      cases h3 : s.rm.queue[s.displaceIndex]? <;> rfl

/-- R18: originating a DRIVE reads and writes no other block than RM, FC and the event queue. -/
theorem drive_with (s : State) (d : DevIx) (o : Output) (pending : List Instr) (csc : Csc) (pe : Pe) (dc : Dc) (ru : Ru) (sc : Sc)
    (sau : Sau) :
    State.drive { s with pending, csc, pe, dc, ru, sc, sau } d o = { s.drive d o with pending, csc, pe, dc, ru, sc, sau } := by
  unfold State.drive
  by_cases h : (o.isDisplay && (s.device d).role.isReader && (s.device d).presence == .missing) = true
  · have h' : (o.isDisplay && (State.device { s with pending, csc, pe, dc, ru, sc, sau } d).role.isReader
      && (State.device { s with pending, csc, pe, dc, ru, sc, sau } d).presence == .missing) = true := h
    rw [if_pos h, if_pos h']
  · have h' : ¬ (o.isDisplay && (State.device { s with pending, csc, pe, dc, ru, sc, sau } d).role.isReader
      && (State.device { s with pending, csc, pe, dc, ru, sc, sau } d).presence == .missing) = true := h
    rw [if_neg h, if_neg h']
    exact placeOriginated_with { s with rm := { s.rm with loopSeqCount := s.rm.loopSeqCount + 1 } } _ pending csc pe dc ru sc sau

theorem setDoor_drive (s : State) (k : DoorId) (x : Door) (d : DevIx) (o : Output) :
    (s.drive d o).setDoor k x = (s.setDoor k x).drive d o := by
  have h := drive_with s d o s.pending s.csc s.pe ({ doors := s.dc.doors.set k x k.isLt }) s.ru s.sc s.sau
  unfold State.setDoor; rw [drive_dc, h]; simp
theorem setDoor_driveOpt (s : State) (k : DoorId) (x : Door) (d : Option DevIx) (o : Output) :
    (s.driveOpt d o).setDoor k x = (s.setDoor k x).driveOpt d o := by
  cases d
  · rfl
  · exact setDoor_drive s k x _ o
theorem setDoor_tells (s : State) (k : DoorId) (x : Door) (r : EventRecord) : (s.tells r).setDoor k x = (s.setDoor k x).tells r := rfl
theorem setChannel_drive (s : State) (k : ChannelId) (x : Channel) (d : DevIx) (o : Output) :
    (s.drive d o).setChannel k x = (s.setChannel k x).drive d o := by
  have h := drive_with s d o s.pending s.csc s.pe s.dc s.ru ({ s.sc with channels := s.sc.channels.set k x k.isLt }) s.sau
  unfold State.setChannel; rw [drive_sc, h]; simp
theorem setChannel_driveOpt (s : State) (k : ChannelId) (x : Channel) (d : Option DevIx) (o : Output) :
    (s.driveOpt d o).setChannel k x = (s.setChannel k x).driveOpt d o := by
  cases d
  · rfl
  · exact setChannel_drive s k x _ o
theorem setChannel_tells (s : State) (k : ChannelId) (x : Channel) (r : EventRecord) : (s.tells r).setChannel k x = (s.setChannel k x).tells r := rfl
theorem setScDev_drive (s : State) (k : DevIx) (x : ScDevice) (d : DevIx) (o : Output) :
    (s.drive d o).setScDev k x = (s.setScDev k x).drive d o := by
  have h := drive_with s d o s.pending s.csc s.pe s.dc s.ru ({ s.sc with devs := s.sc.devs.set k x k.isLt }) s.sau
  unfold State.setScDev; rw [drive_sc, h]; simp
theorem setScDev_driveOpt (s : State) (k : DevIx) (x : ScDevice) (d : Option DevIx) (o : Output) :
    (s.driveOpt d o).setScDev k x = (s.setScDev k x).driveOpt d o := by
  cases d
  · rfl
  · exact setScDev_drive s k x _ o
theorem setScDev_tells (s : State) (k : DevIx) (x : ScDevice) (r : EventRecord) : (s.tells r).setScDev k x = (s.setScDev k x).tells r := rfl
theorem setZoneView_drive (s : State) (k : ZoneId) (x : ZoneView) (d : DevIx) (o : Output) :
    (s.drive d o).setZoneView k x = (s.setZoneView k x).drive d o := by
  have h := drive_with s d o s.pending s.csc s.pe s.dc s.ru ({ s.sc with zoneViews := s.sc.zoneViews.set k x k.isLt }) s.sau
  unfold State.setZoneView; rw [drive_sc, h]; simp
theorem setZoneView_driveOpt (s : State) (k : ZoneId) (x : ZoneView) (d : Option DevIx) (o : Output) :
    (s.driveOpt d o).setZoneView k x = (s.setZoneView k x).driveOpt d o := by
  cases d
  · rfl
  · exact setZoneView_drive s k x _ o
theorem setZoneView_tells (s : State) (k : ZoneId) (x : ZoneView) (r : EventRecord) : (s.tells r).setZoneView k x = (s.setZoneView k x).tells r := rfl
theorem setDoorView_drive (s : State) (k : DoorId) (x : Option DoorView) (d : DevIx) (o : Output) :
    (s.drive d o).setDoorView k x = (s.setDoorView k x).drive d o := by
  have h := drive_with s d o s.pending s.csc s.pe s.dc s.ru ({ s.sc with doorViews := s.sc.doorViews.set k x k.isLt }) s.sau
  unfold State.setDoorView; rw [drive_sc, h]; simp
theorem setDoorView_driveOpt (s : State) (k : DoorId) (x : Option DoorView) (d : Option DevIx) (o : Output) :
    (s.driveOpt d o).setDoorView k x = (s.setDoorView k x).driveOpt d o := by
  cases d
  · rfl
  · exact setDoorView_drive s k x _ o
theorem setDoorView_tells (s : State) (k : DoorId) (x : Option DoorView) (r : EventRecord) : (s.tells r).setDoorView k x = (s.setDoorView k x).tells r := rfl
theorem setKey_drive (s : State) (k : GiId) (x : Option ChannelId) (d : DevIx) (o : Output) :
    (s.drive d o).setKey k x = (s.setKey k x).drive d o := by
  have h := drive_with s d o s.pending s.csc s.pe s.dc s.ru ({ s.sc with keys := s.sc.keys.set k x k.isLt }) s.sau
  unfold State.setKey; rw [drive_sc, h]; simp
theorem setKey_driveOpt (s : State) (k : GiId) (x : Option ChannelId) (d : Option DevIx) (o : Output) :
    (s.driveOpt d o).setKey k x = (s.setKey k x).driveOpt d o := by
  cases d
  · rfl
  · exact setKey_drive s k x _ o
theorem setKey_tells (s : State) (k : GiId) (x : Option ChannelId) (r : EventRecord) : (s.tells r).setKey k x = (s.setKey k x).tells r := rfl
theorem setRoster_drive (s : State) (k : ZoneId) (x : List RosterEntry) (d : DevIx) (o : Output) :
    (s.drive d o).setRoster k x = (s.setRoster k x).drive d o := by
  have h := drive_with s d o s.pending s.csc s.pe s.dc ({ s.ru with rosters := s.ru.rosters.set k x k.isLt }) s.sc s.sau
  unfold State.setRoster; rw [drive_ru, h]; simp
theorem setRoster_driveOpt (s : State) (k : ZoneId) (x : List RosterEntry) (d : Option DevIx) (o : Output) :
    (s.driveOpt d o).setRoster k x = (s.setRoster k x).driveOpt d o := by
  cases d
  · rfl
  · exact setRoster_drive s k x _ o
theorem setRoster_tells (s : State) (k : ZoneId) (x : List RosterEntry) (r : EventRecord) : (s.tells r).setRoster k x = (s.setRoster k x).tells r := rfl
theorem setZoneStatus_drive (s : State) (k : ZoneId) (x : ZoneStatus) (d : DevIx) (o : Output) :
    (s.drive d o).setZoneStatus k x = (s.setZoneStatus k x).drive d o := by
  have h := drive_with s d o s.pending s.csc s.pe s.dc ({ s.ru with status := s.ru.status.set k x k.isLt }) s.sc s.sau
  unfold State.setZoneStatus; rw [drive_ru, h]; simp
theorem setZoneStatus_driveOpt (s : State) (k : ZoneId) (x : ZoneStatus) (d : Option DevIx) (o : Output) :
    (s.driveOpt d o).setZoneStatus k x = (s.setZoneStatus k x).driveOpt d o := by
  cases d
  · rfl
  · exact setZoneStatus_drive s k x _ o
theorem setZoneStatus_tells (s : State) (k : ZoneId) (x : ZoneStatus) (r : EventRecord) : (s.tells r).setZoneStatus k x = (s.setZoneStatus k x).tells r := rfl
theorem setZone_drive (s : State) (k : ZoneId) (x : ZoneEntry) (d : DevIx) (o : Output) :
    (s.drive d o).setZone k x = (s.setZone k x).drive d o := by
  have h := drive_with s d o s.pending s.csc s.pe s.dc ({ s.ru with zones := s.ru.zones.set k x k.isLt }) s.sc s.sau
  unfold State.setZone; rw [drive_ru, h]; simp
theorem setZone_driveOpt (s : State) (k : ZoneId) (x : ZoneEntry) (d : Option DevIx) (o : Output) :
    (s.driveOpt d o).setZone k x = (s.setZone k x).driveOpt d o := by
  cases d
  · rfl
  · exact setZone_drive s k x _ o
theorem setZone_tells (s : State) (k : ZoneId) (x : ZoneEntry) (r : EventRecord) : (s.tells r).setZone k x = (s.setZone k x).tells r := rfl
theorem setLone_drive (s : State) (k : ZoneId) (x : Lone) (d : DevIx) (o : Output) :
    (s.drive d o).setLone k x = (s.setLone k x).drive d o := by
  have h := drive_with s d o s.pending s.csc s.pe s.dc s.ru s.sc ({ s.sau with lone := s.sau.lone.set k x k.isLt })
  unfold State.setLone; rw [drive_sau, h]; simp
theorem setLone_driveOpt (s : State) (k : ZoneId) (x : Lone) (d : Option DevIx) (o : Output) :
    (s.driveOpt d o).setLone k x = (s.setLone k x).driveOpt d o := by
  cases d
  · rfl
  · exact setLone_drive s k x _ o
theorem setLone_tells (s : State) (k : ZoneId) (x : Lone) (r : EventRecord) : (s.tells r).setLone k x = (s.setLone k x).tells r := rfl
theorem setZoneTone_drive (s : State) (k : ZoneId) (x : Tone) (d : DevIx) (o : Output) :
    (s.drive d o).setZoneTone k x = (s.setZoneTone k x).drive d o := by
  have h := drive_with s d o s.pending s.csc s.pe s.dc s.ru s.sc ({ s.sau with tones := s.sau.tones.set k x k.isLt })
  unfold State.setZoneTone; rw [drive_sau, h]; simp
theorem setZoneTone_driveOpt (s : State) (k : ZoneId) (x : Tone) (d : Option DevIx) (o : Output) :
    (s.driveOpt d o).setZoneTone k x = (s.setZoneTone k x).driveOpt d o := by
  cases d
  · rfl
  · exact setZoneTone_drive s k x _ o
theorem setZoneTone_tells (s : State) (k : ZoneId) (x : Tone) (r : EventRecord) : (s.tells r).setZoneTone k x = (s.setZoneTone k x).tells r := rfl
theorem setAlarmOverflow_drive (s : State) (k : ZoneId) (x : Bool) (d : DevIx) (o : Output) :
    (s.drive d o).setAlarmOverflow k x = (s.setAlarmOverflow k x).drive d o := by
  have h := drive_with s d o s.pending s.csc s.pe s.dc s.ru s.sc ({ s.sau with overflow := s.sau.overflow.set k x k.isLt })
  unfold State.setAlarmOverflow; rw [drive_sau, h]; simp
theorem setAlarmOverflow_driveOpt (s : State) (k : ZoneId) (x : Bool) (d : Option DevIx) (o : Output) :
    (s.driveOpt d o).setAlarmOverflow k x = (s.setAlarmOverflow k x).driveOpt d o := by
  cases d
  · rfl
  · exact setAlarmOverflow_drive s k x _ o
theorem setAlarmOverflow_tells (s : State) (k : ZoneId) (x : Bool) (r : EventRecord) : (s.tells r).setAlarmOverflow k x = (s.setAlarmOverflow k x).tells r := rfl
theorem setAlarms_drive (s : State) (x : List AlarmRecord) (d : DevIx) (o : Output) :
    (s.drive d o).setAlarms x = (s.setAlarms x).drive d o := by
  have h := drive_with s d o s.pending s.csc s.pe s.dc s.ru s.sc ({ s.sau with alarms := x })
  unfold State.setAlarms; rw [drive_sau, h]; simp
theorem setAlarms_driveOpt (s : State) (x : List AlarmRecord) (d : Option DevIx) (o : Output) :
    (s.driveOpt d o).setAlarms x = (s.setAlarms x).driveOpt d o := by
  cases d
  · rfl
  · exact setAlarms_drive s x _ o
theorem setAlarms_tells (s : State) (x : List AlarmRecord) (r : EventRecord) : (s.tells r).setAlarms x = (s.setAlarms x).tells r := rfl
theorem setLineFunction_drive (s : State) (k : GiId) (x : LineFunction) (d : DevIx) (o : Output) :
    (s.drive d o).setLineFunction k x = (s.setLineFunction k x).drive d o := by
  have h := drive_with s d o s.pending s.csc s.pe s.dc s.ru s.sc ({ s.sau with table := s.sau.table.set k x k.isLt })
  unfold State.setLineFunction; rw [drive_sau, h]; simp
theorem setLineFunction_driveOpt (s : State) (k : GiId) (x : LineFunction) (d : Option DevIx) (o : Output) :
    (s.driveOpt d o).setLineFunction k x = (s.setLineFunction k x).driveOpt d o := by
  cases d
  · rfl
  · exact setLineFunction_drive s k x _ o
theorem setLineFunction_tells (s : State) (k : GiId) (x : LineFunction) (r : EventRecord) : (s.tells r).setLineFunction k x = (s.setLineFunction k x).tells r := rfl
theorem setCsc_drive (s : State) (x : Csc) (d : DevIx) (o : Output) :
    (s.drive d o).setCsc x = (s.setCsc x).drive d o := by
  have h := drive_with s d o s.pending (x) s.pe s.dc s.ru s.sc s.sau
  unfold State.setCsc; rw [h]; simp
theorem setCsc_driveOpt (s : State) (x : Csc) (d : Option DevIx) (o : Output) :
    (s.driveOpt d o).setCsc x = (s.setCsc x).driveOpt d o := by
  cases d
  · rfl
  · exact setCsc_drive s x _ o
theorem setCsc_tells (s : State) (x : Csc) (r : EventRecord) : (s.tells r).setCsc x = (s.setCsc x).tells r := rfl

theorem setLine_drive (s : State) (l : InputLine) (x : Line) (d : DevIx) (o : Output) :
    (s.drive d o).setLine l x = (s.setLine l x).drive d o := by
  have h (a : Sau) := drive_with s d o s.pending s.csc s.pe s.dc s.ru s.sc a
  cases l <;> (unfold State.setLine; dsimp only; rw [drive_sau]; symm; refine (h _).trans ?_; simp)

/-! ## Writing an entry twice, and reading it back -/

@[simp] theorem setDoor_setDoor (s : State) (k : DoorId) (x y : Door) : (s.setDoor k x).setDoor k y = s.setDoor k y := by
  simp [State.setDoor]
@[simp] theorem door_setDoor_self (s : State) (k : DoorId) (x : Door) : (s.setDoor k x).door k = x := by
  simp [State.setDoor, State.door]
@[simp] theorem setChannel_setChannel (s : State) (k : ChannelId) (x y : Channel) : (s.setChannel k x).setChannel k y = s.setChannel k y := by
  simp [State.setChannel]
@[simp] theorem channel_setChannel_self (s : State) (k : ChannelId) (x : Channel) : (s.setChannel k x).channel k = x := by
  simp [State.setChannel, State.channel]
@[simp] theorem setScDev_setScDev (s : State) (k : DevIx) (x y : ScDevice) : (s.setScDev k x).setScDev k y = s.setScDev k y := by
  simp [State.setScDev]
@[simp] theorem scDev_setScDev_self (s : State) (k : DevIx) (x : ScDevice) : (s.setScDev k x).scDev k = x := by
  simp [State.setScDev, State.scDev]
@[simp] theorem setZoneView_setZoneView (s : State) (k : ZoneId) (x y : ZoneView) : (s.setZoneView k x).setZoneView k y = s.setZoneView k y := by
  simp [State.setZoneView]
@[simp] theorem zoneView_setZoneView_self (s : State) (k : ZoneId) (x : ZoneView) : (s.setZoneView k x).zoneView k = x := by
  simp [State.setZoneView, State.zoneView]
@[simp] theorem setDoorView_setDoorView (s : State) (k : DoorId) (x y : Option DoorView) : (s.setDoorView k x).setDoorView k y = s.setDoorView k y := by
  simp [State.setDoorView]
@[simp] theorem doorView_setDoorView_self (s : State) (k : DoorId) (x : Option DoorView) : (s.setDoorView k x).doorView k = x := by
  simp [State.setDoorView, State.doorView]
@[simp] theorem setKey_setKey (s : State) (k : GiId) (x y : Option ChannelId) : (s.setKey k x).setKey k y = s.setKey k y := by
  simp [State.setKey]
@[simp] theorem key_setKey_self (s : State) (k : GiId) (x : Option ChannelId) : (s.setKey k x).key k = x := by
  simp [State.setKey, State.key]
@[simp] theorem setRoster_setRoster (s : State) (k : ZoneId) (x y : List RosterEntry) : (s.setRoster k x).setRoster k y = s.setRoster k y := by
  simp [State.setRoster]
@[simp] theorem roster_setRoster_self (s : State) (k : ZoneId) (x : List RosterEntry) : (s.setRoster k x).roster k = x := by
  simp [State.setRoster, State.roster]
@[simp] theorem setZoneStatus_setZoneStatus (s : State) (k : ZoneId) (x y : ZoneStatus) : (s.setZoneStatus k x).setZoneStatus k y = s.setZoneStatus k y := by
  simp [State.setZoneStatus]
@[simp] theorem zoneStatus_setZoneStatus_self (s : State) (k : ZoneId) (x : ZoneStatus) : (s.setZoneStatus k x).zoneStatus k = x := by
  simp [State.setZoneStatus, State.zoneStatus]
@[simp] theorem setLone_setLone (s : State) (k : ZoneId) (x y : Lone) : (s.setLone k x).setLone k y = s.setLone k y := by
  simp [State.setLone]
@[simp] theorem lone_setLone_self (s : State) (k : ZoneId) (x : Lone) : (s.setLone k x).lone k = x := by
  simp [State.setLone, State.lone]
@[simp] theorem setZoneTone_setZoneTone (s : State) (k : ZoneId) (x y : Tone) : (s.setZoneTone k x).setZoneTone k y = s.setZoneTone k y := by
  simp [State.setZoneTone]
@[simp] theorem zoneTone_setZoneTone_self (s : State) (k : ZoneId) (x : Tone) : (s.setZoneTone k x).zoneTone k = x := by
  simp [State.setZoneTone, State.zoneTone]
@[simp] theorem setAlarmOverflow_setAlarmOverflow (s : State) (k : ZoneId) (x y : Bool) : (s.setAlarmOverflow k x).setAlarmOverflow k y = s.setAlarmOverflow k y := by
  simp [State.setAlarmOverflow]
@[simp] theorem alarmOverflow_setAlarmOverflow_self (s : State) (k : ZoneId) (x : Bool) : (s.setAlarmOverflow k x).alarmOverflow k = x := by
  simp [State.setAlarmOverflow, State.alarmOverflow]
@[simp] theorem setDevice_setDevice (s : State) (k : DevIx) (x y : Device) : (s.setDevice k x).setDevice k y = s.setDevice k y := by
  simp [State.setDevice]
@[simp] theorem device_setDevice_self (s : State) (k : DevIx) (x : Device) : (s.setDevice k x).device k = x := by
  simp [State.setDevice, State.device]

/-! ## Reading past a frame, an event and a write of another table -/

@[simp] theorem door_drive (s : State) (d : DevIx) (o : Output) (j : DoorId) : (s.drive d o).door j = s.door j := by
  simp [State.door]
@[simp] theorem door_driveOpt (s : State) (d : Option DevIx) (o : Output) (j : DoorId) : (s.driveOpt d o).door j = s.door j := by
  simp [State.door]
@[simp] theorem door_tells (s : State) (r : EventRecord) (j : DoorId) : (s.tells r).door j = s.door j := rfl
@[simp] theorem door_setChannel (s : State) (k : ChannelId) (x : Channel) (j : DoorId) : (s.setChannel k x).door j = s.door j := rfl
@[simp] theorem door_setScDev (s : State) (k : DevIx) (x : ScDevice) (j : DoorId) : (s.setScDev k x).door j = s.door j := rfl
@[simp] theorem door_setZoneView (s : State) (k : ZoneId) (x : ZoneView) (j : DoorId) : (s.setZoneView k x).door j = s.door j := rfl
@[simp] theorem door_setDoorView (s : State) (k : DoorId) (x : Option DoorView) (j : DoorId) : (s.setDoorView k x).door j = s.door j := rfl
@[simp] theorem door_setKey (s : State) (k : GiId) (x : Option ChannelId) (j : DoorId) : (s.setKey k x).door j = s.door j := rfl
@[simp] theorem door_setRoster (s : State) (k : ZoneId) (x : List RosterEntry) (j : DoorId) : (s.setRoster k x).door j = s.door j := rfl
@[simp] theorem door_setZoneStatus (s : State) (k : ZoneId) (x : ZoneStatus) (j : DoorId) : (s.setZoneStatus k x).door j = s.door j := rfl
@[simp] theorem door_setZone (s : State) (k : ZoneId) (x : ZoneEntry) (j : DoorId) : (s.setZone k x).door j = s.door j := rfl
@[simp] theorem door_setLone (s : State) (k : ZoneId) (x : Lone) (j : DoorId) : (s.setLone k x).door j = s.door j := rfl
@[simp] theorem door_setZoneTone (s : State) (k : ZoneId) (x : Tone) (j : DoorId) : (s.setZoneTone k x).door j = s.door j := rfl
@[simp] theorem door_setAlarmOverflow (s : State) (k : ZoneId) (x : Bool) (j : DoorId) : (s.setAlarmOverflow k x).door j = s.door j := rfl
@[simp] theorem door_setAlarms (s : State) (x : List AlarmRecord) (j : DoorId) : (s.setAlarms x).door j = s.door j := rfl
@[simp] theorem door_setLineFunction (s : State) (k : GiId) (x : LineFunction) (j : DoorId) : (s.setLineFunction k x).door j = s.door j := rfl
@[simp] theorem door_setCsc (s : State) (x : Csc) (j : DoorId) : (s.setCsc x).door j = s.door j := rfl
@[simp] theorem door_setDevice (s : State) (k : DevIx) (x : Device) (j : DoorId) : (s.setDevice k x).door j = s.door j := rfl
@[simp] theorem channel_drive (s : State) (d : DevIx) (o : Output) (j : ChannelId) : (s.drive d o).channel j = s.channel j := by
  simp [State.channel]
@[simp] theorem channel_driveOpt (s : State) (d : Option DevIx) (o : Output) (j : ChannelId) : (s.driveOpt d o).channel j = s.channel j := by
  simp [State.channel]
@[simp] theorem channel_tells (s : State) (r : EventRecord) (j : ChannelId) : (s.tells r).channel j = s.channel j := rfl
@[simp] theorem channel_setDoor (s : State) (k : DoorId) (x : Door) (j : ChannelId) : (s.setDoor k x).channel j = s.channel j := rfl
@[simp] theorem channel_setScDev (s : State) (k : DevIx) (x : ScDevice) (j : ChannelId) : (s.setScDev k x).channel j = s.channel j := rfl
@[simp] theorem channel_setZoneView (s : State) (k : ZoneId) (x : ZoneView) (j : ChannelId) : (s.setZoneView k x).channel j = s.channel j := rfl
@[simp] theorem channel_setDoorView (s : State) (k : DoorId) (x : Option DoorView) (j : ChannelId) : (s.setDoorView k x).channel j = s.channel j := rfl
@[simp] theorem channel_setKey (s : State) (k : GiId) (x : Option ChannelId) (j : ChannelId) : (s.setKey k x).channel j = s.channel j := rfl
@[simp] theorem channel_setRoster (s : State) (k : ZoneId) (x : List RosterEntry) (j : ChannelId) : (s.setRoster k x).channel j = s.channel j := rfl
@[simp] theorem channel_setZoneStatus (s : State) (k : ZoneId) (x : ZoneStatus) (j : ChannelId) : (s.setZoneStatus k x).channel j = s.channel j := rfl
@[simp] theorem channel_setZone (s : State) (k : ZoneId) (x : ZoneEntry) (j : ChannelId) : (s.setZone k x).channel j = s.channel j := rfl
@[simp] theorem channel_setLone (s : State) (k : ZoneId) (x : Lone) (j : ChannelId) : (s.setLone k x).channel j = s.channel j := rfl
@[simp] theorem channel_setZoneTone (s : State) (k : ZoneId) (x : Tone) (j : ChannelId) : (s.setZoneTone k x).channel j = s.channel j := rfl
@[simp] theorem channel_setAlarmOverflow (s : State) (k : ZoneId) (x : Bool) (j : ChannelId) : (s.setAlarmOverflow k x).channel j = s.channel j := rfl
@[simp] theorem channel_setAlarms (s : State) (x : List AlarmRecord) (j : ChannelId) : (s.setAlarms x).channel j = s.channel j := rfl
@[simp] theorem channel_setLineFunction (s : State) (k : GiId) (x : LineFunction) (j : ChannelId) : (s.setLineFunction k x).channel j = s.channel j := rfl
@[simp] theorem channel_setCsc (s : State) (x : Csc) (j : ChannelId) : (s.setCsc x).channel j = s.channel j := rfl
@[simp] theorem channel_setDevice (s : State) (k : DevIx) (x : Device) (j : ChannelId) : (s.setDevice k x).channel j = s.channel j := rfl
@[simp] theorem scDev_drive (s : State) (d : DevIx) (o : Output) (j : DevIx) : (s.drive d o).scDev j = s.scDev j := by
  simp [State.scDev]
@[simp] theorem scDev_driveOpt (s : State) (d : Option DevIx) (o : Output) (j : DevIx) : (s.driveOpt d o).scDev j = s.scDev j := by
  simp [State.scDev]
@[simp] theorem scDev_tells (s : State) (r : EventRecord) (j : DevIx) : (s.tells r).scDev j = s.scDev j := rfl
@[simp] theorem scDev_setDoor (s : State) (k : DoorId) (x : Door) (j : DevIx) : (s.setDoor k x).scDev j = s.scDev j := rfl
@[simp] theorem scDev_setChannel (s : State) (k : ChannelId) (x : Channel) (j : DevIx) : (s.setChannel k x).scDev j = s.scDev j := rfl
@[simp] theorem scDev_setZoneView (s : State) (k : ZoneId) (x : ZoneView) (j : DevIx) : (s.setZoneView k x).scDev j = s.scDev j := rfl
@[simp] theorem scDev_setDoorView (s : State) (k : DoorId) (x : Option DoorView) (j : DevIx) : (s.setDoorView k x).scDev j = s.scDev j := rfl
@[simp] theorem scDev_setKey (s : State) (k : GiId) (x : Option ChannelId) (j : DevIx) : (s.setKey k x).scDev j = s.scDev j := rfl
@[simp] theorem scDev_setRoster (s : State) (k : ZoneId) (x : List RosterEntry) (j : DevIx) : (s.setRoster k x).scDev j = s.scDev j := rfl
@[simp] theorem scDev_setZoneStatus (s : State) (k : ZoneId) (x : ZoneStatus) (j : DevIx) : (s.setZoneStatus k x).scDev j = s.scDev j := rfl
@[simp] theorem scDev_setZone (s : State) (k : ZoneId) (x : ZoneEntry) (j : DevIx) : (s.setZone k x).scDev j = s.scDev j := rfl
@[simp] theorem scDev_setLone (s : State) (k : ZoneId) (x : Lone) (j : DevIx) : (s.setLone k x).scDev j = s.scDev j := rfl
@[simp] theorem scDev_setZoneTone (s : State) (k : ZoneId) (x : Tone) (j : DevIx) : (s.setZoneTone k x).scDev j = s.scDev j := rfl
@[simp] theorem scDev_setAlarmOverflow (s : State) (k : ZoneId) (x : Bool) (j : DevIx) : (s.setAlarmOverflow k x).scDev j = s.scDev j := rfl
@[simp] theorem scDev_setAlarms (s : State) (x : List AlarmRecord) (j : DevIx) : (s.setAlarms x).scDev j = s.scDev j := rfl
@[simp] theorem scDev_setLineFunction (s : State) (k : GiId) (x : LineFunction) (j : DevIx) : (s.setLineFunction k x).scDev j = s.scDev j := rfl
@[simp] theorem scDev_setCsc (s : State) (x : Csc) (j : DevIx) : (s.setCsc x).scDev j = s.scDev j := rfl
@[simp] theorem scDev_setDevice (s : State) (k : DevIx) (x : Device) (j : DevIx) : (s.setDevice k x).scDev j = s.scDev j := rfl
@[simp] theorem zoneView_drive (s : State) (d : DevIx) (o : Output) (j : ZoneId) : (s.drive d o).zoneView j = s.zoneView j := by
  simp [State.zoneView]
@[simp] theorem zoneView_driveOpt (s : State) (d : Option DevIx) (o : Output) (j : ZoneId) : (s.driveOpt d o).zoneView j = s.zoneView j := by
  simp [State.zoneView]
@[simp] theorem zoneView_tells (s : State) (r : EventRecord) (j : ZoneId) : (s.tells r).zoneView j = s.zoneView j := rfl
@[simp] theorem zoneView_setDoor (s : State) (k : DoorId) (x : Door) (j : ZoneId) : (s.setDoor k x).zoneView j = s.zoneView j := rfl
@[simp] theorem zoneView_setChannel (s : State) (k : ChannelId) (x : Channel) (j : ZoneId) : (s.setChannel k x).zoneView j = s.zoneView j := rfl
@[simp] theorem zoneView_setScDev (s : State) (k : DevIx) (x : ScDevice) (j : ZoneId) : (s.setScDev k x).zoneView j = s.zoneView j := rfl
@[simp] theorem zoneView_setDoorView (s : State) (k : DoorId) (x : Option DoorView) (j : ZoneId) : (s.setDoorView k x).zoneView j = s.zoneView j := rfl
@[simp] theorem zoneView_setKey (s : State) (k : GiId) (x : Option ChannelId) (j : ZoneId) : (s.setKey k x).zoneView j = s.zoneView j := rfl
@[simp] theorem zoneView_setRoster (s : State) (k : ZoneId) (x : List RosterEntry) (j : ZoneId) : (s.setRoster k x).zoneView j = s.zoneView j := rfl
@[simp] theorem zoneView_setZoneStatus (s : State) (k : ZoneId) (x : ZoneStatus) (j : ZoneId) : (s.setZoneStatus k x).zoneView j = s.zoneView j := rfl
@[simp] theorem zoneView_setZone (s : State) (k : ZoneId) (x : ZoneEntry) (j : ZoneId) : (s.setZone k x).zoneView j = s.zoneView j := rfl
@[simp] theorem zoneView_setLone (s : State) (k : ZoneId) (x : Lone) (j : ZoneId) : (s.setLone k x).zoneView j = s.zoneView j := rfl
@[simp] theorem zoneView_setZoneTone (s : State) (k : ZoneId) (x : Tone) (j : ZoneId) : (s.setZoneTone k x).zoneView j = s.zoneView j := rfl
@[simp] theorem zoneView_setAlarmOverflow (s : State) (k : ZoneId) (x : Bool) (j : ZoneId) : (s.setAlarmOverflow k x).zoneView j = s.zoneView j := rfl
@[simp] theorem zoneView_setAlarms (s : State) (x : List AlarmRecord) (j : ZoneId) : (s.setAlarms x).zoneView j = s.zoneView j := rfl
@[simp] theorem zoneView_setLineFunction (s : State) (k : GiId) (x : LineFunction) (j : ZoneId) : (s.setLineFunction k x).zoneView j = s.zoneView j := rfl
@[simp] theorem zoneView_setCsc (s : State) (x : Csc) (j : ZoneId) : (s.setCsc x).zoneView j = s.zoneView j := rfl
@[simp] theorem zoneView_setDevice (s : State) (k : DevIx) (x : Device) (j : ZoneId) : (s.setDevice k x).zoneView j = s.zoneView j := rfl
@[simp] theorem doorView_drive (s : State) (d : DevIx) (o : Output) (j : DoorId) : (s.drive d o).doorView j = s.doorView j := by
  simp [State.doorView]
@[simp] theorem doorView_driveOpt (s : State) (d : Option DevIx) (o : Output) (j : DoorId) : (s.driveOpt d o).doorView j = s.doorView j := by
  simp [State.doorView]
@[simp] theorem doorView_tells (s : State) (r : EventRecord) (j : DoorId) : (s.tells r).doorView j = s.doorView j := rfl
@[simp] theorem doorView_setDoor (s : State) (k : DoorId) (x : Door) (j : DoorId) : (s.setDoor k x).doorView j = s.doorView j := rfl
@[simp] theorem doorView_setChannel (s : State) (k : ChannelId) (x : Channel) (j : DoorId) : (s.setChannel k x).doorView j = s.doorView j := rfl
@[simp] theorem doorView_setScDev (s : State) (k : DevIx) (x : ScDevice) (j : DoorId) : (s.setScDev k x).doorView j = s.doorView j := rfl
@[simp] theorem doorView_setZoneView (s : State) (k : ZoneId) (x : ZoneView) (j : DoorId) : (s.setZoneView k x).doorView j = s.doorView j := rfl
@[simp] theorem doorView_setKey (s : State) (k : GiId) (x : Option ChannelId) (j : DoorId) : (s.setKey k x).doorView j = s.doorView j := rfl
@[simp] theorem doorView_setRoster (s : State) (k : ZoneId) (x : List RosterEntry) (j : DoorId) : (s.setRoster k x).doorView j = s.doorView j := rfl
@[simp] theorem doorView_setZoneStatus (s : State) (k : ZoneId) (x : ZoneStatus) (j : DoorId) : (s.setZoneStatus k x).doorView j = s.doorView j := rfl
@[simp] theorem doorView_setZone (s : State) (k : ZoneId) (x : ZoneEntry) (j : DoorId) : (s.setZone k x).doorView j = s.doorView j := rfl
@[simp] theorem doorView_setLone (s : State) (k : ZoneId) (x : Lone) (j : DoorId) : (s.setLone k x).doorView j = s.doorView j := rfl
@[simp] theorem doorView_setZoneTone (s : State) (k : ZoneId) (x : Tone) (j : DoorId) : (s.setZoneTone k x).doorView j = s.doorView j := rfl
@[simp] theorem doorView_setAlarmOverflow (s : State) (k : ZoneId) (x : Bool) (j : DoorId) : (s.setAlarmOverflow k x).doorView j = s.doorView j := rfl
@[simp] theorem doorView_setAlarms (s : State) (x : List AlarmRecord) (j : DoorId) : (s.setAlarms x).doorView j = s.doorView j := rfl
@[simp] theorem doorView_setLineFunction (s : State) (k : GiId) (x : LineFunction) (j : DoorId) : (s.setLineFunction k x).doorView j = s.doorView j := rfl
@[simp] theorem doorView_setCsc (s : State) (x : Csc) (j : DoorId) : (s.setCsc x).doorView j = s.doorView j := rfl
@[simp] theorem doorView_setDevice (s : State) (k : DevIx) (x : Device) (j : DoorId) : (s.setDevice k x).doorView j = s.doorView j := rfl
@[simp] theorem key_drive (s : State) (d : DevIx) (o : Output) (j : GiId) : (s.drive d o).key j = s.key j := by
  simp [State.key]
@[simp] theorem key_driveOpt (s : State) (d : Option DevIx) (o : Output) (j : GiId) : (s.driveOpt d o).key j = s.key j := by
  simp [State.key]
@[simp] theorem key_tells (s : State) (r : EventRecord) (j : GiId) : (s.tells r).key j = s.key j := rfl
@[simp] theorem key_setDoor (s : State) (k : DoorId) (x : Door) (j : GiId) : (s.setDoor k x).key j = s.key j := rfl
@[simp] theorem key_setChannel (s : State) (k : ChannelId) (x : Channel) (j : GiId) : (s.setChannel k x).key j = s.key j := rfl
@[simp] theorem key_setScDev (s : State) (k : DevIx) (x : ScDevice) (j : GiId) : (s.setScDev k x).key j = s.key j := rfl
@[simp] theorem key_setZoneView (s : State) (k : ZoneId) (x : ZoneView) (j : GiId) : (s.setZoneView k x).key j = s.key j := rfl
@[simp] theorem key_setDoorView (s : State) (k : DoorId) (x : Option DoorView) (j : GiId) : (s.setDoorView k x).key j = s.key j := rfl
@[simp] theorem key_setRoster (s : State) (k : ZoneId) (x : List RosterEntry) (j : GiId) : (s.setRoster k x).key j = s.key j := rfl
@[simp] theorem key_setZoneStatus (s : State) (k : ZoneId) (x : ZoneStatus) (j : GiId) : (s.setZoneStatus k x).key j = s.key j := rfl
@[simp] theorem key_setZone (s : State) (k : ZoneId) (x : ZoneEntry) (j : GiId) : (s.setZone k x).key j = s.key j := rfl
@[simp] theorem key_setLone (s : State) (k : ZoneId) (x : Lone) (j : GiId) : (s.setLone k x).key j = s.key j := rfl
@[simp] theorem key_setZoneTone (s : State) (k : ZoneId) (x : Tone) (j : GiId) : (s.setZoneTone k x).key j = s.key j := rfl
@[simp] theorem key_setAlarmOverflow (s : State) (k : ZoneId) (x : Bool) (j : GiId) : (s.setAlarmOverflow k x).key j = s.key j := rfl
@[simp] theorem key_setAlarms (s : State) (x : List AlarmRecord) (j : GiId) : (s.setAlarms x).key j = s.key j := rfl
@[simp] theorem key_setLineFunction (s : State) (k : GiId) (x : LineFunction) (j : GiId) : (s.setLineFunction k x).key j = s.key j := rfl
@[simp] theorem key_setCsc (s : State) (x : Csc) (j : GiId) : (s.setCsc x).key j = s.key j := rfl
@[simp] theorem key_setDevice (s : State) (k : DevIx) (x : Device) (j : GiId) : (s.setDevice k x).key j = s.key j := rfl
@[simp] theorem roster_drive (s : State) (d : DevIx) (o : Output) (j : ZoneId) : (s.drive d o).roster j = s.roster j := by
  simp [State.roster]
@[simp] theorem roster_driveOpt (s : State) (d : Option DevIx) (o : Output) (j : ZoneId) : (s.driveOpt d o).roster j = s.roster j := by
  simp [State.roster]
@[simp] theorem roster_tells (s : State) (r : EventRecord) (j : ZoneId) : (s.tells r).roster j = s.roster j := rfl
@[simp] theorem roster_setDoor (s : State) (k : DoorId) (x : Door) (j : ZoneId) : (s.setDoor k x).roster j = s.roster j := rfl
@[simp] theorem roster_setChannel (s : State) (k : ChannelId) (x : Channel) (j : ZoneId) : (s.setChannel k x).roster j = s.roster j := rfl
@[simp] theorem roster_setScDev (s : State) (k : DevIx) (x : ScDevice) (j : ZoneId) : (s.setScDev k x).roster j = s.roster j := rfl
@[simp] theorem roster_setZoneView (s : State) (k : ZoneId) (x : ZoneView) (j : ZoneId) : (s.setZoneView k x).roster j = s.roster j := rfl
@[simp] theorem roster_setDoorView (s : State) (k : DoorId) (x : Option DoorView) (j : ZoneId) : (s.setDoorView k x).roster j = s.roster j := rfl
@[simp] theorem roster_setKey (s : State) (k : GiId) (x : Option ChannelId) (j : ZoneId) : (s.setKey k x).roster j = s.roster j := rfl
@[simp] theorem roster_setZoneStatus (s : State) (k : ZoneId) (x : ZoneStatus) (j : ZoneId) : (s.setZoneStatus k x).roster j = s.roster j := rfl
@[simp] theorem roster_setZone (s : State) (k : ZoneId) (x : ZoneEntry) (j : ZoneId) : (s.setZone k x).roster j = s.roster j := rfl
@[simp] theorem roster_setLone (s : State) (k : ZoneId) (x : Lone) (j : ZoneId) : (s.setLone k x).roster j = s.roster j := rfl
@[simp] theorem roster_setZoneTone (s : State) (k : ZoneId) (x : Tone) (j : ZoneId) : (s.setZoneTone k x).roster j = s.roster j := rfl
@[simp] theorem roster_setAlarmOverflow (s : State) (k : ZoneId) (x : Bool) (j : ZoneId) : (s.setAlarmOverflow k x).roster j = s.roster j := rfl
@[simp] theorem roster_setAlarms (s : State) (x : List AlarmRecord) (j : ZoneId) : (s.setAlarms x).roster j = s.roster j := rfl
@[simp] theorem roster_setLineFunction (s : State) (k : GiId) (x : LineFunction) (j : ZoneId) : (s.setLineFunction k x).roster j = s.roster j := rfl
@[simp] theorem roster_setCsc (s : State) (x : Csc) (j : ZoneId) : (s.setCsc x).roster j = s.roster j := rfl
@[simp] theorem roster_setDevice (s : State) (k : DevIx) (x : Device) (j : ZoneId) : (s.setDevice k x).roster j = s.roster j := rfl
@[simp] theorem zoneStatus_drive (s : State) (d : DevIx) (o : Output) (j : ZoneId) : (s.drive d o).zoneStatus j = s.zoneStatus j := by
  simp [State.zoneStatus]
@[simp] theorem zoneStatus_driveOpt (s : State) (d : Option DevIx) (o : Output) (j : ZoneId) : (s.driveOpt d o).zoneStatus j = s.zoneStatus j := by
  simp [State.zoneStatus]
@[simp] theorem zoneStatus_tells (s : State) (r : EventRecord) (j : ZoneId) : (s.tells r).zoneStatus j = s.zoneStatus j := rfl
@[simp] theorem zoneStatus_setDoor (s : State) (k : DoorId) (x : Door) (j : ZoneId) : (s.setDoor k x).zoneStatus j = s.zoneStatus j := rfl
@[simp] theorem zoneStatus_setChannel (s : State) (k : ChannelId) (x : Channel) (j : ZoneId) : (s.setChannel k x).zoneStatus j = s.zoneStatus j := rfl
@[simp] theorem zoneStatus_setScDev (s : State) (k : DevIx) (x : ScDevice) (j : ZoneId) : (s.setScDev k x).zoneStatus j = s.zoneStatus j := rfl
@[simp] theorem zoneStatus_setZoneView (s : State) (k : ZoneId) (x : ZoneView) (j : ZoneId) : (s.setZoneView k x).zoneStatus j = s.zoneStatus j := rfl
@[simp] theorem zoneStatus_setDoorView (s : State) (k : DoorId) (x : Option DoorView) (j : ZoneId) : (s.setDoorView k x).zoneStatus j = s.zoneStatus j := rfl
@[simp] theorem zoneStatus_setKey (s : State) (k : GiId) (x : Option ChannelId) (j : ZoneId) : (s.setKey k x).zoneStatus j = s.zoneStatus j := rfl
@[simp] theorem zoneStatus_setRoster (s : State) (k : ZoneId) (x : List RosterEntry) (j : ZoneId) : (s.setRoster k x).zoneStatus j = s.zoneStatus j := rfl
@[simp] theorem zoneStatus_setZone (s : State) (k : ZoneId) (x : ZoneEntry) (j : ZoneId) : (s.setZone k x).zoneStatus j = s.zoneStatus j := rfl
@[simp] theorem zoneStatus_setLone (s : State) (k : ZoneId) (x : Lone) (j : ZoneId) : (s.setLone k x).zoneStatus j = s.zoneStatus j := rfl
@[simp] theorem zoneStatus_setZoneTone (s : State) (k : ZoneId) (x : Tone) (j : ZoneId) : (s.setZoneTone k x).zoneStatus j = s.zoneStatus j := rfl
@[simp] theorem zoneStatus_setAlarmOverflow (s : State) (k : ZoneId) (x : Bool) (j : ZoneId) : (s.setAlarmOverflow k x).zoneStatus j = s.zoneStatus j := rfl
@[simp] theorem zoneStatus_setAlarms (s : State) (x : List AlarmRecord) (j : ZoneId) : (s.setAlarms x).zoneStatus j = s.zoneStatus j := rfl
@[simp] theorem zoneStatus_setLineFunction (s : State) (k : GiId) (x : LineFunction) (j : ZoneId) : (s.setLineFunction k x).zoneStatus j = s.zoneStatus j := rfl
@[simp] theorem zoneStatus_setCsc (s : State) (x : Csc) (j : ZoneId) : (s.setCsc x).zoneStatus j = s.zoneStatus j := rfl
@[simp] theorem zoneStatus_setDevice (s : State) (k : DevIx) (x : Device) (j : ZoneId) : (s.setDevice k x).zoneStatus j = s.zoneStatus j := rfl
@[simp] theorem zone_drive (s : State) (d : DevIx) (o : Output) (j : ZoneId) : (s.drive d o).zone j = s.zone j := by
  simp [State.zone]
@[simp] theorem zone_driveOpt (s : State) (d : Option DevIx) (o : Output) (j : ZoneId) : (s.driveOpt d o).zone j = s.zone j := by
  simp [State.zone]
@[simp] theorem zone_tells (s : State) (r : EventRecord) (j : ZoneId) : (s.tells r).zone j = s.zone j := rfl
@[simp] theorem zone_setDoor (s : State) (k : DoorId) (x : Door) (j : ZoneId) : (s.setDoor k x).zone j = s.zone j := rfl
@[simp] theorem zone_setChannel (s : State) (k : ChannelId) (x : Channel) (j : ZoneId) : (s.setChannel k x).zone j = s.zone j := rfl
@[simp] theorem zone_setScDev (s : State) (k : DevIx) (x : ScDevice) (j : ZoneId) : (s.setScDev k x).zone j = s.zone j := rfl
@[simp] theorem zone_setZoneView (s : State) (k : ZoneId) (x : ZoneView) (j : ZoneId) : (s.setZoneView k x).zone j = s.zone j := rfl
@[simp] theorem zone_setDoorView (s : State) (k : DoorId) (x : Option DoorView) (j : ZoneId) : (s.setDoorView k x).zone j = s.zone j := rfl
@[simp] theorem zone_setKey (s : State) (k : GiId) (x : Option ChannelId) (j : ZoneId) : (s.setKey k x).zone j = s.zone j := rfl
@[simp] theorem zone_setRoster (s : State) (k : ZoneId) (x : List RosterEntry) (j : ZoneId) : (s.setRoster k x).zone j = s.zone j := rfl
@[simp] theorem zone_setZoneStatus (s : State) (k : ZoneId) (x : ZoneStatus) (j : ZoneId) : (s.setZoneStatus k x).zone j = s.zone j := rfl
@[simp] theorem zone_setLone (s : State) (k : ZoneId) (x : Lone) (j : ZoneId) : (s.setLone k x).zone j = s.zone j := rfl
@[simp] theorem zone_setZoneTone (s : State) (k : ZoneId) (x : Tone) (j : ZoneId) : (s.setZoneTone k x).zone j = s.zone j := rfl
@[simp] theorem zone_setAlarmOverflow (s : State) (k : ZoneId) (x : Bool) (j : ZoneId) : (s.setAlarmOverflow k x).zone j = s.zone j := rfl
@[simp] theorem zone_setAlarms (s : State) (x : List AlarmRecord) (j : ZoneId) : (s.setAlarms x).zone j = s.zone j := rfl
@[simp] theorem zone_setLineFunction (s : State) (k : GiId) (x : LineFunction) (j : ZoneId) : (s.setLineFunction k x).zone j = s.zone j := rfl
@[simp] theorem zone_setCsc (s : State) (x : Csc) (j : ZoneId) : (s.setCsc x).zone j = s.zone j := rfl
@[simp] theorem zone_setDevice (s : State) (k : DevIx) (x : Device) (j : ZoneId) : (s.setDevice k x).zone j = s.zone j := rfl
@[simp] theorem lone_drive (s : State) (d : DevIx) (o : Output) (j : ZoneId) : (s.drive d o).lone j = s.lone j := by
  simp [State.lone]
@[simp] theorem lone_driveOpt (s : State) (d : Option DevIx) (o : Output) (j : ZoneId) : (s.driveOpt d o).lone j = s.lone j := by
  simp [State.lone]
@[simp] theorem lone_tells (s : State) (r : EventRecord) (j : ZoneId) : (s.tells r).lone j = s.lone j := rfl
@[simp] theorem lone_setDoor (s : State) (k : DoorId) (x : Door) (j : ZoneId) : (s.setDoor k x).lone j = s.lone j := rfl
@[simp] theorem lone_setChannel (s : State) (k : ChannelId) (x : Channel) (j : ZoneId) : (s.setChannel k x).lone j = s.lone j := rfl
@[simp] theorem lone_setScDev (s : State) (k : DevIx) (x : ScDevice) (j : ZoneId) : (s.setScDev k x).lone j = s.lone j := rfl
@[simp] theorem lone_setZoneView (s : State) (k : ZoneId) (x : ZoneView) (j : ZoneId) : (s.setZoneView k x).lone j = s.lone j := rfl
@[simp] theorem lone_setDoorView (s : State) (k : DoorId) (x : Option DoorView) (j : ZoneId) : (s.setDoorView k x).lone j = s.lone j := rfl
@[simp] theorem lone_setKey (s : State) (k : GiId) (x : Option ChannelId) (j : ZoneId) : (s.setKey k x).lone j = s.lone j := rfl
@[simp] theorem lone_setRoster (s : State) (k : ZoneId) (x : List RosterEntry) (j : ZoneId) : (s.setRoster k x).lone j = s.lone j := rfl
@[simp] theorem lone_setZoneStatus (s : State) (k : ZoneId) (x : ZoneStatus) (j : ZoneId) : (s.setZoneStatus k x).lone j = s.lone j := rfl
@[simp] theorem lone_setZone (s : State) (k : ZoneId) (x : ZoneEntry) (j : ZoneId) : (s.setZone k x).lone j = s.lone j := rfl
@[simp] theorem lone_setZoneTone (s : State) (k : ZoneId) (x : Tone) (j : ZoneId) : (s.setZoneTone k x).lone j = s.lone j := rfl
@[simp] theorem lone_setAlarmOverflow (s : State) (k : ZoneId) (x : Bool) (j : ZoneId) : (s.setAlarmOverflow k x).lone j = s.lone j := rfl
@[simp] theorem lone_setAlarms (s : State) (x : List AlarmRecord) (j : ZoneId) : (s.setAlarms x).lone j = s.lone j := rfl
@[simp] theorem lone_setLineFunction (s : State) (k : GiId) (x : LineFunction) (j : ZoneId) : (s.setLineFunction k x).lone j = s.lone j := rfl
@[simp] theorem lone_setCsc (s : State) (x : Csc) (j : ZoneId) : (s.setCsc x).lone j = s.lone j := rfl
@[simp] theorem lone_setDevice (s : State) (k : DevIx) (x : Device) (j : ZoneId) : (s.setDevice k x).lone j = s.lone j := rfl
@[simp] theorem zoneTone_drive (s : State) (d : DevIx) (o : Output) (j : ZoneId) : (s.drive d o).zoneTone j = s.zoneTone j := by
  simp [State.zoneTone]
@[simp] theorem zoneTone_driveOpt (s : State) (d : Option DevIx) (o : Output) (j : ZoneId) : (s.driveOpt d o).zoneTone j = s.zoneTone j := by
  simp [State.zoneTone]
@[simp] theorem zoneTone_tells (s : State) (r : EventRecord) (j : ZoneId) : (s.tells r).zoneTone j = s.zoneTone j := rfl
@[simp] theorem zoneTone_setDoor (s : State) (k : DoorId) (x : Door) (j : ZoneId) : (s.setDoor k x).zoneTone j = s.zoneTone j := rfl
@[simp] theorem zoneTone_setChannel (s : State) (k : ChannelId) (x : Channel) (j : ZoneId) : (s.setChannel k x).zoneTone j = s.zoneTone j := rfl
@[simp] theorem zoneTone_setScDev (s : State) (k : DevIx) (x : ScDevice) (j : ZoneId) : (s.setScDev k x).zoneTone j = s.zoneTone j := rfl
@[simp] theorem zoneTone_setZoneView (s : State) (k : ZoneId) (x : ZoneView) (j : ZoneId) : (s.setZoneView k x).zoneTone j = s.zoneTone j := rfl
@[simp] theorem zoneTone_setDoorView (s : State) (k : DoorId) (x : Option DoorView) (j : ZoneId) : (s.setDoorView k x).zoneTone j = s.zoneTone j := rfl
@[simp] theorem zoneTone_setKey (s : State) (k : GiId) (x : Option ChannelId) (j : ZoneId) : (s.setKey k x).zoneTone j = s.zoneTone j := rfl
@[simp] theorem zoneTone_setRoster (s : State) (k : ZoneId) (x : List RosterEntry) (j : ZoneId) : (s.setRoster k x).zoneTone j = s.zoneTone j := rfl
@[simp] theorem zoneTone_setZoneStatus (s : State) (k : ZoneId) (x : ZoneStatus) (j : ZoneId) : (s.setZoneStatus k x).zoneTone j = s.zoneTone j := rfl
@[simp] theorem zoneTone_setZone (s : State) (k : ZoneId) (x : ZoneEntry) (j : ZoneId) : (s.setZone k x).zoneTone j = s.zoneTone j := rfl
@[simp] theorem zoneTone_setLone (s : State) (k : ZoneId) (x : Lone) (j : ZoneId) : (s.setLone k x).zoneTone j = s.zoneTone j := rfl
@[simp] theorem zoneTone_setAlarmOverflow (s : State) (k : ZoneId) (x : Bool) (j : ZoneId) : (s.setAlarmOverflow k x).zoneTone j = s.zoneTone j := rfl
@[simp] theorem zoneTone_setAlarms (s : State) (x : List AlarmRecord) (j : ZoneId) : (s.setAlarms x).zoneTone j = s.zoneTone j := rfl
@[simp] theorem zoneTone_setLineFunction (s : State) (k : GiId) (x : LineFunction) (j : ZoneId) : (s.setLineFunction k x).zoneTone j = s.zoneTone j := rfl
@[simp] theorem zoneTone_setCsc (s : State) (x : Csc) (j : ZoneId) : (s.setCsc x).zoneTone j = s.zoneTone j := rfl
@[simp] theorem zoneTone_setDevice (s : State) (k : DevIx) (x : Device) (j : ZoneId) : (s.setDevice k x).zoneTone j = s.zoneTone j := rfl
@[simp] theorem alarmOverflow_drive (s : State) (d : DevIx) (o : Output) (j : ZoneId) : (s.drive d o).alarmOverflow j = s.alarmOverflow j := by
  simp [State.alarmOverflow]
@[simp] theorem alarmOverflow_driveOpt (s : State) (d : Option DevIx) (o : Output) (j : ZoneId) : (s.driveOpt d o).alarmOverflow j = s.alarmOverflow j := by
  simp [State.alarmOverflow]
@[simp] theorem alarmOverflow_tells (s : State) (r : EventRecord) (j : ZoneId) : (s.tells r).alarmOverflow j = s.alarmOverflow j := rfl
@[simp] theorem alarmOverflow_setDoor (s : State) (k : DoorId) (x : Door) (j : ZoneId) : (s.setDoor k x).alarmOverflow j = s.alarmOverflow j := rfl
@[simp] theorem alarmOverflow_setChannel (s : State) (k : ChannelId) (x : Channel) (j : ZoneId) : (s.setChannel k x).alarmOverflow j = s.alarmOverflow j := rfl
@[simp] theorem alarmOverflow_setScDev (s : State) (k : DevIx) (x : ScDevice) (j : ZoneId) : (s.setScDev k x).alarmOverflow j = s.alarmOverflow j := rfl
@[simp] theorem alarmOverflow_setZoneView (s : State) (k : ZoneId) (x : ZoneView) (j : ZoneId) : (s.setZoneView k x).alarmOverflow j = s.alarmOverflow j := rfl
@[simp] theorem alarmOverflow_setDoorView (s : State) (k : DoorId) (x : Option DoorView) (j : ZoneId) : (s.setDoorView k x).alarmOverflow j = s.alarmOverflow j := rfl
@[simp] theorem alarmOverflow_setKey (s : State) (k : GiId) (x : Option ChannelId) (j : ZoneId) : (s.setKey k x).alarmOverflow j = s.alarmOverflow j := rfl
@[simp] theorem alarmOverflow_setRoster (s : State) (k : ZoneId) (x : List RosterEntry) (j : ZoneId) : (s.setRoster k x).alarmOverflow j = s.alarmOverflow j := rfl
@[simp] theorem alarmOverflow_setZoneStatus (s : State) (k : ZoneId) (x : ZoneStatus) (j : ZoneId) : (s.setZoneStatus k x).alarmOverflow j = s.alarmOverflow j := rfl
@[simp] theorem alarmOverflow_setZone (s : State) (k : ZoneId) (x : ZoneEntry) (j : ZoneId) : (s.setZone k x).alarmOverflow j = s.alarmOverflow j := rfl
@[simp] theorem alarmOverflow_setLone (s : State) (k : ZoneId) (x : Lone) (j : ZoneId) : (s.setLone k x).alarmOverflow j = s.alarmOverflow j := rfl
@[simp] theorem alarmOverflow_setZoneTone (s : State) (k : ZoneId) (x : Tone) (j : ZoneId) : (s.setZoneTone k x).alarmOverflow j = s.alarmOverflow j := rfl
@[simp] theorem alarmOverflow_setAlarms (s : State) (x : List AlarmRecord) (j : ZoneId) : (s.setAlarms x).alarmOverflow j = s.alarmOverflow j := rfl
@[simp] theorem alarmOverflow_setLineFunction (s : State) (k : GiId) (x : LineFunction) (j : ZoneId) : (s.setLineFunction k x).alarmOverflow j = s.alarmOverflow j := rfl
@[simp] theorem alarmOverflow_setCsc (s : State) (x : Csc) (j : ZoneId) : (s.setCsc x).alarmOverflow j = s.alarmOverflow j := rfl
@[simp] theorem alarmOverflow_setDevice (s : State) (k : DevIx) (x : Device) (j : ZoneId) : (s.setDevice k x).alarmOverflow j = s.alarmOverflow j := rfl
@[simp] theorem lineFunction_drive (s : State) (d : DevIx) (o : Output) (j : GiId) : (s.drive d o).lineFunction j = s.lineFunction j := by
  simp [State.lineFunction]
@[simp] theorem lineFunction_driveOpt (s : State) (d : Option DevIx) (o : Output) (j : GiId) : (s.driveOpt d o).lineFunction j = s.lineFunction j := by
  simp [State.lineFunction]
@[simp] theorem lineFunction_tells (s : State) (r : EventRecord) (j : GiId) : (s.tells r).lineFunction j = s.lineFunction j := rfl
@[simp] theorem lineFunction_setDoor (s : State) (k : DoorId) (x : Door) (j : GiId) : (s.setDoor k x).lineFunction j = s.lineFunction j := rfl
@[simp] theorem lineFunction_setChannel (s : State) (k : ChannelId) (x : Channel) (j : GiId) : (s.setChannel k x).lineFunction j = s.lineFunction j := rfl
@[simp] theorem lineFunction_setScDev (s : State) (k : DevIx) (x : ScDevice) (j : GiId) : (s.setScDev k x).lineFunction j = s.lineFunction j := rfl
@[simp] theorem lineFunction_setZoneView (s : State) (k : ZoneId) (x : ZoneView) (j : GiId) : (s.setZoneView k x).lineFunction j = s.lineFunction j := rfl
@[simp] theorem lineFunction_setDoorView (s : State) (k : DoorId) (x : Option DoorView) (j : GiId) : (s.setDoorView k x).lineFunction j = s.lineFunction j := rfl
@[simp] theorem lineFunction_setKey (s : State) (k : GiId) (x : Option ChannelId) (j : GiId) : (s.setKey k x).lineFunction j = s.lineFunction j := rfl
@[simp] theorem lineFunction_setRoster (s : State) (k : ZoneId) (x : List RosterEntry) (j : GiId) : (s.setRoster k x).lineFunction j = s.lineFunction j := rfl
@[simp] theorem lineFunction_setZoneStatus (s : State) (k : ZoneId) (x : ZoneStatus) (j : GiId) : (s.setZoneStatus k x).lineFunction j = s.lineFunction j := rfl
@[simp] theorem lineFunction_setZone (s : State) (k : ZoneId) (x : ZoneEntry) (j : GiId) : (s.setZone k x).lineFunction j = s.lineFunction j := rfl
@[simp] theorem lineFunction_setLone (s : State) (k : ZoneId) (x : Lone) (j : GiId) : (s.setLone k x).lineFunction j = s.lineFunction j := rfl
@[simp] theorem lineFunction_setZoneTone (s : State) (k : ZoneId) (x : Tone) (j : GiId) : (s.setZoneTone k x).lineFunction j = s.lineFunction j := rfl
@[simp] theorem lineFunction_setAlarmOverflow (s : State) (k : ZoneId) (x : Bool) (j : GiId) : (s.setAlarmOverflow k x).lineFunction j = s.lineFunction j := rfl
@[simp] theorem lineFunction_setAlarms (s : State) (x : List AlarmRecord) (j : GiId) : (s.setAlarms x).lineFunction j = s.lineFunction j := rfl
@[simp] theorem lineFunction_setCsc (s : State) (x : Csc) (j : GiId) : (s.setCsc x).lineFunction j = s.lineFunction j := rfl
@[simp] theorem lineFunction_setDevice (s : State) (k : DevIx) (x : Device) (j : GiId) : (s.setDevice k x).lineFunction j = s.lineFunction j := rfl
@[simp] theorem line_drive (s : State) (d : DevIx) (o : Output) (l : InputLine) : (s.drive d o).line l = s.line l := by
  cases l <;> simp [State.line]
@[simp] theorem line_driveOpt (s : State) (d : Option DevIx) (o : Output) (l : InputLine) : (s.driveOpt d o).line l = s.line l := by
  cases l <;> simp [State.line]
@[simp] theorem line_tells (s : State) (r : EventRecord) (l : InputLine) : (s.tells r).line l = s.line l := by
  cases l <;> rfl
@[simp] theorem line_setDoor (s : State) (k : DoorId) (x : Door) (l : InputLine) : (s.setDoor k x).line l = s.line l := by
  cases l <;> rfl
@[simp] theorem line_setChannel (s : State) (k : ChannelId) (x : Channel) (l : InputLine) : (s.setChannel k x).line l = s.line l := by
  cases l <;> rfl
@[simp] theorem line_setScDev (s : State) (k : DevIx) (x : ScDevice) (l : InputLine) : (s.setScDev k x).line l = s.line l := by
  cases l <;> rfl
@[simp] theorem line_setZoneView (s : State) (k : ZoneId) (x : ZoneView) (l : InputLine) : (s.setZoneView k x).line l = s.line l := by
  cases l <;> rfl
@[simp] theorem line_setDoorView (s : State) (k : DoorId) (x : Option DoorView) (l : InputLine) : (s.setDoorView k x).line l = s.line l := by
  cases l <;> rfl
@[simp] theorem line_setKey (s : State) (k : GiId) (x : Option ChannelId) (l : InputLine) : (s.setKey k x).line l = s.line l := by
  cases l <;> rfl
@[simp] theorem line_setRoster (s : State) (k : ZoneId) (x : List RosterEntry) (l : InputLine) : (s.setRoster k x).line l = s.line l := by
  cases l <;> rfl
@[simp] theorem line_setZoneStatus (s : State) (k : ZoneId) (x : ZoneStatus) (l : InputLine) : (s.setZoneStatus k x).line l = s.line l := by
  cases l <;> rfl
@[simp] theorem line_setZone (s : State) (k : ZoneId) (x : ZoneEntry) (l : InputLine) : (s.setZone k x).line l = s.line l := by
  cases l <;> rfl
@[simp] theorem line_setLone (s : State) (k : ZoneId) (x : Lone) (l : InputLine) : (s.setLone k x).line l = s.line l := by
  cases l <;> rfl
@[simp] theorem line_setZoneTone (s : State) (k : ZoneId) (x : Tone) (l : InputLine) : (s.setZoneTone k x).line l = s.line l := by
  cases l <;> rfl
@[simp] theorem line_setAlarmOverflow (s : State) (k : ZoneId) (x : Bool) (l : InputLine) : (s.setAlarmOverflow k x).line l = s.line l := by
  cases l <;> rfl
@[simp] theorem line_setAlarms (s : State) (x : List AlarmRecord) (l : InputLine) : (s.setAlarms x).line l = s.line l := by
  cases l <;> rfl
@[simp] theorem line_setLineFunction (s : State) (k : GiId) (x : LineFunction) (l : InputLine) : (s.setLineFunction k x).line l = s.line l := by
  cases l <;> rfl
@[simp] theorem line_setCsc (s : State) (x : Csc) (l : InputLine) : (s.setCsc x).line l = s.line l := by
  cases l <;> rfl
@[simp] theorem line_setDevice (s : State) (k : DevIx) (x : Device) (l : InputLine) : (s.setDevice k x).line l = s.line l := by
  cases l <;> rfl
@[simp] theorem afterHours_drive (s : State) (d : DevIx) (o : Output) (j : ZoneId) : (s.drive d o).afterHours j = s.afterHours j := by
  simp [State.afterHours]
@[simp] theorem afterHours_driveOpt (s : State) (d : Option DevIx) (o : Output) (j : ZoneId) : (s.driveOpt d o).afterHours j = s.afterHours j := by
  simp [State.afterHours]
@[simp] theorem afterHours_tells (s : State) (r : EventRecord) (j : ZoneId) : (s.tells r).afterHours j = s.afterHours j := rfl
@[simp] theorem afterHours_setDoor (s : State) (k : DoorId) (x : Door) (j : ZoneId) : (s.setDoor k x).afterHours j = s.afterHours j := rfl
@[simp] theorem afterHours_setChannel (s : State) (k : ChannelId) (x : Channel) (j : ZoneId) : (s.setChannel k x).afterHours j = s.afterHours j := rfl
@[simp] theorem afterHours_setScDev (s : State) (k : DevIx) (x : ScDevice) (j : ZoneId) : (s.setScDev k x).afterHours j = s.afterHours j := rfl
@[simp] theorem afterHours_setZoneView (s : State) (k : ZoneId) (x : ZoneView) (j : ZoneId) : (s.setZoneView k x).afterHours j = s.afterHours j := rfl
@[simp] theorem afterHours_setDoorView (s : State) (k : DoorId) (x : Option DoorView) (j : ZoneId) : (s.setDoorView k x).afterHours j = s.afterHours j := rfl
@[simp] theorem afterHours_setKey (s : State) (k : GiId) (x : Option ChannelId) (j : ZoneId) : (s.setKey k x).afterHours j = s.afterHours j := rfl
@[simp] theorem afterHours_setRoster (s : State) (k : ZoneId) (x : List RosterEntry) (j : ZoneId) : (s.setRoster k x).afterHours j = s.afterHours j := rfl
@[simp] theorem afterHours_setZoneStatus (s : State) (k : ZoneId) (x : ZoneStatus) (j : ZoneId) : (s.setZoneStatus k x).afterHours j = s.afterHours j := rfl
@[simp] theorem afterHours_setZone (s : State) (k : ZoneId) (x : ZoneEntry) (j : ZoneId) : (s.setZone k x).afterHours j = s.afterHours j := rfl
@[simp] theorem afterHours_setLone (s : State) (k : ZoneId) (x : Lone) (j : ZoneId) : (s.setLone k x).afterHours j = s.afterHours j := rfl
@[simp] theorem afterHours_setZoneTone (s : State) (k : ZoneId) (x : Tone) (j : ZoneId) : (s.setZoneTone k x).afterHours j = s.afterHours j := rfl
@[simp] theorem afterHours_setAlarmOverflow (s : State) (k : ZoneId) (x : Bool) (j : ZoneId) : (s.setAlarmOverflow k x).afterHours j = s.afterHours j := rfl
@[simp] theorem afterHours_setAlarms (s : State) (x : List AlarmRecord) (j : ZoneId) : (s.setAlarms x).afterHours j = s.afterHours j := rfl
@[simp] theorem afterHours_setLineFunction (s : State) (k : GiId) (x : LineFunction) (j : ZoneId) : (s.setLineFunction k x).afterHours j = s.afterHours j := rfl
@[simp] theorem afterHours_setCsc (s : State) (x : Csc) (j : ZoneId) : (s.setCsc x).afterHours j = s.afterHours j := rfl
@[simp] theorem afterHours_setDevice (s : State) (k : DevIx) (x : Device) (j : ZoneId) : (s.setDevice k x).afterHours j = s.afterHours j := rfl
@[simp] theorem device_drive (s : State) (d : DevIx) (o : Output) (j : DevIx) : (s.drive d o).device j = s.device j := by
  simp [State.device]
@[simp] theorem device_driveOpt (s : State) (d : Option DevIx) (o : Output) (j : DevIx) : (s.driveOpt d o).device j = s.device j := by
  simp [State.device]
@[simp] theorem device_tells (s : State) (r : EventRecord) (j : DevIx) : (s.tells r).device j = s.device j := rfl
@[simp] theorem device_setDoor (s : State) (k : DoorId) (x : Door) (j : DevIx) : (s.setDoor k x).device j = s.device j := rfl
@[simp] theorem device_setChannel (s : State) (k : ChannelId) (x : Channel) (j : DevIx) : (s.setChannel k x).device j = s.device j := rfl
@[simp] theorem device_setScDev (s : State) (k : DevIx) (x : ScDevice) (j : DevIx) : (s.setScDev k x).device j = s.device j := rfl
@[simp] theorem device_setZoneView (s : State) (k : ZoneId) (x : ZoneView) (j : DevIx) : (s.setZoneView k x).device j = s.device j := rfl
@[simp] theorem device_setDoorView (s : State) (k : DoorId) (x : Option DoorView) (j : DevIx) : (s.setDoorView k x).device j = s.device j := rfl
@[simp] theorem device_setKey (s : State) (k : GiId) (x : Option ChannelId) (j : DevIx) : (s.setKey k x).device j = s.device j := rfl
@[simp] theorem device_setRoster (s : State) (k : ZoneId) (x : List RosterEntry) (j : DevIx) : (s.setRoster k x).device j = s.device j := rfl
@[simp] theorem device_setZoneStatus (s : State) (k : ZoneId) (x : ZoneStatus) (j : DevIx) : (s.setZoneStatus k x).device j = s.device j := rfl
@[simp] theorem device_setZone (s : State) (k : ZoneId) (x : ZoneEntry) (j : DevIx) : (s.setZone k x).device j = s.device j := rfl
@[simp] theorem device_setLone (s : State) (k : ZoneId) (x : Lone) (j : DevIx) : (s.setLone k x).device j = s.device j := rfl
@[simp] theorem device_setZoneTone (s : State) (k : ZoneId) (x : Tone) (j : DevIx) : (s.setZoneTone k x).device j = s.device j := rfl
@[simp] theorem device_setAlarmOverflow (s : State) (k : ZoneId) (x : Bool) (j : DevIx) : (s.setAlarmOverflow k x).device j = s.device j := rfl
@[simp] theorem device_setAlarms (s : State) (x : List AlarmRecord) (j : DevIx) : (s.setAlarms x).device j = s.device j := rfl
@[simp] theorem device_setLineFunction (s : State) (k : GiId) (x : LineFunction) (j : DevIx) : (s.setLineFunction k x).device j = s.device j := rfl
@[simp] theorem device_setCsc (s : State) (x : Csc) (j : DevIx) : (s.setCsc x).device j = s.device j := rfl
@[simp] theorem tells_rm (s : State) (r : EventRecord) : (s.tells r).rm = s.rm := rfl
@[simp] theorem tells_fc (s : State) (r : EventRecord) : (s.tells r).fc = s.fc := rfl
@[simp] theorem tells_csu (s : State) (r : EventRecord) : (s.tells r).csu = s.csu := rfl
@[simp] theorem tells_csc (s : State) (r : EventRecord) : (s.tells r).csc = s.csc := rfl
@[simp] theorem tells_pe (s : State) (r : EventRecord) : (s.tells r).pe = s.pe := rfl
@[simp] theorem tells_dc (s : State) (r : EventRecord) : (s.tells r).dc = s.dc := rfl
@[simp] theorem tells_ru (s : State) (r : EventRecord) : (s.tells r).ru = s.ru := rfl
@[simp] theorem tells_sc (s : State) (r : EventRecord) : (s.tells r).sc = s.sc := rfl
@[simp] theorem tells_sau (s : State) (r : EventRecord) : (s.tells r).sau = s.sau := rfl
@[simp] theorem tells_pending (s : State) (r : EventRecord) : (s.tells r).pending = s.pending := rfl
@[simp] theorem tells_sp (s : State) (r : EventRecord) : (s.tells r).sp = s.sp.enqueue r := rfl

/-- R206: a posting is a record handed to the queue. -/
theorem post_tells (s : State) (k : EventKind) (door : Option DoorId) (zone : Option ZoneId) (channel : Option ChannelId)
    (subject : Option Subject) (reason : Option Nat) :
    s.post k door zone channel subject reason = s.tells (s.event k door zone channel subject reason) := rfl

/-- R32: the record depends on the clock alone. -/
theorem event_congr {s t : State} (h : s.csu = t.csu) (k : EventKind) (door : Option DoorId) (zone : Option ZoneId)
    (channel : Option ChannelId) (subject : Option Subject) (reason : Option Nat) :
    s.event k door zone channel subject reason = t.event k door zone channel subject reason := by
  simp [State.event, State.stamp, h]

end Sys2Proof.Machine
end

