-- ==== Sys2Proof/Laws/Specs.lean ====
section
/-! SUPPORT. What the shared operations do, as equations in the vocabulary of Safety.lean: each says once everything its
operation can do. -/

namespace Sys2Proof.Machine

/-! ## The event queue -/

@[simp] theorem enqueue_cursorTable (p : Sp) (r : EventRecord) : (p.enqueue r).cursorTable = p.cursorTable := by unfold Sp.enqueue; (repeat' split) <;> rfl
@[simp] theorem enqueue_cursorIndex (p : Sp) (r : EventRecord) : (p.enqueue r).cursorIndex = p.cursorIndex := by unfold Sp.enqueue; (repeat' split) <;> rfl
@[simp] theorem enqueue_replies (p : Sp) (r : EventRecord) : (p.enqueue r).replies = p.replies := by unfold Sp.enqueue; (repeat' split) <;> rfl
@[simp] theorem enqueue_forwards (p : Sp) (r : EventRecord) : (p.enqueue r).forwards = p.forwards := by unfold Sp.enqueue; (repeat' split) <;> rfl
@[simp] theorem enqueue_cause (p : Sp) (r : EventRecord) : (p.enqueue r).cause = p.cause := by unfold Sp.enqueue; (repeat' split) <;> rfl
@[simp] theorem enqueue_rx (p : Sp) (r : EventRecord) : (p.enqueue r).rx = p.rx := by unfold Sp.enqueue; (repeat' split) <;> rfl
@[simp] theorem enqueue_restartWaiting (p : Sp) (r : EventRecord) : (p.enqueue r).restartWaiting = p.restartWaiting := by unfold Sp.enqueue; (repeat' split) <;> rfl

/-- R207: the replies and the other lists of SP stand apart from the event queue. -/
theorem enqueue_with (p : Sp) (r : EventRecord) (replies : List ReplyPlace) (cursorTable : TableId) (cursorIndex : Nat)
    (forwards : List ForwardCopy) (cause : RestartCause) (rx : List Byte) (restartWaiting : Bool) :
    Sp.enqueue { p with replies, cursorTable, cursorIndex, forwards, cause, rx, restartWaiting } r =
      { p.enqueue r with replies, cursorTable, cursorIndex, forwards, cause, rx, restartWaiting } := by
  unfold Sp.enqueue; dsimp only; (repeat' split) <;> rfl

/-- R206, R207: the sequence counter moves with the transmitter, or neither moves. -/
theorem enqueue_tx_seq (p : Sp) (r : EventRecord) :
    ((p.enqueue r).tx = p.tx ∧ (p.enqueue r).seq = p.seq)
      ∨ (p.tx = .event ∧ (p.enqueue r).tx = .idle ∧ (p.enqueue r).seq = p.seq + 1) := by
  unfold Sp.enqueue
  split
  · exact .inl ⟨rfl, rfl⟩
  · split
    · exact .inl ⟨rfl, rfl⟩
    · dsimp only
      split
      · rename_i h
        refine .inr ⟨?_, rfl, rfl⟩
        cases hp : p.tx <;> simp_all [StationTx.sendsEvent]
      · exact .inl ⟨rfl, rfl⟩

/-! ## Commands -/

theorem replyFree_iff (s : State) : s.replyFree = true ↔ s.sp.replies.length < 4 := by simp [State.replyFree]

/-- R200: a command that is taken runs its body and gets its place. -/
theorem takeCommand_taken {s : State} (h : s.takesCommands) (seq : BitVec 4) (code : Byte) (body : Body) :
    s.takeCommand seq code body = (body s).1.placeReply seq code (body s).2 := by
  have h1 := (replyFree_iff s).2 h.1
  simp [State.takeCommand, h1, h.2]

/-! ## Doors -/

theorem postDoor_eq (s : State) (kind : EventKind) (d : DoorId) (subject : Option Subject) (reason : Option Nat) :
    s.postDoor kind d subject reason
      = s.tells (s.event kind (some d) (some (s.door d).entry.inner) none subject reason) := rfl

/-- R118: a sequence cancelled for a reason other than FAULT. -/
theorem cancelSequence_eq (s : State) (d : DoorId) {r : CancelReason} (h : r ≠ .fault) :
    s.cancelSequence d r = s.cancelled d r.message r.code := by
  simp [State.cancelSequence, h, State.driveBolt, State.setBolt, State.cancelled, post_tells, State.event, State.stamp,
    Door.endSequence, State.after, Bolt.output]

/-- R99, R100. -/
theorem unlockFor_eq (s : State) (d : DoorId) (p : Passage) :
    s.unlockFor d p =
      (s.setDoor d { s.door d with
        state := .unlocked, passage := some p, unlock := some (s.csu.ticks + (s.door d).entry.unlockWindow) }).driveOpt
        (s.door d).entry.unit (.unlock (s.door d).entry.unlockWindow) := by
  simp [State.unlockFor, State.after]

/-- R85: check 10 fails exactly while the zone's channel is in the lockout set. -/
theorem lockedOut_iff (s : State) (z : ZoneId) :
    s.zoneLockedOut z = true ↔ ∃ c, s.channelOf z = some c
      ∧ ((s.channel c).state = .firstAlarm ∨ (s.channel c).state = .preDischarge ∨ (s.channel c).state = .held
        ∨ (s.channel c).state = .releasing ∨ (s.channel c).state = .discharged) := by
  simp only [State.zoneLockedOut]
  split
  · rename_i c hc; simp [hc]; cases (s.channel c).state <;> simp [ChannelState.inLockoutSet]
  · rename_i hc; simp [hc]

/-! ## Rosters -/

/-- R142: only the zone named becomes UNKNOWN. -/
theorem makeUnknown_status (s : State) (z : ZoneId) (r : UnknownReason) (j : ZoneId) :
    (s.makeUnknown z r).zoneStatus j = if j = z ∧ z ≠ 0 then .unknown else s.zoneStatus j := by
  unfold State.makeUnknown; split
  · rename_i h; split
    · rename_i h2; obtain ⟨rfl, h2⟩ := h2; rcases h with h | h <;> simp_all
    · rfl
  · rename_i h; simp only [not_or] at h
    simp [State.zoneStatus, h.1]

theorem makeUnknown_rosters (s : State) (z : ZoneId) (r : UnknownReason) : (s.makeUnknown z r).ru.rosters = s.ru.rosters := by
  unfold State.makeUnknown; split <;> simp

theorem zoneNotices_status (b s : State) (z : ZoneId) : (b.zoneNotices s).zoneStatus z = s.zoneStatus z := by
  simp [State.zoneStatus]

/-! ## Time -/

/-- R46: what a recomputation of the after-hours flags leaves in CSU. -/
theorem refreshAfterHours_csu_of (s : State) (l : List ZoneId) (t : State) (h : t.csu = { s.csu with afterHours := t.csu.afterHours }) :
    let u := l.foldl (fun t z =>
      let flag := !s.csu.covers (s.zone z).staffed
      if t.afterHours z = flag then t else (t.setAfterHours z flag).loneAfterHours z flag) t
    u.csu = { s.csu with afterHours := u.csu.afterHours }
      ∧ ∀ z, u.afterHours z = if z ∈ l then !s.csu.covers (s.zone z).staffed else t.afterHours z := by
  induction l generalizing t with
  | nil => exact ⟨h, by simp⟩
  | cons x l ih =>
    simp only [List.foldl_cons]
    by_cases hx : t.afterHours x = !s.csu.covers (s.zone x).staffed
    · rw [if_pos hx]
      refine ⟨(ih t h).1, fun z => ?_⟩
      rw [(ih t h).2 z]
      by_cases hz : z ∈ l
      · simp [hz]
      · by_cases hzx : z = x
        · subst hzx; simp [hz, hx]
        · simp [hz, hzx]
    · rw [if_neg hx]
      have h' : ((t.setAfterHours x (!s.csu.covers (s.zone x).staffed)).loneAfterHours x (!s.csu.covers (s.zone x).staffed)).csu =
        { s.csu with afterHours := ((t.setAfterHours x (!s.csu.covers (s.zone x).staffed)).loneAfterHours x (!s.csu.covers (s.zone x).staffed)).csu.afterHours } := by
        simp only [loneAfterHours_csu, State.setAfterHours]; rw [h]
      refine ⟨(ih _ h').1, fun z => ?_⟩
      rw [(ih _ h').2 z]
      by_cases hz : z ∈ l
      · simp [hz]
      · by_cases hzx : z = x
        · subst hzx; simp [hz, State.afterHours, State.setAfterHours]
        · simp only [hz, if_false, List.mem_cons, hzx, or_self]
          simp [State.afterHours, State.setAfterHours, Vector.get_eq_getElem, Vector.getElem_set]
          intro e; exact absurd (Fin.ext e.symm) hzx

/-- R46: every flag tells what the clock gives now. -/
theorem refreshAfterHours_flag (s : State) (z : ZoneId) :
    s.refreshAfterHours.afterHours z = !s.csu.covers (s.zone z).staffed := by
  have h := (refreshAfterHours_csu_of s allZones s rfl).2 z
  rw [if_pos (show z ∈ allZones from List.mem_finRange z)] at h
  unfold State.refreshAfterHours; exact h

/-- R46: nothing else of CSU moves. -/
theorem refreshAfterHours_csu (s : State) :
    s.refreshAfterHours.csu = { s.csu with afterHours := s.refreshAfterHours.csu.afterHours } := by
  unfold State.refreshAfterHours; exact (refreshAfterHours_csu_of s allZones s rfl).1

/-- A fold whose steps change nothing. -/
theorem foldl_unchanged {α β : Type} (f : α → β → α) (l : List β) (a : α) (h : ∀ b ∈ l, f a b = a) : l.foldl f a = a := by
  induction l with
  | nil => rfl
  | cons x l ih => rw [List.foldl_cons, h x (by simp)]; exact ih (fun b hb => h b (by simp [hb]))

/-- R46: with every flag current, a recomputation does nothing. -/
theorem refreshAfterHours_current {s : State} (h : s.afterHoursCurrent) : s.refreshAfterHours = s := by
  unfold State.refreshAfterHours
  exact foldl_unchanged _ _ _ (fun z _ => by rw [if_pos (h z)])

/-! ## Notices -/

/-- R139: the channel of a zone is read from the channels alone. -/
theorem channelOf_congr {s t : State} (h : s.sc.channels = t.sc.channels) (z) : s.channelOf z = t.channelOf z := by
  simp [State.channelOf, State.channel, h]

/-- R97, R161: a contact at a door whose zones have no channel: the door and SC's copy of it. -/
theorem setContact_plain (s : State) (d c) (hk : (s.door d).entry.kind ≠ .noDoor) (hv : s.doorView d = (s.door d).view)
   (h1 : s.channelOf (s.door d).entry.outer = none) (h2 : s.channelOf (s.door d).entry.inner = none) :
   s.setContact d c = (s.setDoor d { s.door d with contact := c }).setDoorView d (some {outer := (s.door d).entry.outer, inner := (s.door d).entry.inner, contact := c}) := by
  simp [State.setContact, hk, State.scDoorNotice, Door.view, State.recomputeZones]
  apply foldl_unchanged
  intro z _
  split
  · rename_i h
    have e : ((s.setDoor d { s.door d with contact := c }).setDoorView d (some {outer := (s.door d).entry.outer, inner := (s.door d).entry.inner, contact := c})).channelOf z = s.channelOf z := channelOf_congr rfl z
    rw [hv] at h
    simp [Door.view, hk, DoorView.bounds] at h
    have : s.channelOf z = none := by rcases h with h | h <;> rw [← h] <;> assumption
    unfold State.recomputeZone; rw [e, this]
  · rfl

/-- Writing back what stands there changes nothing. -/
theorem lone_self (s : State) (z : ZoneId) : s.setLone z (s.lone z) = s := by
  have : s.sau.lone.set z (s.sau.lone.get z) z.isLt = s.sau.lone := by
    apply Vector.ext; intro i hi; simp [Vector.get_eq_getElem]
  simp only [State.setLone, State.lone, this]

/-- R152: a zone notice where no channel is bound and SAU's copies are current. -/
theorem giveZoneNotice_none (s : State) (z) (n : ZoneNotice) (h : s.channelOf z = none) (h1 : (s.lone z).count = n.count) (h2 : (s.lone z).sole = n.sole) :
   s.giveZoneNotice z n = s.setZoneView z { s.zoneView z with status := n.status, count := n.count } := by
  have e (x) : (s.setZoneView z x).channelOf z = none := h
  have f : State.scZoneNotice s z n.status n.count = s.setZoneView z { s.zoneView z with status := n.status, count := n.count } := by
    simp only [State.scZoneNotice, State.recomputeZone, e]
  unfold State.giveZoneNotice
  rw [f]
  generalize hx : s.setZoneView z { s.zoneView z with status := n.status, count := n.count } = t
  have hl : t.lone z = s.lone z := by rw [← hx]; rfl
  simp only [State.loneZoneNotice]
  have hm : ({ t.lone z with count := n.count, sole := n.sole } : Lone) = t.lone z := by rw [hl, ← h1, ← h2]
  rw [hm, lone_self]; simp [State.loneChanged]

/-- R152: the notices of changed zones that have no channel, SAU's copies being current, reach no sounder and post
nothing. -/
theorem zoneNotices_quiet (b s : State) (hru : ∀ z, z ≠ 0 → s.zoneNow z ≠ b.zoneNow z → s.channelOf z = none ∧ (s.lone z).count = (s.roster z).length ∧ (s.lone z).sole = soleOf (s.roster z)) :
    (b.zoneNotices s).rm = s.rm ∧ (b.zoneNotices s).sp = s.sp ∧ (b.zoneNotices s).sau = s.sau ∧ (b.zoneNotices s).sc.channels = s.sc.channels := by
  unfold State.zoneNotices
  have key : ∀ (l : List ZoneId) (t : State), (∀ z ∈ l, z ≠ 0) → t.rm = s.rm → t.sp = s.sp → t.sau = s.sau → t.sc.channels = s.sc.channels →
     let u := l.foldl (fun t z => if s.zoneNow z = b.zoneNow z then t else t.giveZoneNotice z (s.zoneNow z)) t
     u.rm = s.rm ∧ u.sp = s.sp ∧ u.sau = s.sau ∧ u.sc.channels = s.sc.channels := by
    intro l
    induction l with
    | nil => intro t _ h1 h2 h3 h4; exact ⟨h1, h2, h3, h4⟩
    | cons z l ih =>
      intro t hl h1 h2 h3 h4
      simp only [List.foldl_cons]
      split
      · exact ih t (fun z hz => hl z (by simp [hz])) h1 h2 h3 h4
      · rename_i hne
        obtain ⟨a, c, d⟩ := hru z (hl z (by simp)) hne
        have : t.giveZoneNotice z (s.zoneNow z) = t.setZoneView z { t.zoneView z with status := (s.zoneNow z).status, count := (s.zoneNow z).count } := by
          apply giveZoneNotice_none
          · rw [channelOf_congr h4]; exact a
          · simp [State.zoneNow, ← c, State.lone, h3]
          · simp [State.zoneNow, ← d, State.lone, h3]
        rw [this]
        exact ih _ (fun z hz => hl z (by simp [hz])) h1 h2 h3 h4
  exact key _ _ (by intro z hz; simp [trackedZones] at hz; exact hz.2) rfl rfl rfl rfl

/-- R142. -/
theorem makeUnknown_eq (s : State) (z : ZoneId) (r : UnknownReason) : s.makeUnknown z r =
  if z ≠ 0 ∧ s.zoneStatus z = .known then (s.setZoneStatus z .unknown).tells (s.event .zoneUnknown (zone := some z) (reason := some r.code)) else s := by
  unfold State.makeUnknown
  by_cases h : z = 0
  · simp [h]
  · cases h2 : s.zoneStatus z <;> simp [h, post_tells, State.event, State.stamp]

/-! ## The store -/

/-- R66, Table 3-2: a credential write ends and no RESTART waits for it. -/
theorem endWrite_eq {s : State} (w : WriteRecord) (e : WriteEnd) (h : s.sp.restartWaiting = false) :
    s.endWrite w e =
      match e with
      | .success =>
        (s.writeOver (if w.clamped then 0x01 else 0x00)).tells
          (s.event .credChanged (subject := some (.credential w.number)) (reason := some w.op.code))
      | .noSlot => s.writeOver (if w.op = WriteOp.put then 0x07 else 0x06)
      | .fault r =>
        (s.writeOver 0x09).tells
          (s.event .storeFault (subject := some (.credential w.number)) (reason := some r.code)) := by
  have h1 : ∀ r, List.map (ReplyPlace.complete .write r []) s.sp.replies = s.sp.replies.map (fun p => match p.body with
      | .reserved .write c => { p with body := .ready [c, BitVec.ofNat 8 r.code] }
      | .reserved .look _ | .reserved .restart _ | .ready _ | .sending _ => p) := by
    intro r; apply List.map_congr_left; intro p _; unfold ReplyPlace.complete
    rcases hp : p.body with ⟨o, c⟩ | _ | _ <;> simp
    cases o <;> simp [replyPayload]
  cases e <;> simp [State.endWrite, State.setCsc, State.completeReply, h1, State.postWriteEnd, State.testRestart, h,
    WriteEnd.reply, State.writeOver, Csc.handOn, State.postStoreFault, State.post, State.tells, State.event, State.stamp]
  all_goals
    cases s.csc.queue <;> cases hc : w.clamped <;> cases ho : w.op <;> simp [ReplyCode.code, WriteOp.code] <;>
      first | rfl | (intro p _; rfl) | skip

/-! ## Tones -/

/-- R177, R195: a tone for which no SOUNDER has a fitting role. -/
theorem toneTo_none {s : State} {p : DevRole → Bool} (h : ∀ d, p (s.device d).role = false) (t : Tone) : s.toneTo p t = s := by
  unfold State.toneTo; exact foldl_unchanged _ _ _ (fun d _ => by simp [h d])

/-- R177, R195: a tone goes to each device of a fitting role, in ascending address order. -/
theorem toneTo_eq (s : State) (p : DevRole → Bool) (t : Tone) :
    s.toneTo p t = s.toned (allDevices63.filter (fun d => p (s.device d).role)) t := by
  have key : ∀ (l : List DevIx) (u : State), u.fc = s.fc →
      l.foldl (fun v d => if p (v.device d).role then v.drive d (.tone t) else v) u
        = (l.filter (fun d => p (s.device d).role)).foldl (fun v d => v.drive d (.tone t)) u := by
    intro l
    induction l with
    | nil => intro u _; rfl
    | cons d l ih =>
      intro u hu
      have e : u.device d = s.device d := by simp only [State.device, hu]
      by_cases h : p (s.device d).role = true
      · simp only [List.foldl_cons, List.filter_cons, e, h, if_true]
        exact ih _ (by simp [hu])
      · simp only [List.foldl_cons, List.filter_cons, e, h]
        exact ih _ hu
  exact key _ s rfl

/-- R177: a channel's tone goes to its SOUNDERs. -/
theorem sendTone_eq (s : State) (c : ChannelId) (t : Tone) : s.sendTone c t = s.toned (s.sounders c) t := by
  rw [State.sendTone, toneTo_eq]
  congr 1
  unfold State.sounders
  refine List.filter_congr fun d _ => ?_
  unfold DevRole.soundsFor
  cases (s.channel c).zone <;> rfl

/-- R195: SAU's tone. -/
theorem sauTone_eq (s : State) (z : ZoneId) (t : Tone) : s.sauTone z t = s.zoneToned z t := by
  unfold State.sauTone State.zoneToned; rw [toneTo_eq]

/-- A frame that a tone originates moves only RM and what RM tells. -/
theorem toned_with (s : State) (l : List DevIx) (t : Tone) (sc : Sc) (sau : Sau) :
    State.toned { s with sc, sau } l t = { s.toned l t with sc, sau } := by
  unfold State.toned
  induction l generalizing s with
  | nil => rfl
  | cons d l ih =>
    simp only [List.foldl_cons]
    have h := drive_with s d (.tone t) s.pending s.csc s.pe s.dc s.ru sc sau
    rw [show State.drive { s with sc := sc, sau := sau } d (.tone t) = { s.drive d (.tone t) with sc, sau } by rw [h]; simp]
    exact ih _

@[simp] theorem toned_sc (s : State) (l : List DevIx) (t : Tone) : (s.toned l t).sc = s.sc :=
  (congrArg State.sc (toned_with s l t s.sc s.sau)).trans rfl
@[simp] theorem toned_sau (s : State) (l : List DevIx) (t : Tone) : (s.toned l t).sau = s.sau :=
  (congrArg State.sau (toned_with s l t s.sc s.sau)).trans rfl

@[simp] theorem toned_fc (s : State) (l : List DevIx) (t : Tone) : (s.toned l t).fc = s.fc := by
  unfold State.toned
  induction l generalizing s with
  | nil => rfl
  | cons d l ih => rw [List.foldl_cons, ih]; simp

@[simp] theorem toned_csu (s : State) (l : List DevIx) (t : Tone) : (s.toned l t).csu = s.csu := by
  unfold State.toned
  induction l generalizing s with
  | nil => rfl
  | cons d l ih => rw [List.foldl_cons, ih]; simp

@[simp] theorem zoneToned_csu (s : State) (z : ZoneId) (t : Tone) : (s.zoneToned z t).csu = s.csu := by
  unfold State.zoneToned; split <;> simp

@[simp] theorem zoneToned_sc (s : State) (z : ZoneId) (t : Tone) : (s.zoneToned z t).sc = s.sc := by
  unfold State.zoneToned; split <;> simp

@[simp] theorem patternTold_csu (s : State) (c : ChannelId) (t : Tone) : (s.patternTold c t).csu = s.csu := by
  unfold State.patternTold; dsimp only; split
  · split <;> simp [State.setChannel]
  · simp [State.setChannel]

/-- R177: of SC a change of pattern moves only the refresh of the channel. -/
theorem patternTold_sc (s : State) (c : ChannelId) (t : Tone) :
    (s.patternTold c t).sc =
      (s.setChannel c { s.channel c with refresh := if t = .off then none else some (s.csu.ticks + 30) }).sc := by
  unfold State.patternTold; dsimp only; split
  · split <;> simp
  · simp

theorem patternTold_zone (s : State) (c : ChannelId) (t : Tone) : ((s.patternTold c t).channel c).zone = (s.channel c).zone := by
  rw [show (s.patternTold c t).channel c = (s.patternTold c t).sc.channels.get c from rfl, patternTold_sc]
  exact (congrArg Channel.zone (channel_setChannel_self s c _)).trans rfl

/-- R177: a channel's change of pattern. -/
theorem changeTone_eq {s : State} {c : ChannelId} {old : Tone} (h : (s.channel c).state.tone ≠ old) :
    s.changeTone c old = s.patternTold c (s.channel c).state.tone := by
  have e : s.restartRefresh c (s.channel c).state.tone = s.setChannel c
      { s.channel c with refresh := if (s.channel c).state.tone = .off then none else some (s.csu.ticks + 30) } := by
    simp only [State.restartRefresh, State.after]
  have f (x : Timer) : State.sounders (s.setChannel c { s.channel c with refresh := x }) c = s.sounders c := by
    unfold State.sounders; rw [channel_setChannel_self]; rfl
  simp only [State.changeTone, if_neg h, e, sendTone_eq, f, State.patternTold, State.notifyTone, State.toneNotice, sauTone_eq]
  generalize hu : State.toned (s.setChannel c { s.channel c with
    refresh := if (s.channel c).state.tone = .off then none else some (s.csu.ticks + 30) }) (s.sounders c)
      (s.channel c).state.tone = u
  have h1 : (u.channel c).zone = (s.channel c).zone := by
    rw [← hu]; unfold State.channel; rw [toned_sc]; simp [State.setChannel, Vector.get_eq_getElem]
  have h2 (z) : u.lone z = s.lone z := by rw [← hu]; unfold State.lone; rw [toned_sau]; rfl
  have h3 : u.sau = s.sau := by rw [← hu, toned_sau]; rfl
  rw [h1]
  cases (s.channel c).zone with
  | none => simp [State.toneTold]
  | some z =>
    have h4 : (u.setZoneTone z (s.channel c).state.tone).lone z = s.lone z := by rw [← h2 z]; rfl
    simp only [h4]
    simp only [State.toneTold, State.setZoneTone, h3]

/-- R173, R174: a channel that has become silent. -/
theorem toneOff_eq (s : State) (c : ChannelId) (old : ChannelState) (h : (s.channel c).state.tone = .off) :
    s.toneOff c old.tone = s.silenced c old := by
  cases old <;> first
    | exact (if_pos rfl).trans (sendTone_eq s c .off)
    | exact (if_neg (by decide)).trans ((changeTone_eq (by rw [h]; decide)).trans (by rw [h]; rfl))

/-- 11.6: a hold-cause set is coded as its bits. -/
theorem code_eq_bits (h : HoldSet) : h.code = h.bits := by
  obtain ⟨a, b, c, d, e⟩ := h; revert a b c d e; decide

/-- R171: the causes that join, coded one by one. -/
theorem joining_codes (new old : HoldSet) : (new.joining old).map HoldSet.code = new.joined old := by
  obtain ⟨a, b, c, d, e⟩ := new; obtain ⟨f, g, h, i, j⟩ := old
  revert a b c d e f g h i j; decide

/-- R171: HOLD_AFTER_RELEASE for each cause that joins. -/
theorem postJoining_eq (s : State) (c : ChannelId) (new old : HoldSet) :
    s.postJoining c new old = ((new.joined old).map (fun n => s.event .holdAfterRelease (zone := (s.channel c).zone)
      (channel := some c) (reason := some n))).foldl State.tells s := by
  rw [← joining_codes]; unfold State.postJoining; rw [List.map_map, List.foldl_map]
  have step : ∀ (l : List HoldSet) (u : State), u.csu = s.csu → u.sc = s.sc →
      l.foldl (fun s h => s.postSc .holdAfterRelease c (some h.code)) u =
        l.foldl (fun v h => v.tells (s.event .holdAfterRelease (zone := (s.channel c).zone) (channel := some c)
          (reason := some h.code))) u := by
    intro l
    induction l with
    | nil => intro u _ _; rfl
    | cons h l ih =>
      intro u h1 h2
      have e : u.postSc .holdAfterRelease c (some h.code) = u.tells (s.event .holdAfterRelease (zone := (s.channel c).zone)
          (channel := some c) (reason := some h.code)) := by
        simp [State.postSc, post_tells, State.event, State.stamp, State.channel, h1, h2]
      simp only [List.foldl_cons, e]
      exact ih _ (by rw [← h1]; rfl) (by rw [← h2]; rfl)
  exact step _ s rfl rfl

/-- R165: a countdown starts from NORMAL or FIRST_ALARM, and DC is told by a channel that was NORMAL. -/
theorem startCountdown_eq (s : State) (c : ChannelId) (h : (s.channel c).state = .normal ∨ (s.channel c).state = .firstAlarm) :
    s.startCountdown c =
      if (s.channel c).state = .normal then (s.countdownStarted c).lockoutSetEntered c else s.countdownStarted c := by
  have ho : (s.channel c).state.tone = .off := by rcases h with h | h <;> rw [h] <;> rfl
  have e (x : Channel) (r : EventRecord) (hx : x.state.tone ≠ .off) :
      State.changeTone ((s.setChannel c x).tells r) c .off = ((s.setChannel c x).tells r).patternTold c x.state.tone := by
    have h1 : ((s.setChannel c x).tells r).channel c = x := channel_setChannel_self s c x
    rw [changeTone_eq (by rw [h1]; exact hx), h1]
  have z (u : State) : u.notifyLockout c = u.lockoutSetEntered c := rfl
  simp only [State.startCountdown, ho, State.postSc, post_tells, z, State.countdownStarted, Channel.countingDown, State.countdownTold,
    code_eq_bits]
  cases hh : (s.channel c).hold.isEmpty
  all_goals
    simp only [Bool.not_false, Bool.not_true, if_true, channel_setChannel_self]
    simp only [Bool.false_eq_true, if_false]
    rw [e _ _ (by simp [ChannelState.tone])]
    rfl

theorem isEmpty_iff (h : HoldSet) : h.isEmpty = true ↔ h = .empty := by
  obtain ⟨a, b, c, d, e⟩ := h; revert a b c d e; decide

/-- R166: a set that is no longer empty stops the countdown. -/
theorem recompute_hold (s : State) (c : ChannelId) (h : (s.channel c).state = .preDischarge) (hh : s.holdCauses c ≠ .empty) :
    s.recompute c = s.countdownHeld c (s.holdCauses c) := by
  have h1 : (s.holdCauses c).isEmpty = false := by
    cases e : (s.holdCauses c).isEmpty with
    | true => exact absurd ((isEmpty_iff _).1 e) hh
    | false => rfl
  simp only [State.recompute, h, h1, State.holdCountdown, channel_setChannel_self, setChannel_setChannel, Bool.false_eq_true,
    if_false]
  rw [changeTone_eq (by rw [channel_setChannel_self]; simp [ChannelState.tone]), channel_setChannel_self]
  simp only [State.countdownHeld, State.postSc, post_tells, patternTold_zone, channel_setChannel_self, code_eq_bits]
  simp [State.event, State.stamp, ChannelState.tone]

/-- R167: the end of the last cause lets it go on. -/
theorem recompute_resume (s : State) (c : ChannelId) (h : (s.channel c).state = .held) (hh : s.holdCauses c = .empty) :
    s.recompute c = s.countdownResumed c := by
  simp only [State.recompute, h, hh, (isEmpty_iff _).2 rfl, State.resumeCountdown, channel_setChannel_self, setChannel_setChannel,
    if_true]
  rw [changeTone_eq (by rw [channel_setChannel_self]; simp [ChannelState.tone]), channel_setChannel_self]
  simp only [State.countdownResumed, State.postSc, post_tells, patternTold_zone, channel_setChannel_self]
  simp [State.event, State.stamp, ChannelState.tone, resumeReason, paired]

/-! ## The store cycle and the station intake -/

/-- R50: every slot of every bucket lies whole within the 131072 bytes of the store. -/
theorem slotAddress_bound {b k : Nat} (hb : b < 2048) (hk : k < 4) : slotAddress b k + 15 < 131072 := by
  unfold slotAddress; omega

/-- R50: two slots of the store share no byte address. -/
theorem slotAddress_apart {b c j k : Nat} (hj : j < 4) (hk : k < 4) (h : (b, j) ≠ (c, k)) :
    slotAddress b j + 16 ≤ slotAddress c k ∨ slotAddress c k + 16 ≤ slotAddress b j := by
  unfold slotAddress
  have : b ≠ c ∨ j ≠ k := by
    by_cases e : b = c
    · exact .inr fun f => h (by rw [e, f])
    · exact .inl e
  omega

/-- R51: a port that no started write holds is handed on. -/
theorem handOn_eq {c : Csc} (h : ∀ w, c.write = some w → w.stage = .waiting) : c.handOn = c.freed c.cache c.queue := by
  obtain ⟨cache, queue, write, port, look⟩ := c
  cases write with
  | some w =>
    have hw : w.stage = .waiting := h w rfl
    simp [Csc.handOn, Csc.freed, Csc.startWrite, hw, homeBucket]
  | none => cases queue <;> simp [Csc.handOn, Csc.freed]

/-- R51: a fetch reads the bucket of the request at the head of the queue. -/
theorem cycle_fetch {c : Csc} {r : FetchRequest} {q : List FetchRequest} (hp : c.port = .fetch) (hq : c.queue = r :: q) :
    c.cycle = some (.bucketRead (bucketAddresses r.bucket)) := by
  simp [Csc.cycle, hp, hq]

/-- R51, R62 to R65: while a credential write holds the port, its stage says which cycle runs. -/
theorem cycle_write {c : Csc} {w : WriteRecord} (hp : c.port = .write) (hw : c.write = some w) : c.cycle = w.cycle := by
  simp [Csc.cycle, hp, hw]

/-- R198: of the valid frames that come before SP has taken any, the first two wait for it and every further one is discarded. -/
theorem offerFrames_intake (s : State) (f g : Frame) (l : List Frame) (h : s.intakeEmpty) :
    ((f :: g :: l).foldl State.offerFrame s).sp.intake = [f, g] := by
  have full : ∀ (l : List Frame) (t : State), t.sp.intake = [f, g] → (l.foldl State.offerFrame t).sp.intake = [f, g] := by
    intro l
    induction l with
    | nil => intro t ht; exact ht
    | cons x l ih =>
      intro t ht
      exact ih _ (by simp [State.offerFrame, ht])
  exact full l _ (by have h' : s.sp.intake = [] := h; simp [State.offerFrame, State.setIntake, h'])

end Sys2Proof.Machine
end

