-- ==== Sys2Proof/Tests/Slice0.lean ====
section
/-! SUPPORT. Tests: ill-formed commands that WellFormed refuses, values of the spec's tables and worked examples, one small run
per command, and for every statement with hypotheses states and operands that meet them (`meets_<statement>`), clause by
clause. -/

namespace Sys2Proof.Tests

open Sys2Proof Sys2Proof.Machine

-- One theorem at a time: `decide +kernel` waits for the kernel, and each waiting theorem holds a thread's stack.
set_option Elab.async false

/-! ## Helpers -/

/-- The state a command leaves. -/
def run (c : Instr) (s : State) : State :=
  match exec c s with
  | .next t => t
  | .fault f => nomatch f
  | .refused _ => s

def rmSt (f : Rm → Rm) : State := { State.reset with rm := f State.reset.rm }
def csuSt (f : Csu → Csu) : State := { State.reset with csu := f State.reset.csu }
def cscSt (f : Csc → Csc) : State := { State.reset with csc := f State.reset.csc }
def spSt (f : Sp → Sp) : State := { State.reset with sp := f State.reset.sp }
def sauSt (f : Sau → Sau) : State := { State.reset with sau := f State.reset.sau }
def devSt (d : DevIx) (f : Device → Device) : State := State.reset.setDevice d (f Device.powerOn)
def doorSt (d : DoorId) (f : Door → Door) : State := State.reset.setDoor d (f Door.powerOn)
def chanSt (c : ChannelId) (f : Channel → Channel) : State := State.reset.setChannel c (f Channel.powerOn)

/-- The lone-worker timer of zone 11. -/
def loneSt (f : Lone → Lone) : State := State.reset.setLone 11 (f Lone.powerOn)

/-- A plain door between the zones 1 and 2 with its reader, exit reader and unit at 1, 2 and 3. -/
def plainEntry : DoorEntry :=
  { DoorEntry.powerOn with
    kind := .plain, outer := 1, inner := 2, entryReader := some 0, exitReader := some 1, unit := some 2 }

/-- A strongroom door, likewise. -/
def strongEntry : DoorEntry := { plainEntry with kind := .strongroom }

def plainSt (f : Door → Door) : State := doorSt 0 (fun x => f { x with entry := plainEntry })
def strongSt (f : Door → Door) : State := doorSt 0 (fun x => f { x with entry := strongEntry, state := .secured })

/-- A reply place that is ready. -/
def readyPlace : ReplyPlace := { seq := 1, body := .ready [0x3E, 0] }

/-- An event record of a kind, with no fields. -/
def eventOf (k : EventKind) : EventRecord := { EventRecord.powerOn with kind := k }

/-- A queued LOCK toward address 5. -/
def lockEntry : LoopEntry :=
  { frame := { dst := 5, src := 0, kind := 0x10, seqByte := 0, payload := [2] }, origin := .originated }

/-- A forwarded frame in the queue. -/
def forwardedEntry : LoopEntry :=
  { frame := { dst := 5, src := 0x40, kind := 0x30, seqByte := 0, payload := [] }, origin := .forwarded }

/-! ## WellFormed: each check refuses an ill-formed command -/

theorem test_wf_ms : (Instr.loopFrameReceived .endA 1000 []).wellFormed = false := by decide
theorem test_wf_loopBoundDst : (Instr.loopBoundStationFrame 0 0x40 0x30 []).wellFormed = false := by decide
theorem test_wf_loopBoundLength : (Instr.loopBoundStationFrame 0 0x7F 0x30 (List.replicate 41 0)).wellFormed = false := by
  decide
theorem test_wf_tableWrite : (Instr.tableWrite 0 (List.replicate 40 0)).wellFormed = false := by decide
theorem test_wf_credPut : (Instr.credPut 0 (List.replicate 14 0)).wellFormed = false := by decide
theorem test_wf_bucketCount : (Instr.bucketReadComplete []).wellFormed = false := by decide
theorem test_wf_bucketSlot : (Instr.bucketReadComplete (List.replicate 4 [])).wellFormed = false := by decide
theorem test_wf_readBack : (Instr.readBackComplete []).wellFormed = false := by decide
theorem test_wf_lenOver40 : (Instr.stationLenOver40 40).wellFormed = false := by decide
theorem test_wf_levelLine : (Instr.levelLineChange (.manualRelease 0) true).wellFormed = false := by decide
theorem test_wf_settleLine : (Instr.settleTimerExpiry (.manualRelease 0)).wellFormed = false := by decide
theorem test_wf_pulseLine : (Instr.pulseLineChange (.abort 0) true).wellFormed = false := by decide
theorem test_wf_pressLine : (Instr.pressTimerExpiry (.valveConfirm 0)).wellFormed = false := by decide
theorem test_wf_recoveryLine : (Instr.recoveryTimerExpiry (.abort 0)).wellFormed = false := by decide
theorem test_wf_intervalZone : (Instr.intervalTimerExpiry 0).wellFormed = false := by decide
theorem test_wf_promptZone : (Instr.promptRepeat 0).wellFormed = false := by decide
theorem test_wf_graceZone : (Instr.graceTimerExpiry 0).wellFormed = false := by decide

/-! ## Statements on the machine and on time: their hypotheses are met -/

theorem meets_StepRunsFrontCommand :
    ({ State.reset with pending := [.clockAdvance] } : State).pending = Instr.clockAdvance :: []
      ∧ State.reset.pending = [] := by decide

theorem meets_LoopTransmitterTakes :
    ((rmSt fun r => { r with tx := .entry .endA }).rm.tx ≠ .idle)
    ∧ ((rmSt fun r => { r with sweepWaiting := true }).rm.tx = .idle
      ∧ (rmSt fun r => { r with sweepWaiting := true }).rm.sweepWaiting = true)
    ∧ (State.reset.rm.tx = .idle ∧ State.reset.rm.sweepWaiting = false ∧ State.reset.rm.queue = [])
    ∧ (∀ ring : RingState,
      (rmSt fun r => { r with ring, queue := [lockEntry] }).rm.tx = .idle
        ∧ (rmSt fun r => { r with ring, queue := [lockEntry] }).rm.sweepWaiting = false
        ∧ (rmSt fun r => { r with ring, queue := [lockEntry] }).rm.queue = lockEntry :: [])
    ∧ lockEntry.frame.dst.toNat = (4 : DevIx).val + 1
    ∧ (rmSt fun r => { r with ring := .closed, queue := [lockEntry] }).rm.ring = .closed
    ∧ ((rmSt fun r => { r with queue := [lockEntry] }).rm.ring ≠ .closed
      ∧ ((rmSt fun r => { r with queue := [lockEntry] }).device 4).reach = none)
    ∧ (∀ e : LoopEnd, (((rmSt fun r => { r with queue := [lockEntry] }).setDevice 4
        { Device.powerOn with reach := some e }).device 4).reach = some e)
    ∧ (rmSt fun r => { r with tx := .sweep 255 9 true }).rm.tx = .sweep 255 9 true
    ∧ ((rmSt fun r => { r with tx := .entry .both, queue := [lockEntry] }).rm.tx = .entry .both
      ∧ (rmSt fun r => { r with tx := .entry .both, queue := [lockEntry] }).rm.queue = lockEntry :: []) := by
  refine ⟨by decide, by decide, by decide, fun ring => by cases ring <;> decide, by decide, by decide, by decide,
    fun e => by cases e <;> decide +kernel, rfl, rfl, rfl⟩

/-- A forwarded copy. -/
def oneCopy : ForwardCopy := { frame := lockEntry.frame, arrival := .endA }

/-- No place of the list is ready. -/
theorem nothing_ready : ∀ p ∈ State.reset.sp.replies, ∀ q, p.body ≠ .ready q := by simp [State.reset]

theorem meets_StationTransmitterResult :
    ((spSt fun p => { p with tx := .reply }).sp.tx ≠ .idle)
    ∧ ((spSt fun p => { p with tx := .idle, replies := [readyPlace] }).sp.tx = .idle
      ∧ (spSt fun p => { p with tx := .idle, replies := [readyPlace] }).sp.replies
        = [] ++ { seq := 1, body := .ready [0x3E, 0] } :: [])
    ∧ ((spSt fun p => { p with tx := .idle }).sp.tx = .idle ∧ State.reset.sp.events = EventRecord.powerOn :: [])
    ∧ ((spSt fun p => { p with tx := .event }).sp.tx = .event
      ∧ (spSt fun p => { p with tx := .event }).sp.events = EventRecord.powerOn :: [])
    ∧ ((spSt fun p => { p with tx := .forward, forwards := [oneCopy] }).sp.tx = .forward
      ∧ (spSt fun p => { p with tx := .forward, forwards := [oneCopy] }).sp.forwards = oneCopy :: [])
    ∧ ((spSt fun p => { p with tx := .reply, replies := [{ seq := 1, body := .sending [0x3E, 0] }] }).sp.tx = .reply
      ∧ (spSt fun p => { p with tx := .reply, replies := [{ seq := 1, body := .sending [0x3E, 0] }] }).sp.replies
        = [] ++ { seq := 1, body := .sending [0x3E, 0] } :: [])
    ∧ State.reset.sp.events.length < 64
    ∧ (64 ≤ (List.replicate 64 (eventOf .ringSplit)).length ∧ EventKind.ringSplit.cls = .alarm
      ∧ ∀ y ∈ List.replicate 64 (eventOf .ringSplit), y.kind.cls = .alarm)
    ∧ EventKind.grant.cls = .routine := by decide +kernel

theorem meets_TransmittersStayAtWork :
    State.reset.loopAtWork ∧ step { State.reset with pending := [.clockAdvance] }
        = .next (run .clockAdvance State.reset)
      ∧ exec .clockAdvance State.reset = .next (run .clockAdvance State.reset) := by
  exact ⟨by simp [State.loopAtWork, State.reset], rfl, rfl⟩

theorem meets_UptimeAndTimebaseResult :
    exec (.powerOnReset true) State.reset = .next (run (.powerOnReset true) State.reset)
      ∧ exec .clockAdvance (csuSt fun c => { c with ticks := 4294967295 })
        = .next (run .clockAdvance (csuSt fun c => { c with ticks := 4294967295 }))
      ∧ exec .loopFrameSent State.reset = .next (run .loopFrameSent State.reset)
      ∧ State.reset.csu.timebase = .normal
      ∧ ((csuSt fun c => { c with timebase := .degraded, crystalWatch := some 0 }).csu.timebase = .degraded
        ∧ (csuSt fun c => { c with timebase := .degraded, crystalWatch := some 0 }).due (some 0) = true) := by
  exact ⟨rfl, rfl, rfl, by decide⟩

/-- The last second of a day. -/
def midnight (day : Nat) : State := csuSt fun c => { c with clock := .set, day, second := 86399 }

theorem meets_ClockAdvanceResult :
    State.reset.csu.clock = .unset
      ∧ ((csuSt fun c => { c with clock := .set, second := 86398 }).csu.clock = .set
        ∧ (csuSt fun c => { c with clock := .set, second := 86398 }).csu.second + 1 < 86400)
      ∧ ((midnight 65534).csu.second + 1 = 86400 ∧ (midnight 65534).csu.day < 65535)
      ∧ ((midnight 65535).csu.clock = .set ∧ (midnight 65535).csu.second + 1 = 86400 ∧ (midnight 65535).csu.day = 65535
        ∧ ∀ z, ((midnight 65535).zone z).staffed = 0 ∧ (midnight 65535).afterHours z = false) := by decide

theorem meets_ClockCommandsResult :
    State.reset.takesCommands ∧ (State.reset.csu.holidays.Pairwise (· < ·))
      ∧ (7 ∈ (csuSt fun c => { c with holidays := [7] }).csu.holidays)
      ∧ (7 ∉ (csuSt fun c => { c with holidays := List.range' 8 32 }).csu.holidays
        ∧ 32 ≤ (csuSt fun c => { c with holidays := List.range' 8 32 }).csu.holidays.length
        ∧ (csuSt fun c => { c with holidays := List.range' 8 32 }).csu.holidays.Pairwise (· < ·))
      ∧ (7 ∉ State.reset.csu.holidays ∧ State.reset.csu.holidays.length < 32)
      ∧ ((csuSt fun c => { c with holidays := [5, 7, 9] }).csu.holidays = [5] ++ 7 :: [9] ∧ 7 ∉ [5] ∧ 7 ∉ [9]) := by
  refine ⟨⟨by decide, rfl⟩, by decide, by decide, by decide, by decide, by decide⟩

/-- One slot of a weekday schedule, from minute 1320 for 480 minutes. -/
def nightSlot : SchedSlot := { mask := 0x1F, start := 1320, length := 480 }

/-- Schedule 1 with the night slot, on a day and second. -/
def nightSt (day weekday second : Nat) : State := csuSt fun c =>
  { c with
    clock := .set, day, weekday, second
    schedules := c.schedules.set 1 (Vector.replicate 4 (some nightSlot)) }

theorem meets_ScheduleCoverAndBudget :
    ((0 : Nat) ∈ (csuSt fun c => { c with holidays := [0, 65535] }).csu.holidays
      ∧ (1 : Nat) ∉ (csuSt fun c => { c with holidays := [0, 65535] }).csu.holidays) ∧
    (((nightSt 10 0 79200).csu.schedules.get 1).get 0 = some nightSlot ∧ nightSlot.start ≤ 1439 ∧ nightSlot.length ≤ 1440)
      ∧ ((1 : SchedId) ≠ 0 ∧ (nightSt 10 0 79200).csu.clock = .set ∧ State.reset.csu.clock = .unset)
      ∧ (nightSt 10 0 79200).csu.remainder 1 = .bounded 28800
      ∧ ((300 : Nat) ≤ 300 ∧ (300 : Nat) < 301) := by decide

/-! ## Statements on the loop -/

theorem meets_LoopFrameDiscarded :
    (State.reset.rm.pendingSweep = none
      ∧ loopReceive (Frame.wire { dst := 0, src := 0, kind := 0x11, seqByte := 0, payload := [5] })
        = some { dst := 0, src := 0, kind := 0x11, seqByte := 0, payload := [5] })
      ∧ (State.reset.csu.ms ≤ 999 ∧ (999 : Nat) < 1000)
      ∧ loopReceive [] = none
      ∧ (loopReceive (Frame.wire { dst := 0, src := 0, kind := 0x30, seqByte := 0, payload := [] })
        = some { dst := 0, src := 0, kind := 0x30, seqByte := 0, payload := [] })
      ∧ (loopReceive (Frame.wire { dst := 0, src := 64, kind := 0x30, seqByte := 0, payload := [] })
        = some { dst := 0, src := 64, kind := 0x30, seqByte := 0, payload := [] })
      ∧ (loopReceive (Frame.wire { dst := 0x40, src := 63, kind := 0x30, seqByte := 0, payload := [] })
        = some { dst := 0x40, src := 63, kind := 0x30, seqByte := 0, payload := [] })
      ∧ (63 : Byte).toNat = (62 : DevIx).val + 1 ∧ (State.reset.device 62).role = .noDevice
      ∧ (((devSt 62 fun d => { d with role := .other, lastSeq := some 0 }).device 62).role ≠ .noDevice
        ∧ ((devSt 62 fun d => { d with role := .other, lastSeq := some 0 }).device 62).lastSeq
          = some ((0 : Byte).setWidth 4)
        ∧ (devSt 62 fun d => { d with role := .other, lastSeq := some 0 }).acceptedLately
          ((devSt 62 fun d => { d with role := .other, lastSeq := some 0 }).device 62) 999) := by
  unfold State.acceptedLately; decide +kernel

theorem meets_LoopFrameAccepted :
    ((devSt 0 fun d => { d with role := .display, lastSeq := some 0 }).device 0).role ≠ .noDevice
      ∧ ((devSt 0 fun d => { d with role := .display, lastSeq := some 0 }).device 0).presence ≠ .missing
      ∧ (devSt 0 fun d => { d with role := .display, lastSeq := some 0 }).csu.ms ≤ 0
      ∧ loopReceive (Frame.wire { dst := 0, src := 1, kind := 0x30, seqByte := 1, payload := [7] })
        = some { dst := 0, src := 1, kind := 0x30, seqByte := 1, payload := [7] }
      ∧ (1 : Byte).toNat = (0 : DevIx).val + 1
      ∧ (((devSt 0 fun d => { d with role := .display, lastSeq := some 0 }).device 0).lastSeq
          ≠ some ((1 : Byte).setWidth 4))
      ∧ ¬ (csuSt fun c => { c with ticks := 2 }).acceptedLately
        ((devSt 0 fun d => { d with role := .display, lastSeq := some 1 }).device 0) 0 := by
  unfold State.acceptedLately; decide +kernel

theorem meets_RingMonitorResult :
    ((rmSt fun r => { r with tx := .entry .endA, queue := [lockEntry] }).rm.tx = .entry .endA
      ∧ (rmSt fun r => { r with tx := .entry .endA, queue := [lockEntry] }).rm.queue = lockEntry :: [])
    ∧ (rmSt fun r => { r with tx := .sweep 7 9 true }).rm.tx = .sweep 7 9 true
    ∧ (rmSt fun r => { r with tx := .sweep 7 9 false }).rm.tx = .sweep 7 9 false
    ∧ State.reset.rm.tx = .idle
    ∧ ((rmSt fun r => { r with sweepTimer := some 0 }).rm.sweepTimer = some 0
      ∧ 0 ≤ (rmSt fun r => { r with sweepTimer := some 0 }).csu.ticks)
    ∧ (State.reset.rm.sweepTimer = some 2 ∧ State.reset.csu.ticks < 2)
    ∧ (rmSt fun r => { r with pendingSweep := some 0xFF }).rm.pendingSweep = some 0xFF
    ∧ State.reset.rm.pendingSweep = none
    ∧ ((rmSt fun r => { r with silence := some 0 }).rm.silence = some 0
      ∧ 0 ≤ (rmSt fun r => { r with silence := some 0 }).csu.ticks)
    ∧ (∀ n, State.reset.rm.silence = some n → State.reset.csu.ticks < n) := by
  refine ⟨by decide, by decide, by decide, by decide, by decide, by decide, by decide, by decide, by decide, ?_⟩
  intro n h
  have : n = 10 := by simpa [State.reset] using h.symm
  subst this; decide

/-- A device of a role, supervised and not heard for 30 s. -/
def lost (role : DevRole) : State :=
  (csuSt fun c => { c with ticks := 30 }).setDevice 4 { Device.powerOn with role, supervised := true }

/-- `lost` for the unit of door 0, which is `x`, SC having been told so. -/
def lostUnit (x : Door) : State := ((lost (.doorUnit 0)).setDoor 0 x).setDoorView 0 x.view

theorem meets_DeviceMissingResult :
    ((lost .noDevice).device 4).role = .noDevice
      ∧ (∀ role ∈ [DevRole.doorUnit 0, .detector 5 .groupB, .abortStation 5, .other],
        ((lost role).device 4).role = role ∧ ((lost role).device 4).role ≠ .noDevice
          ∧ ((lost role).device 4).supervised = true ∧ ((lost role).device 4).presence ≠ .missing
          ∧ ((lost role).device 4).since + 30 ≤ (lost role).csu.ticks)
      ∧ ((lost (.abortStation 5)).channel 5).state = .unused
      ∧ (∀ x ∈ [Door.powerOn, { Door.powerOn with entry := plainEntry },
          { Door.powerOn with entry := plainEntry, state := .fault },
          { Door.powerOn with entry := plainEntry, slot := some { reader := 0, number := 6, cls := .visitor } },
          { Door.powerOn with entry := strongEntry, state := .confirmWait },
          { Door.powerOn with
            entry := strongEntry, state := .unbolted
            passage := some { direction := .station, outer := 1, inner := 2, list := [], custodian := false } },
          { Door.powerOn with entry := strongEntry, state := .secured }],
        (lostUnit x).door 0 = x ∧ (lostUnit x).noChannelAt 0 ∧ ((lostUnit x).device 4).role = .doorUnit 0
          ∧ ((lostUnit x).device 4).since + 30 ≤ (lostUnit x).csu.ticks) := by
  unfold State.noChannelAt; decide +kernel

theorem no_missing (s : State) (c : ChannelId) (h : ∀ d, (s.device d).presence ≠ .missing) :
    s.missingFlags c { (s.channel c).flags with detectorMissing := false, abortMissing := false } := by
  simp [State.missingFlags, h]

/-- A device of a role at address 5 that was MISSING, PRESENT again. -/
def backAt (role : DevRole) : State :=
  (State.reset.heardAt 999).setDevice 4 { Device.powerOn with role, report := true, presence := .present }

theorem meets_DeviceReportsResult :
    (∀ role ∈ [DevRole.other, .detector 5 .groupB, .abortStation 5],
      ((devSt 4 fun d => { d with role, report := true, presence := .missing }).device 4).role = role
        ∧ ((devSt 4 fun d => { d with role, report := true, presence := .missing }).device 4).presence = .missing
        ∧ ((devSt 4 fun d => { d with role, report := true, presence := .missing }).device 4).lastSeq = none)
      ∧ (State.reset.csu.ms ≤ 999 ∧ (999 : Nat) < 1000)
      ∧ (loopReceive (Frame.wire { dst := 0x40, src := 5, kind := 0x03, seqByte := 1, payload := [2] })
          = some { dst := 0x40, src := 5, kind := 0x03, seqByte := 1, payload := [2] }
        ∧ (5 : Byte).toNat = (4 : DevIx).val + 1)
      ∧ (∀ role : DevRole, (backAt role).missingFlags 5
          { ((backAt role).channel 5).flags with detectorMissing := false, abortMissing := false })
      ∧ (State.reset.channel 5).state = .unused := by
  refine ⟨by decide +kernel, by decide, by decide +kernel, fun role => no_missing _ _ fun d => ?_, by decide +kernel⟩
  simp only [backAt, State.device, State.setDevice, State.heardAt, Vector.get_eq_getElem, Vector.getElem_set]
  split
  · simp
  · simp [State.reset, Device.powerOn]

/-- A reader at address 5 that is MISSING or not. -/
def readerAt (presence : Presence) : State := devSt 4 fun d => { d with role := .reader 0 .entry, presence }

/-- A full loop queue of frames that do not yield, but for one in the middle. -/
def fullQueue (x : LoopEntry) : List LoopEntry := List.replicate 15 lockEntry ++ x :: List.replicate 16 lockEntry

theorem meets_OriginatedDrivePlaced :
    (((readerAt .missing).device 4).role = .reader 0 .entry ∧ ((readerAt .missing).device 4).presence = .missing)
      ∧ ((readerAt .present).device 4).presence ≠ .missing
      ∧ ((rmSt fun r => { r with queue := [lockEntry] }).rm.queue = [] ++ lockEntry :: []
        ∧ lockEntry.origin = .originated ∧ lockEntry.frame.kind = 0x10
        ∧ lockEntry.frame.payload.head? = some (BitVec.ofNat 8 Output.lock.code)
        ∧ lockEntry.frame.dst = BitVec.ofNat 8 ((4 : DevIx).val + 1))
      ∧ State.reset.rm.queue.length < 32
      ∧ (32 ≤ (fullQueue forwardedEntry).length ∧ forwardedEntry.origin = .forwarded
        ∧ (∀ y ∈ List.replicate 15 lockEntry, y.origin ≠ .forwarded ∧ y.frame.payload.head? ≠ some 0x06))
      ∧ (∀ y ∈ fullQueue lockEntry, y.origin ≠ .forwarded ∧ y.frame.payload.head? ≠ some 0x06) := by decide +kernel

theorem meets_LoopBoundFrameResult :
    (4 ≤ (spSt fun p => { p with replies := List.replicate 4 readyPlace }).sp.replies.length)
      ∧ State.reset.sp.replies.length < 4 ∧ ((0x30 : Byte) ≠ 0x11)
      ∧ ((1 : Byte).toNat = (0 : DevIx).val + 1 ∧ (63 : Byte).toNat = (62 : DevIx).val + 1)
      ∧ (State.reset.device 0).role = .noDevice
      ∧ ((devSt 62 fun d => { d with role := .doorUnit 0 }).device 62).role = .doorUnit 0
      ∧ ((devSt 62 fun d => { d with role := .display }).device 62).role = .display
      ∧ ((readerAt .present).device 4).role = .reader 0 .entry
      ∧ ((rmSt fun r => { r with queue := List.replicate 23 lockEntry }).rm.queue.length + 1 ≤ 24
        ∧ 24 < (rmSt fun r => { r with queue := List.replicate 24 lockEntry }).rm.queue.length + 1)
      ∧ ([0, 62] : List DevIx).Pairwise (· < ·) := by decide +kernel

theorem meets_ListsStayBounded :
    State.reset.listsBounded ∧ State.reset.eventsBounded ∧ State.reset.waitingSound ∧ State.reset.alarmsSound
      ∧ State.reset.intakeEmpty ∧ State.reset.cacheSound ∧ State.reset.fetchesSound
      ∧ step { State.reset with pending := [.clockAdvance] } = .next (run .clockAdvance State.reset) := by
  refine ⟨?_, ?_, ?_, ?_, rfl, ?_, ?_, rfl⟩ <;>
    simp [State.cacheSound, State.fetchesSound, waitingNumbers, State.listsBounded,
      State.eventsBounded, State.waitingSound, State.alarmsSound, State.reset]
/-! ## Statements on the store and on presentations -/

/-- The slot of credential 5, ACTIVE STAFF with every door, every schedule and no PIN. -/
def staffSlot : List Byte := putBytes [0, 0, 5, 0, 0, 0xFF, 0xFF, 0, 0xFF, 0xFF, 0, 0, 0, 1, 0]

/-- Sixteen bytes with a good check: the fifteen and their CRC-8. -/
def checkedSlot (l : List Byte) : List Byte := l ++ [crc8 l]

/-- An empty slot. -/
def emptySlot : List Byte := List.replicate 16 0xFF

theorem meets_CredWriteCommandResult :
    State.reset.takesCommands
      ∧ (cscSt fun c => { c with
          write := some { op := .drop, number := 9, bytes := [], clamped := false, stage := .waiting } }).csc.write.isSome
      ∧ (State.reset.csc.write = none ∧ State.reset.csc.port = .idle)
      ∧ (cscSt fun c => { c with port := .fetch }).csc.port ≠ .idle
      ∧ (List.replicate 15 (0 : Byte)).length = 15
      ∧ ((staffSlot.take 15).length = 15 ∧ enrollable (field (staffSlot.take 15) 0 3) = true
        ∧ putGood (staffSlot.take 15) = true)
      ∧ (emptySlot.length = 16 ∧ ∀ x ∈ emptySlot, x = 0xFF)
      ∧ ((∃ x ∈ staffSlot.set 15 0, x ≠ 0xFF) ∧ crc8 ((staffSlot.set 15 0).take 15) ≠ byteAt (staffSlot.set 15 0) 15)
      ∧ (∀ l ∈ [List.replicate 15 0, staffSlot.take 15, (staffSlot.take 15).set 3 3, (staffSlot.take 15).set 14 121],
        (checkedSlot l).length = 16 ∧ (∃ x ∈ checkedSlot l, x ≠ 0xFF)
          ∧ crc8 ((checkedSlot l).take 15) = byteAt (checkedSlot l) 15)
      ∧ ((1 : BitVec 24) ≠ 0 ∧ (0xFFFFFE : BitVec 24) ≠ 0xFFFFFF) := by
  exact ⟨⟨by decide, rfl⟩, by decide +kernel⟩

/-- A cache of one entry for credential 5. -/
def cached (state : CacheState) : State := cscSt fun c => { c with cache := [{ number := 5, state }] }

/-- A fetch request for credential 5 that waits for the station. -/
def lookRequest : FetchRequest :=
  { bucket := 5, waiters := [{ requester := .station, number := 5 }], attempt := 1, inCycle := true, firstNumber := 5 }

theorem meets_CredLookResult :
    State.reset.takesCommands ∧ ((0xFFFFFF : BitVec 24) = 0xFFFFFF) ∧ ((5 : BitVec 24) ≠ 0 ∧ (5 : BitVec 24) ≠ 0xFFFFFF)
      ∧ (cscSt fun c => { c with look := some 5 }).csc.look.isSome
      ∧ ((cached .negative).csc.look = none ∧ (cached .negative).csc.cache
          = [] ++ { number := (5 : BitVec 24).toNat, state := .negative } :: [])
      ∧ (cached (.valid staffSlot)).csc.cache = [] ++ { number := (5 : BitVec 24).toNat, state := .valid staffSlot } :: []
      ∧ (cached .fetching).csc.cache = [] ++ { number := (5 : BitVec 24).toNat, state := .fetching } :: []
      ∧ ((∀ x ∈ State.reset.csc.cache, x.number ≠ (5 : BitVec 24).toNat)
        ∧ (5 : BitVec 24).toNat ∈ waitingNumbers (cscSt fun c => { c with queue := [lookRequest] }).csc.queue)
      ∧ ((5 : BitVec 24).toNat ∉ waitingNumbers State.reset.csc.queue
        ∧ ¬ 8 ≤ (waitingNumbers State.reset.csc.queue).length ∧ ¬ 8 ≤ State.reset.csc.queue.length)
      ∧ (8 ≤ (waitingNumbers ((List.range' 10 8).map fun n =>
          { lookRequest with bucket := n, waiters := [{ requester := .station, number := n }] })).length)
      ∧ ((cscSt fun c => { c with queue := [{ lookRequest with waiters := [{ requester := .station, number := 2053 }] }]
          }).csc.queue.map FetchRequest.bucket = [(5 : BitVec 24).toNat % 2048])
      ∧ (State.reset.csc.port = .idle ∧ State.reset.csc.queue = [] ∧ State.reset.csc.write = none) := by
  exact ⟨⟨by decide, rfl⟩, by decide +kernel⟩

/-- A write record for credential 5 in a stage. -/
def writing (op : WriteOp) (stage : WriteStage) : State := cscSt fun c =>
  { c with write := some { op, number := 5, bytes := staffSlot, clamped := false, stage }, port := .write }

/-- The fetch of `lookRequest` under way in its first or second attempt. -/
def fetching (attempt : Nat) : State := cscSt fun c =>
  { c with queue := [{ lookRequest with attempt }], port := .fetch, cache := [{ number := 5, state := .fetching }] }

/-- The second attempt of the fetch that credential 2053 asked for first and was withdrawn from, with these waiters left. -/
def withdrawnFetch (waiters : List Waiter) : State := cscSt fun c =>
  { c with queue := [{ lookRequest with waiters, attempt := 2, firstNumber := 2053 }], port := .fetch }

/-- A presentation of credential 5 at the entry reader of door 0. -/
def badge : Presentation :=
  { reader := 0, door := 0, side := .entry, number := 5, issue := 1, pin := none, arrival := 0 }

theorem meets_BucketReadResult :
    (∃ b ∈ [staffSlot.set 15 0], classifySlot b = .faulted)
      ∧ State.reset.csc.port = .idle
      ∧ ((writing .put (.read 1)).csc.write.map WriteRecord.stage) = some (.read 1)
      ∧ ((fetching 1).csc.port = .fetch ∧ (fetching 1).csc.queue = { lookRequest with attempt := 1 } :: [])
      ∧ ((fetching 2).csc.queue = { lookRequest with attempt := 2 } :: []
        ∧ lookRequest.waiters = [{ requester := .station, number := 5 }] ∧ (fetching 2).csc.write = none)
      ∧ ((withdrawnFetch []).csc.queue
          = { lookRequest with waiters := [], attempt := 2, firstNumber := 2053 } :: [] ∧ (withdrawnFetch []).csc.port = .fetch)
      ∧ (({ badge with reader := 7 } : Presentation).reader = (7 : DevIx) ∧ ∀ y ∈ [] ++ [badge], y.reader ≠ (7 : DevIx))
      ∧ ({ op := .put, number := 2053, bytes := [], clamped := false, stage := .waiting } : WriteRecord).stage = .waiting
      ∧ ((writing .put (.read 1)).csc.port = .write ∧ (writing .put (.read 2)).sp.restartWaiting = false)
      ∧ ((∀ b ∈ [staffSlot, emptySlot, emptySlot, emptySlot], classifySlot b ≠ .faulted)
        ∧ classifySlot staffSlot = .occupied 5 ∧ (classifySlot emptySlot).isEmpty = true)
      ∧ (∀ x ∈ List.replicate 4 emptySlot, classifySlot x ≠ .occupied 5)
      ∧ ((cscSt fun c => { c with port := .orphan 1 9 }).csc.port = .orphan 1 9
        ∧ (cscSt fun c => { c with port := .orphan 2 9 }).csc.port = .orphan 2 9
        ∧ (cscSt fun c => { c with port := .orphan 2 9 }).csc.write = none) := by decide +kernel

theorem meets_FetchEndsGood :
    ((fetching 1).csc.port = .fetch ∧ (fetching 1).csc.queue = lookRequest :: [] ∧ (fetching 1).csc.write = none
      ∧ ∀ b ∈ [emptySlot, staffSlot, emptySlot, emptySlot], classifySlot b ≠ .faulted)
    ∧ (lookRequest.waiters = [{ requester := .station, number := 5 }] ∧ 5 % 2048 = lookRequest.bucket
      ∧ (fetching 1).csc.cache.length ≤ 48 ∧ (fetching 1).csc.cache = [] ++ { number := 5, state := .fetching } :: [])
    ∧ (classifySlot staffSlot = .occupied 5 ∧ ∀ y ∈ [emptySlot], classifySlot y ≠ .occupied 5)
    ∧ (∀ y ∈ List.replicate 4 emptySlot, classifySlot y ≠ .occupied 5)
    ∧ (({ badge with reader := 7 } : Presentation).reader = (7 : DevIx) ∧ (badge.reader ≠ (7 : DevIx)))
    ∧ ({ op := .put, number := 2053, bytes := [], clamped := false, stage := .waiting } : WriteRecord).stage = .waiting := by
  decide +kernel

theorem meets_WriteStagesResult :
    (writing .put (.slotWrite 3)).sp.restartWaiting = false
      ∧ (writing .put (.slotWrite 3)).csc.write
        = some { op := .put, number := 5, bytes := staffSlot, clamped := false, stage := .slotWrite 3 }
      ∧ (writing .drop (.readBack 0)).csc.write
        = some { op := .drop, number := 5, bytes := staffSlot, clamped := false, stage := .readBack 0 }
      ∧ ((writing .put (.slotWrite 3)).csc.port = .write ∧ (3 : Nat) < 4)
      ∧ emptySlot ≠ staffSlot := by decide +kernel

/-- The store with a fetch queue, the cache empty and the port taken. -/
def queueing (queue : List FetchRequest) : State := cscSt fun c => { c with queue, port := .fetch }

/-- A fetch request for credential 2053, whose bucket is that of credential 5. -/
def otherRequest : FetchRequest :=
  { lookRequest with waiters := [{ requester := .station, number := 2053 }], firstNumber := 2053 }

/-- A full cache without credential 5. -/
def fullCache : List CacheEntry := (List.range 48).map fun k => { number := 100 + k, state := .negative }

theorem meets_PresentationArrives :
    (∀ z, (State.reset.lone z).condition ≠ some 5)
      ∧ (((loneSt fun l => { l with count := 1, sole := some 5, afterHours := true }).lone 11).condition = some 5
        ∧ ((loneSt fun l => { l with count := 1, sole := some 5, afterHours := true }).door 0).entry.kind = .noDoor)
      ∧ (∃ q ∈ ({ State.reset with pe := { waiting := [badge] } } : State).pe.waiting, q.reader = 0)
      ∧ ((∀ q ∈ List.replicate 8 { badge with reader := 7 }, q.reader ≠ (0 : DevIx))
        ∧ 8 ≤ (List.replicate 8 { badge with reader := 7 }).length)
      ∧ ((State.reset.door 0).entry.kind = .noDoor ∧ State.reset.pe.waiting.length < 8)
      ∧ ((plainSt id).door 0).entry.kind ≠ .noDoor ∧ ((plainSt id).door 0).state ≠ .fault
      ∧ ((plainSt fun x => { x with state := .fault }).door 0).state = .fault
      ∧ (cached (.valid staffSlot)).csc.cache = [] ++ { number := 5, state := .valid staffSlot } :: []
      ∧ (cached .fetching).csc.cache = [] ++ { number := 5, state := .fetching } :: []
      ∧ ((∀ x ∈ State.reset.csc.cache, x.number ≠ 5) ∧ 5 ∉ waitingNumbers State.reset.csc.queue
        ∧ State.reset.csc.queue = [] ∧ State.reset.csc.port = .idle ∧ State.reset.csc.write = none
        ∧ State.reset.sp.restartWaiting = false)
      ∧ (5 ∈ waitingNumbers (fetching 1).csc.queue ∧ (spSt fun p => { p with restartWaiting := true }).sp.restartWaiting = true
        ∧ ∀ r ∈ (fetching 1).csc.queue,
          (r.waiters ≠ [] ∨ r.inCycle = true) ∧ ∀ x ∈ r.waiters, x.requester ≠ .reader badge.reader)
      ∧ (5 ∈ waitingNumbers (queueing [lookRequest]).csc.queue ∧ (queueing [lookRequest]).csc.cache = [])
      ∧ (5 ∉ waitingNumbers (queueing [otherRequest]).csc.queue ∧ otherRequest.bucket = 5 % 2048)
      ∧ (({ otherRequest with bucket := 6 } : FetchRequest).bucket ≠ 5 % 2048 ∧ (queueing [otherRequest]).csc.port ≠ .idle)
      ∧ (8 ≤ ((List.range' 10 8).map fun bucket => { otherRequest with bucket }).length
        ∧ ∀ bucket ∈ List.range' 10 8, bucket ≠ 5 % 2048)
      ∧ ((writing .put (.read 1)).csc.underWrite (5 % 2048) = true ∧ State.reset.csc.underWrite (5 % 2048) = false
        ∧ State.reset.csc.cache.length < 48)
      ∧ (48 ≤ fullCache.length ∧ (∀ x ∈ fullCache, x.number ≠ 5)
        ∧ fullCache = fullCache.take 47 ++ { number := 147, state := .negative } :: []) := by decide +kernel

/-- `staffSlot` with some of its bytes replaced. -/
def slotWith (l : List (Nat × Byte)) : List Byte := l.foldl (fun s p => s.set p.1 p.2) staffSlot

/-- Zone 2 with channel 0, in a state. -/
def zoneAt (state : ChannelState) : State :=
  (plainSt id).setChannel 0 { Channel.powerOn with zone := some 2, state }

/-- Credential 5 stands in zone 3. -/
def standing5 : State :=
  { plainSt id with
    ru := { State.reset.ru with
      rosters := State.reset.ru.rosters.set 3 (List.replicate 1 { number := 5, cls := .staff, entered := 0, custodian := false }) } }

theorem meets_EntryChecksInOrder :
    badge.side = .entry ∧ ((plainSt id).door badge.door).entry.kind ≠ .noDoor
      ∧ ((plainSt id).door badge.door).state ≠ .fault
      ∧ (recordOf (slotWith [(3, 1)])).status = .suspended ∧ (recordOf (slotWith [(3, 2)])).status = .lost
      ∧ ((recordOf staffSlot).status = .active ∧ badge.issue = (recordOf staffSlot).issue)
      ∧ ({ badge with issue := 2 } : Presentation).issue ≠ (recordOf staffSlot).issue
      ∧ ((recordOf (slotWith [(11, 9)])).expiry = 9 ∧ (plainSt id).csu.clock = .unset)
      ∧ ((recordOf staffSlot).expiry = 0 ∧ (recordOf staffSlot).doorMask.getLsbD 0 = true)
      ∧ (recordOf (slotWith [(6, 0xFE)])).doorMask.getLsbD 0 = false
      ∧ (plainSt id).csu.covers (recordOf (slotWith [(7, 1)])).schedule = false
      ∧ ((plainSt id).csu.covers (recordOf staffSlot).schedule = true
        ∧ (plainSt id).csu.covers ((plainSt id).door 0).entry.schedule = true)
      ∧ ((plainSt fun x => { x with entry := { plainEntry with pinMode := .always } }).door 0).entry.pinMode = .always
      ∧ ((recordOf staffSlot).pin = none ∧ (recordOf (slotWith [(8, 0x04), (9, 0xD2)])).pin = some 1234)
      ∧ (recordOf staffSlot).passbackExempt = false
      ∧ ((plainSt id).channelOf 2 = none ∧ (zoneAt .discharged).channelOf ((zoneAt .discharged).door 0).entry.inner = some 0
        ∧ ((zoneAt .discharged).channel 0).state = .discharged)
      ∧ (standing5.standsIn 5 = some 3
        ∧ (3 : ZoneId) ≠ ((plainSt id).door 0).entry.outer) := by decide +kernel

/-- A PLAIN door that asks for a PIN. -/
def pinSt : State := plainSt fun x => { x with entry := { plainEntry with pinMode := .always } }

/-- `standing5` at a door of a passback mode. -/
def softSt (passback : PassbackMode) : State :=
  standing5.setDoor 0 { Door.powerOn with entry := { plainEntry with passback } }

/-- STAFF credentials that stand in zone 2, behind the PLAIN door 0. -/
def crowd (l : List Nat) : State :=
  { plainSt id with
    ru := { State.reset.ru with
      rosters := State.reset.ru.rosters.set 2 (l.map fun number => { number, cls := .staff, entered := 0, custodian := false }) } }

/-- A pool of 240 entries, none of them in zone 2. -/
def fullPool : State :=
  { plainSt id with
    ru := { State.reset.ru with
      rosters := Vector.ofFn fun z : ZoneId =>
        if 8 ≤ z.val then
          (List.range 60).map fun k => { number := 100 * z.val + k, cls := .staff, entered := 0, custodian := false }
        else [] } }

/-- Credential 5 with PIN 1239 and duress enabled. -/
def duressSlot : List Byte := slotWith [(8, 0x04), (9, 0xD7), (12, 0x04)]

theorem meets_DuressPassbackAndCapacity :
    (pinSt.doorRefuses 0 = false ∧ pinSt.checkRecord badge (recordOf duressSlot) = none
        ∧ pinSt.pinNeeded (pinSt.door 0).entry = true ∧ (recordOf duressSlot).pin = some 1239
        ∧ (recordOf duressSlot).duressEnabled = true ∧ duressPin 1239 = 1230)
      ∧ (∀ r ∈ pinSt.sau.alarms, r.identity ≠ .duress 5) ∧ pinSt.sau.alarms.length < 16
      ∧ (∀ passback ∈ [PassbackMode.soft, .noCheck],
        ((softSt passback).door 0).entry.passback = passback ∧ (softSt passback).doorRefuses 0 = false
          ∧ (softSt passback).checkRecord badge (recordOf staffSlot) = none
          ∧ (softSt passback).checkPin ((softSt passback).door 0).entry (recordOf staffSlot) none = .pass
          ∧ (softSt passback).standsIn 5 = some 3 ∧ (3 : ZoneId) ≠ ((softSt passback).door 0).entry.outer)
      ∧ ((recordOf staffSlot).passbackExempt = false
        ∧ recordOf (slotWith [(12, 2)]) = { recordOf staffSlot with passbackExempt := true })
      ∧ ((plainSt fun x => { x with entry := { plainEntry with inner := 0 } }).door 0).entry.inner = 0
      ∧ ((((crowd [6]).setZone 2 { ZoneEntry.powerOn with limit := 1 }).zone 2).limit
          < (((crowd [6]).roster 2).filter (fun e => e.number != badge.number)).length + 1
        ∧ ((crowd [6]).setZone 2 { ZoneEntry.powerOn with limit := 1 }).noCapacity badge .staff = some .zone)
      ∧ (240 < fullPool.poolCount + 1 ∧ 0 + 1 ≤ (fullPool.zone 2).limit ∧ fullPool.noCapacity badge .staff = some .pool
        ∧ fullPool.passbackZone badge (recordOf staffSlot) = none ∧ fullPool.zoneLockedOut 2 = false) := by decide +kernel

/-- The escort of credential 6 at the entry reader. -/
def escort6 : Escort := { reader := 0, number := 6, cls := .visitor }

theorem meets_PlainGrantResult :
    (((plainSt id).door 0).entry.kind = .plain ∧ ((plainSt id).door 0).state = .locked ∧ ((plainSt id).door 0).slot = none)
      ∧ ({ badge with side := .exit } : Presentation).side = .exit
      ∧ ((plainSt id).checkRecord badge (recordOf staffSlot) = none
        ∧ (plainSt id).checkPin plainEntry (recordOf staffSlot) none = .pass
        ∧ (plainSt id).passbackZone badge (recordOf staffSlot) = none ∧ (plainSt id).zoneLockedOut 2 = false
        ∧ (plainSt id).noCapacity badge .staff = none ∧ (plainSt id).needsEscort plainEntry (recordOf staffSlot) = false)
      ∧ (((plainSt fun x => { x with slot := some escort6 }).door 0).slot = some escort6
        ∧ (recordOf staffSlot).cls = .staff
        ∧ (plainSt fun x => { x with slot := some escort6 }).noCapacity badge .staff = none)
      ∧ ((recordOf (slotWith [(4, 3)])).cls = .visitor ∧ (recordOf (slotWith [(4, 2)])).cls = .contractor
        ∧ (plainSt fun x => { x with slot := some escort6 }).noCapacity badge .visitor = none
        ∧ (plainSt fun x => { x with slot := some escort6 }).needsEscort plainEntry (recordOf (slotWith [(4, 3)])) = false) := by
  decide +kernel
/-! ## Statements on doors -/

/-- The PLAIN door 0 in a state, told to SC. -/
def plainView (f : Door → Door) : State :=
  (plainSt f).setDoorView 0 ((plainSt f).door 0).view

theorem meets_PlainContactResult :
    (∀ state ∈ [DoorState.opened, .heldOpen, .forced],
      ((plainView fun x => { x with state, contact := .opened }).door 0).entry.kind = .plain
        ∧ ((plainView fun x => { x with state, contact := .opened }).door 0).state = state
        ∧ ((plainView fun x => { x with state, contact := .opened }).door 0).contact = .opened
        ∧ (plainView fun x => { x with state, contact := .opened }).doorView 0
          = ((plainView fun x => { x with state, contact := .opened }).door 0).view)
      ∧ (∀ contact ∈ [Contact.closed, .unknown],
        ((plainView fun x => { x with contact }).door 0).state = .locked
          ∧ ((plainView fun x => { x with contact }).door 0).contact = contact
          ∧ (plainView fun x => { x with contact }).doorView 0 = ((plainView fun x => { x with contact }).door 0).view)
      ∧ (plainView id).channelOf 1 = none ∧ (plainView id).channelOf 2 = none
      ∧ (plainView id).loneCopiesCurrent := by
  refine ⟨by decide +kernel, by decide +kernel, by decide +kernel, by decide +kernel, ?_⟩
  unfold State.loneCopiesCurrent; decide +kernel

/-- A passage of one STAFF credential, 5, through door 0. -/
def passage5 (direction : Direction) : Passage :=
  { direction, outer := 1, inner := 2, list := [{ number := 5, cls := .staff }], custodian := false }

/-- A roster entry of a number. -/
def entryOf (number : Nat) : RosterEntry := { number, cls := .staff, entered := 0, custodian := false }

/-- Zone 2 KNOWN with as many entries as its limit of 1. -/
def fullZone (s : State) : State :=
  ((s.setZone 2 { s.zone 2 with limit := 1 }).setRoster 2 [entryOf 9]).setZoneStatus 2 .known

theorem meets_PassageConfirmedByOpening :
    (∀ direction ∈ [Direction.entry, .exit],
      ((plainSt fun x => { x with state := .unlocked, passage := some (passage5 direction) }).door 0).passage
        = some (passage5 direction))
      ∧ ((plainSt fun x => { x with state := .unlocked }).door 0).entry.kind = .plain
      ∧ ((plainSt fun x => { x with state := .unlocked }).door 0).state = .unlocked
      ∧ ((plainSt fun x => { x with state := .unlocked }).door 0).contact ≠ .opened
      ∧ (passage5 .entry).list = [{ number := 5, cls := .staff }] ∧ (passage5 .entry).direction = .entry
      ∧ ({ passage5 .station with list := [] } : Passage).list = []
      ∧ ((0 : Nat) < (State.reset.zone 2).limit)
      ∧ ((fullZone ((plainSt id).setDoorView 0 ((plainSt id).door 0).view)).zone 2).limit
          ≤ ((fullZone ((plainSt id).setDoorView 0 ((plainSt id).door 0).view)).roster 2).length
      ∧ (fullZone ((plainSt id).setDoorView 0 ((plainSt id).door 0).view)).zoneStatus 2 = .known := by decide +kernel

/-- The strongroom door 0 in the middle of its sequence, custodians 8 and 9. -/
def custody (f : Door → Door) : State := strongSt fun x =>
  f { x with
    custodyA := some { number := 8, schedule := 0, duress := false }
    custodyB := some { number := 9, schedule := 0, duress := false }
    budget := some { delay := 300, window := 120 } }

theorem meets_DoorTimersResult :
    (((plainSt fun x => { x with state := .unlocked, unlock := some 0, passage := some (passage5 .exit) }).door 0).unlock
        = some 0 ∧ 0 ≤ State.reset.csu.ticks)
      ∧ ((plainSt fun x => { x with state := .unlocked, unlock := some 0 }).door 0).passage = none
      ∧ (((plainSt fun x => { x with state := .opened, held := some 0 }).door 0).state = .opened
        ∧ ((plainSt fun x => { x with state := .opened, held := some 0 }).door 0).held = some 0)
      ∧ (((plainSt fun x => { x with slot := some escort6, pairing := some 0 }).door 0).slot = some escort6
        ∧ ((plainSt fun x => { x with slot := some escort6, pairing := some 0 }).door 0).pairing = some 0)
      ∧ (((custody fun x => { x with state := .custodyWait, pairing := some 0 }).door 0).state = .custodyWait
        ∧ ((custody fun x => { x with state := .custodyWait, pairing := some 0 }).door 0).pairing = some 0)
      ∧ (((custody fun x => { x with state := .delay, display := some 0, delay := some 0 }).door 0).state = .delay
        ∧ ((custody fun x => { x with state := .delay, display := some 0, delay := some 0 }).door 0).display = some 0
        ∧ ((custody fun x => { x with state := .delay, display := some 0, delay := some 0 }).door 0).delay = some 0
        ∧ ((custody fun x => { x with state := .delay, display := some 0, delay := some 0 }).door 0).budget
          = some { delay := 300, window := 120 })
      ∧ ((1 : Int) ≤ 1 ∧ (0 : Int) ≤ 0)
      ∧ (((custody fun x => { x with state := .confirmWait, confirm := some 0 }).door 0).state = .confirmWait
        ∧ ((custody fun x => { x with state := .confirmWait, confirm := some 0 }).door 0).confirm = some 0)
      ∧ (((strongSt fun x => { x with state := .unbolted, unlock := some 0, passage := some (passage5 .entry) }).door 0).state
          = .unbolted
        ∧ ((strongSt fun x => { x with state := .unbolted, unlock := some 0, passage := some (passage5 .entry) }).door 0
          ).passage = some (passage5 .entry))
      ∧ ((strongSt fun x => { x with settle := some 0 }).door 0).settle = some 0 := by decide +kernel

/-- Custodian 9 at the entry reader. -/
def custodian9 : Custody :=
  { reader := 0, door := 0, number := 9, cls := .custodian, schedule := 0, arrival := 0, duress := false }

/-- `standing5` at a SECURED strongroom of a passback mode that asks for a PIN. -/
def strongBadge (passback : PassbackMode) : State :=
  standing5.setDoor 0 { Door.powerOn with entry := { strongEntry with passback, pinMode := .always }, state := .secured }

theorem meets_CustodyHandOff :
    (badge.side = .entry ∧ ((strongSt id).door 0).entry.kind = .strongroom ∧ ((strongSt id).door 0).state ≠ .fault
        ∧ (strongSt id).checkRecord badge (recordOf staffSlot) = none
        ∧ (strongSt id).checkPin strongEntry (recordOf staffSlot) none = .pass
        ∧ (strongSt id).passbackZone badge (recordOf staffSlot) = none
        ∧ (strongSt id).zoneLockedOut 2 = false ∧ (strongSt id).noCapacity badge .staff = none)
      ∧ ∀ mode ∈ [PassbackMode.noCheck, .soft],
        let p := { badge with pin := some 1230 }
        let s := strongBadge mode
        let u := s.raiseAlarm (.duress 5) 1 (some 0)
        let v := u.tells (u.event .passbackSoft (door := some 0) (zone := some 3) (subject := some (.credential 5)))
        (s.door 0).entry.passback = mode ∧ s.checkRecord p (recordOf duressSlot) = none
          ∧ s.checkPin (s.door 0).entry (recordOf duressSlot) p.pin = .duress
          ∧ u.passbackZone p (recordOf duressSlot) = some 3 ∧ u.zoneLockedOut 2 = false ∧ u.noCapacity p .staff = none
          ∧ v.zoneLockedOut 2 = false ∧ v.noCapacity p .staff = none := by
  decide +kernel

/-- R83, R88: the duress mark comes to the custody presentation of the first custodian. -/
theorem test_duressCustody :
    let s := strongBadge .soft
    let t := s.decidePresentation { badge with pin := some 1230 } (.found (duressSlot.set 4 1))
    (recordOf (duressSlot.set 4 1)).cls = .custodian ∧ (t.door 0).state = .custodyWait
      ∧ (t.door 0).custodyA = some { number := 5, schedule := 0, duress := true }
      ∧ t.sp.events.map EventRecord.kind = [.powerOn, .staffAlarmRaised, .passbackSoft, .custodyStarted] := by decide +kernel

theorem meets_CustodySequence :
    (((strongSt id).door 0).state = .secured ∧ custodian9.cls = .custodian)
      ∧ ({ custodian9 with cls := .staff } : Custody).cls ≠ .custodian
      ∧ (((custody fun x => { x with state := .custodyWait }).door 0).state = .custodyWait
        ∧ ((custody fun x => { x with state := .custodyWait }).door 0).custodyA
          = some { number := 8, schedule := 0, duress := false } ∧ custodian9.number ≠ 8)
      ∧ (budgetOf .unbounded 300 120 false = some { delay := 300, window := 120 }
        ∧ budgetOf (.bounded 300) 300 120 false = none)
      ∧ (((custody fun x => { x with state := .confirmWait, confirmOpening := some 0 }).door 0).state = .confirmWait
        ∧ ((custody fun x => { x with state := .confirmWait, confirmOpening := some 0 }).door 0).custodyB
          = some { number := 9, schedule := 0, duress := false }
        ∧ (some 0).getD 0 ≤ custodian9.arrival)
      ∧ (custodian9.arrival
        < ((custody fun x => { x with state := .confirmWait, confirmOpening := some 1 }).door 0).confirmOpening.getD 0)
      ∧ ((custody fun x => { x with state := .delay }).door 0).state = .delay := by decide +kernel

theorem meets_DoorCommandsResult :
    State.reset.takesCommands ∧ (16 ≤ (16 : Byte).toNat ∧ (15 : Byte).toNat = (15 : DoorId).val)
      ∧ (State.reset.door 15).entry.kind = .noDoor
      ∧ (((plainSt id).door 0).entry.kind = .plain ∧ ((plainSt id).door 0).state = .locked
        ∧ (plainSt id).channelOf ((plainSt id).door 0).entry.inner = none)
      ∧ ((strongSt id).door 0).entry.kind = .strongroom
      ∧ ((zoneAt .discharged).channelOf ((zoneAt .discharged).door 0).entry.inner = some 0)
      ∧ ((plainSt fun x => { x with state := .opened }).door 0).state = .opened
      ∧ ((plainSt fun x => { x with state := .fault }).door 0).state = .fault
      ∧ ((custody fun x => { x with state := .confirmWait }).door 0).state = .confirmWait
      ∧ (((strongSt fun x => { x with state := .unbolted, passage := some (passage5 .entry) }).door 0).passage
          = some (passage5 .entry) ∧ (passage5 .entry).direction = .entry)
      ∧ (((strongSt fun x => { x with state := .unbolted, passage := some (passage5 .exit) }).door 0).passage
          = some (passage5 .exit) ∧ (passage5 .exit).direction = .exit)
      ∧ ((strongSt id).door 0).state = .secured := by
  exact ⟨⟨by decide, rfl⟩, by decide +kernel⟩

theorem meets_BoltsAndLockoutHold :
    State.reset.boltOnlyOpen
      ∧ step { State.reset with pending := [.clockAdvance] } = .next (run .clockAdvance State.reset)
      ∧ ((zoneAt .firstAlarm).channelOf ((zoneAt .firstAlarm).door badge.door).entry.inner = some 0
        ∧ ((zoneAt .firstAlarm).channel 0).state = .firstAlarm ∧ ((zoneAt .discharged).channel 0).state = .discharged) := by
  exact ⟨by unfold State.boltOnlyOpen; decide +kernel, rfl, by decide +kernel⟩
/-! ## Statements on rosters and suppression -/

/-- Channel 5 on zone 11, in a state. -/
def chanAt (f : Channel → Channel) : State := chanSt 5 fun x => f { x with zone := some 11, state := .normal }

theorem meets_ZoneCommandsResult :
    State.reset.takesCommands ∧ (11 < (12 : Byte).toNat ∧ (11 : Byte).toNat = (11 : ZoneId).val ∧ (11 : ZoneId) ≠ 0)
      ∧ ((chanAt fun x => { x with state := .releasing }).channelOf 11 = some 5
        ∧ ((chanAt fun x => { x with state := .releasing }).channel 5).state = .releasing)
      ∧ (State.reset.channelOf 11 = none ∧ (State.reset.lone 11).afterHours = false)
      ∧ State.reset.zoneStatus 11 = .unknown ∧ (State.reset.setZoneStatus 11 .known).zoneStatus 11 = .known := by
  exact ⟨⟨by decide, rfl⟩, by decide +kernel⟩

/-- Key 7 bound to zone 11 on its settle timer, with a raw level. -/
def zoneKey (raw : Bool) : State :=
  (State.reset.setLine (.general 7) { raw, qualifier := .level false true }).setLineFunction 7 (.zoneClearKey 11)

/-- The COMMAND frame that verifies zone 11. -/
def verifyWire : List Byte := Frame.wire { dst := 0, src := 0x40, kind := 0x20, seqByte := 3, payload := [0x20, 11] }

theorem meets_RostersStaySound :
    State.reset.standsOnce ∧ State.reset.poolBounded
      ∧ step { State.reset with pending := [.clockAdvance] } = .next (run .clockAdvance State.reset)
      ∧ State.reset.intakeEmpty ∧ State.reset.zoneStatus 11 = .unknown
      ∧ ((run (.zoneVerifyClear 0 11) State.reset).zoneStatus 11 = .known
        ∧ (run (.stationFrameReceived verifyWire) State.reset).zoneStatus 11 = .known
        ∧ (run (.stationFrameReceived (verifyWire.drop 1)) (spSt fun p => { p with rx := [0xD5] })).zoneStatus 11 = .known
        ∧ (run (.settleTimerExpiry (.general 7)) (zoneKey true)).zoneStatus 11 = .known) := by
  exact ⟨by unfold State.standsOnce; decide +kernel, by unfold State.poolBounded; decide +kernel, rfl, rfl, by decide +kernel⟩

/-- A detector of channel 5, group A, at address 7, with its level and latch, the channel in a state. -/
def detectorAt (f : Channel → Channel) (level : Option DetectorLevel) : State :=
  ((chanAt f).setDevice 6 { Device.powerOn with role := .detector 5 .groupA }).setScDev 6
    { ScDevice.powerOn with level }

theorem meets_DetectionResult :
    ((detectorAt id (some .normal)).device 6).role = .detector 5 .groupA
      ∧ (((detectorAt id (some .normal)).scDev 6).level = some .normal ∧ DetectorLevel.normal ≠ .alarm)
      ∧ ((detectorAt id none).scDev 6).level ≠ some .fault
      ∧ ((detectorAt (fun x => { x with state := .lockedOut }) none).channel 5).state = .lockedOut
      ∧ (((detectorAt id none).channel 5).state = .normal ∧ ((detectorAt id none).channel 5).coincidence = true
        ∧ ∀ e : DevIx, e ≠ 6 → ((detectorAt id none).device e).role ≠ .detector 5 .groupB)
      ∧ ((detectorAt (fun x => { x with coincidence := false }) none).channel 5).coincidence = false
      ∧ (((detectorAt id none).setDevice 7 { Device.powerOn with role := .detector 5 .groupB }).setScDev 7
          { ScDevice.powerOn with latch := true }).scDev 7 = { ScDevice.powerOn with latch := true }
      ∧ ((detectorAt (fun x => { x with state := .held }) none).channel 5).state = .held
      ∧ (((detectorAt (fun x => { x with state := .lockedOut }) (some .alarm)).scDev 6).level = some .alarm)
      ∧ ((detectorAt (fun x => { x with state := .firstAlarm }) none).channel 5).state = .firstAlarm := by decide +kernel

/-- Channel 5's abort line settling after a change from `old` to `raw`. -/
def settlingAbort (raw old : Bool) (f : Channel → Channel) : State :=
  ((chanAt f).setLine (.abort 5) { raw, qualifier := .level old true }).setZoneView 11
    { status := .known, count := 0, alarm := false }

theorem meets_AbortHoldsCountdown :
    ((settlingAbort true false fun x => { x with state := .preDischarge, countdown := 7 }).line (.abort 5)
        = { raw := true, qualifier := .level false true }
      ∧ ((settlingAbort true false fun x => { x with state := .preDischarge, countdown := 7 }).channel 5).zone = some 11
      ∧ ((settlingAbort true false fun x => { x with state := .preDischarge, countdown := 7 }).channel 5).state = .preDischarge
      ∧ (settlingAbort true false fun x => { x with abortLine := true }).holdCauses 5 ≠ .empty)
    ∧ ((settlingAbort false true fun x => { x with state := .preDischarge }).line (.abort 5)
        = { raw := false, qualifier := .level true true }
      ∧ (settlingAbort false true fun x => { x with state := .preDischarge, abortLine := false }).holdCauses 5 = .empty)
    ∧ ((settlingAbort false true fun x => { x with state := .held, abortLine := true }).line (.abort 5)
        = { raw := false, qualifier := .level true true }
      ∧ ((settlingAbort false true fun x => { x with state := .held, abortLine := true }).channel 5).state = .held
      ∧ (settlingAbort false true fun x => { x with state := .held, abortLine := false }).holdCauses 5 = .empty) := by
  decide +kernel

theorem meets_ChannelTimersResult :
    (((chanAt fun x => { x with state := .preDischarge, countdownDue := true }).channel 5).state = .preDischarge
        ∧ ((chanAt fun x => { x with state := .preDischarge, countdownDue := true }).channel 5).countdownDue = true
        ∧ ((chanAt fun x => { x with state := .preDischarge, countdownDue := true }).channel 5).hold = .empty)
      ∧ (((chanAt fun x => { x with state := .releasing, drive := some 0 }).channel 5).drive = some 0
        ∧ 0 ≤ State.reset.csu.ticks)
      ∧ ((chanAt fun x => { x with phase := .waiting, confirm := some 0 }).channel 5).phase = .waiting
      ∧ ((chanAt fun x => { x with state := .discharged, soak := some 0 }).channel 5).soak = some 0
      ∧ ((chanAt fun x => { x with refresh := some 0 }).channel 5).refresh = some 0
      ∧ (((chanAt fun x => { x with readCount := .disagreeing, readback := true }).channel 5).readCount = .disagreeing
        ∧ ((chanAt fun x => { x with readCount := .disagreeing, readback := true }).channel 5).readback
          ≠ ((chanAt fun x => { x with readCount := .disagreeing, readback := true }).channel 5).driveOn)
      ∧ (((chanAt fun x => { x with readCount := .agreeing }).channel 5).readback
        = ((chanAt fun x => { x with readCount := .agreeing }).channel 5).driveOn) := by decide +kernel

theorem meets_ChannelCommandsResult :
    State.reset.takesCommands ∧ (6 ≤ (6 : Byte).toNat ∧ (5 : Byte).toNat = (5 : ChannelId).val)
      ∧ ((chanAt fun x => { x with state := .discharged }).channel 5).soakComplete = false
      ∧ ((chanAt fun x => { x with state := .discharged, soakComplete := true }).channel 5).soakComplete = true
      ∧ ((chanAt fun x => { x with state := .firstAlarm, refresh := some 3 }).channel 5).state = .firstAlarm
      ∧ (∀ g, (chanAt id).key g ≠ some 5) ∧ ((chanAt id).setKey 7 (some 5)).key 7 = some 5
      ∧ ((chanAt fun x => { x with state := .lockedOut, stationLockout := true }).channel 5).stationLockout = true
      ∧ ((chanAt id).channel 5).stationLockout = false := by
  exact ⟨⟨by decide, rfl⟩, by decide +kernel⟩

/-- Channel 5 at the end of its countdown, its zone KNOWN and empty. -/
def lastTick : State :=
  (((chanAt fun x => { x with state := .preDischarge, countdown := 1, countdownDue := true }).setZoneStatus 11 .known
    ).setZoneView 11 { status := .known, count := 0, alarm := false })

theorem meets_ReleasingOnlyFromCountdown :
    (State.reset.drivesOnlyReleasing
      ∧ step { State.reset with pending := [.clockAdvance] } = .next (run .clockAdvance State.reset))
      ∧ (lastTick.channel 5).state ≠ .releasing ∧ ((run (.countdownExpiry 5) lastTick).channel 5).state = .releasing
      ∧ exec (.countdownExpiry 5) lastTick = .next (run (.countdownExpiry 5) lastTick)
      ∧ (lastTick.channel 5).zone = some 11 ∧ lastTick.copiesCurrent ∧ lastTick.holdsCurrent := by
  refine ⟨⟨by unfold State.drivesOnlyReleasing; decide +kernel, rfl⟩, by decide +kernel, by decide +kernel, rfl,
    by decide +kernel, ?_, ?_⟩
  · unfold State.copiesCurrent; decide +kernel
  · unfold State.holdsCurrent; decide +kernel

theorem meets_HoldsAndCopiesStayCurrent :
    State.reset.holdsCurrent ∧ State.reset.copiesCurrent ∧ lastTick.holdsActed
      ∧ (chanAt fun x => { x with state := .held, hold := { HoldSet.empty with alarm := true } }).holdsActed
      ∧ step { State.reset with pending := [.clockAdvance] } = .next (run .clockAdvance State.reset) := by
  refine ⟨by unfold State.holdsCurrent; decide +kernel, by unfold State.copiesCurrent; decide +kernel, ?_, ?_, rfl⟩ <;>
    (unfold State.holdsActed; decide +kernel)
/-! ## Statements on alarms and lines -/

/-- The reset state with a line in place. -/
def lineSt (l : InputLine) (raw : Bool) (qualifier : Qualifier) : State := State.reset.setLine l { raw, qualifier }

/-- General input 7 with a function. -/
def giSt (f : LineFunction) (raw : Bool) (qualifier : Qualifier) : State :=
  (lineSt (.general 7) raw qualifier).setLineFunction 7 f

theorem meets_LineQualifierResult :
    ((lineSt (.abort 5) true (.level true true)).line (.abort 5) = { raw := true, qualifier := .level true true })
      ∧ (false ≠ true ∧ ((lineSt (.abort 5) true (.level true true)).line (.abort 5)).raw = true)
      ∧ (lineSt (.manualRelease 5) true (.pulse .pressed none)).line (.manualRelease 5)
        = { raw := true, qualifier := .pulse .pressed none }
      ∧ (lineSt (.manualRelease 5) true (.pulse .spent none)).line (.manualRelease 5)
        = { raw := true, qualifier := .pulse .spent none }
      ∧ (lineSt (.manualRelease 5) false (.pulse .spent (some 0))).line (.manualRelease 5)
        = { raw := false, qualifier := .pulse .spent (some 0) }
      ∧ ((giSt (.staffButton 0) true (.pulse .pressed none)).line (.general 7)
          = { raw := true, qualifier := .pulse .pressed none }
        ∧ (giSt (.staffButton 0) true (.pulse .pressed none)).lineFunction 7 = .staffButton 0)
      ∧ (((chanAt fun x => { x with state := .firstAlarm }).setLine (.manualRelease 5)
          { raw := true, qualifier := .pulse .pressed none }).channel 5).state = .firstAlarm
      ∧ (((chanAt id).setLine (.manualRelease 5) { raw := true, qualifier := .pulse .pressed none }).channel 5).state = .normal
      ∧ ((lineSt (.manualRelease 5) true (.pulse .pressed none)).channel 5).state ≠ .normal := by decide +kernel

theorem meets_SettledLineResult :
    ((giSt (.zoneClearKey 11) true (.level false true)).line (.general 7) = { raw := true, qualifier := .level false true }
        ∧ (giSt (.zoneClearKey 11) true (.level false true)).lineFunction 7 = .zoneClearKey 11
        ∧ (giSt (.zoneClearKey 11) true (.level false true)).channelOf 11 = none)
      ∧ ((chanAt fun x => { x with state := .releasing }).channelOf 11 = some 5
        ∧ ((chanAt fun x => { x with state := .releasing }).channel 5).state = .releasing)
      ∧ ((lineSt (.valveConfirm 5) true (.level false true)).line (.valveConfirm 5)
        = { raw := true, qualifier := .level false true })
      ∧ ((chanAt fun x => { x with state := .releasing, phase := .failed }).channel 5).phase = .failed
      ∧ ((giSt (.lockoutKey 5) true (.level false true)).lineFunction 7 = .lockoutKey 5 ∧ ((chanAt id).channel 5).state = .normal) := by
  decide +kernel

/-- Alarm records numbered from 1. -/
def alarmList (n : Nat) (acked : Option Stamp) : List AlarmRecord :=
  (List.range n).map fun k =>
    { number := k + 1, identity := .personal k, zone := 11, door := none, raised := .uptime 0 false, acked }

/-- The reset state with alarms in the table. -/
def alarmSt (n : Nat) (acked : Option Stamp) : State := State.reset.setAlarms (alarmList n acked)

theorem meets_RaiseRequestResult :
    ((alarmSt 15 none).alarmsSound ∧ (alarmSt 16 none).alarmsSound ∧ (alarmSt 16 (some (.uptime 0 false))).alarmsSound)
      ∧ (∃ r ∈ (alarmSt 15 none).sau.alarms, r.identity = .personal 14)
      ∧ ((∀ r ∈ (alarmSt 16 none).sau.alarms, r.identity ≠ .personal 16) ∧ (alarmSt 15 none).sau.alarms.length < 16)
      ∧ ((alarmSt 16 none).sau.alarms.length = 16 ∧ ∀ y ∈ (alarmSt 16 none).sau.alarms, y.acked = none)
      ∧ (∀ r ∈ (alarmSt 16 (some (.uptime 0 false))).sau.alarms, r.acked ≠ none)
      ∧ (alarmSt 16 none).channelOf 11 = none := by
  refine ⟨⟨?_, ?_, ?_⟩, by decide +kernel, by decide +kernel, by decide +kernel, by decide +kernel, by decide +kernel⟩ <;>
    (unfold State.alarmsSound; decide +kernel)

theorem meets_AlarmCommandsResult :
    State.reset.takesCommands ∧ (∀ r ∈ State.reset.sau.alarms, r.number ≠ (0 : Byte).toNat)
      ∧ ((alarmSt 1 none).sau.alarms = [] ++ { number := (1 : Byte).toNat, identity := .personal 0, zone := 11
                                               door := none, raised := .uptime 0 false, acked := none } :: [])
      ∧ (∀ r ∈ (alarmSt 1 (some (.uptime 0 false))).sau.alarms, r.acked ≠ none ∧ ∀ m, r.identity ≠ .overdue m)
      ∧ (alarmSt 1 none).channelOf 11 = none
      ∧ (12 ≤ (12 : Byte).toNat ∧ (11 : Byte).toNat = (11 : ZoneId).val)
      ∧ State.reset.alarmOverflow 11 = false
      ∧ (sauSt fun a => { a with overflow := a.overflow.set 11 true }).alarmOverflow 11 = true
      ∧ (State.reset.lone 11).state ≠ .overdue := by
  exact ⟨⟨by decide, rfl⟩, by decide, by decide, by simp [alarmSt, alarmList, State.reset, State.setAlarms],
    by decide +kernel⟩

theorem meets_LoneTimersResult :
    (((loneSt fun l => { l with state := .running, intervalTimer := some 0 }).lone 11).intervalTimer = some 0
        ∧ 0 ≤ State.reset.csu.ticks)
      ∧ (((loneSt fun l => { l with state := .prompt, repeatTimer := some 0, graceTimer := some 30 }).lone 11).repeatTimer
          = some 0
        ∧ ((loneSt fun l => { l with state := .prompt, repeatTimer := some 0, graceTimer := some 30 }).lone 11).graceTimer
          = some 30)
      ∧ ((loneSt fun l => { l with state := .prompt, graceTimer := some 0 }).lone 11).graceTimer = some 0
      ∧ ((loneSt id).lone 11).state = .idle
      ∧ ((loneSt fun l => { l with state := .prompt, count := 1, sole := some 5, afterHours := true }).lone 11).condition
        = some 5 := by decide +kernel

theorem meets_AfterHoursAndLoneStayCurrent :
    State.reset.afterHoursCurrent ∧ State.reset.loneCopiesCurrent ∧ State.reset.loneOnlyAlone
      ∧ step { State.reset with pending := [.clockAdvance] } = .next (run .clockAdvance State.reset) := by
  exact ⟨by unfold State.afterHoursCurrent; decide +kernel, by unfold State.loneCopiesCurrent; decide +kernel,
    by unfold State.loneOnlyAlone; decide +kernel, rfl⟩

/-! ## Statements on the station port -/

theorem meets_StationReceiverTakesFrame :
    (State.reset.sp.rx = [] ∧ State.reset.intakeEmpty) ∧ (∀ b ∈ [(0 : Byte), 0xD4], b ≠ 0xD5)
      ∧ (List.replicate 40 (0 : Byte)).length ≤ 40
      ∧ ((0x41 : Byte) ≠ 0x40 ∧ 63 < (0x40 : Byte).toNat ∧ (0x40 : Byte) ≠ 0x7F ∧ (63 : Byte).toNat ≤ 63)
      ∧ (40 < (41 : Byte).toNat ∧ [(0xD5 : Byte)].length ≤ 1)
      ∧ (0 * 256 + 0 ≠ (crc16 [0, 0, 0x40, 0x20, 0]).toNat)
      ∧ ((0x3D : Byte) ≠ 0x03 ∧ (0x3D : Byte) ≠ 0x3E ∧ [(0x3E : Byte), 0].length ≠ 1)
      ∧ State.reset.takesCommands := by
  exact ⟨⟨rfl, rfl⟩, by decide, by decide, by decide, by decide, by decide +kernel, by decide, ⟨by decide, rfl⟩⟩

theorem meets_CommandRowIsItsFrame :
    commandOf (.tableWrite 3 (List.replicate 39 0)) = some (3, 0x03)
      ∧ (Instr.tableWrite 3 (List.replicate 39 0)).wellFormed = true
      ∧ (State.reset.sp.rx = [] ∧ State.reset.sp.intake = [])
      ∧ 4 ≤ (spSt fun p => { p with replies := List.replicate 4 readyPlace }).sp.replies.length
      ∧ ((spSt fun p => { p with restartWaiting := true }).sp.restartWaiting = true
        ∧ (spSt fun p => { p with restartWaiting := true }).sp.replies.length < 4) := by decide

theorem meets_PointReadAndStatusResult :
    State.reset.takesCommands ∧ 9 < (10 : Byte).toNat
      ∧ ((9 : Byte), TableId.alarm, 16) ∈ [((1 : Byte), TableId.device, 63), (2, .door, 16), (3, .zone, 12), (4, .channel, 6),
        (5, .schedule, 32), (6, .line, 8), (7, .holiday, 32), (8, .roster, 240), (9, .alarm, 16)]
      ∧ (16 ≤ (16 : Byte).toNat ∧ (15 : Byte).toNat < 16)
      ∧ (4 < (5 : Byte).toNat ∧ 1 ≤ (4 : Byte).toNat ∧ (4 : Byte).toNat ≤ 4)
      ∧ (TableId.line.entries - 5 < (4 : Byte).toNat ∧ TableId.line.entries - 5 ≤ TableId.line.perReply)
      ∧ ((4 : Byte).toNat ≤ TableId.line.entries - 4)
      ∧ TableId.device.perReply < TableId.device.entries - 60
      ∧ (doorStates (State.reset.door 15).entry.kind)[0]? = some (State.reset.door 15).state
      ∧ (doorStates .strongroom)[8]? = some .fault := by
  exact ⟨⟨by decide, rfl⟩, by decide⟩

/-- The cursor at an entry of a table. -/
def cursorAt (t : TableId) (i : Nat) : State := spSt fun p => { p with cursorTable := t, cursorIndex := i }

theorem meets_TableWriteResult :
    (∀ t i, (cursorAt t i).takesCommands)
      ∧ ((cursorAt .holiday 0).sp.cursorTable = .holiday ∧ (cursorAt .device 63).sp.cursorTable = .device)
      ∧ ([(0 : Byte), 0, 0, 0, 0].length % 4 ≠ 0 ∧ ([(0 : Byte), 0, 0, 0].length % 4 = 0 ∧ TableId.device.entries ≤ 63))
      ∧ ([(64 : Byte), 0, 120, 2, 88, 0].length = 6 ∧ (byteAt [(64 : Byte), 0, 120, 2, 88, 0] 1).toNat
          = ((cursorAt .zone 11).zone 11).staffed.val ∧ (cursorAt .zone 11).sp.cursorIndex = (11 : ZoneId).val)
      ∧ ([(1 : Byte), 11, 0, 0].length % 2 = 0 ∧ (cursorAt .line 6).sp.cursorIndex < TableId.line.entries
        ∧ min ([(1 : Byte), 11, 0, 0].length / 2) (TableId.line.entries - 7) < [(1 : Byte), 11, 0, 0].length / 2)
      ∧ 31 < (byteAt [(64 : Byte), 32, 120, 2, 88, 0] 1).toNat
      ∧ ((cursorAt .schedule 31).sp.cursorIndex = (31 : SchedId).val ∧ (List.replicate 20 (0xFF : Byte)).length = 20)
      ∧ (cursorAt .schedule 0).sp.cursorIndex = 0
      ∧ ((cursorAt .line 7).lineFunction 7 = .unused ∧ (cursorAt .line 7).sp.cursorIndex = (7 : GiId).val
        ∧ byteAt [(1 : Byte), 11] 0 = 1 ∧ (byteAt [(1 : Byte), 11] 1).toNat = (11 : ZoneId).val
        ∧ byteAt [(3 : Byte), 5] 0 = 3 ∧ (byteAt [(3 : Byte), 5] 1).toNat = (5 : ChannelId).val
        ∧ 3 < (byteAt [(4 : Byte), 0] 0).toNat) := by
  exact ⟨fun _ _ => ⟨by simp [cursorAt, spSt, State.reset], rfl⟩, by decide⟩

/-- A RESTART that waits for the read-back of a write while an alarm stands. -/
def restartBehindWrite : State :=
  { (writing .put (.readBack 3)).setAlarms (alarmList 1 none) with
    sp := { State.reset.sp with restartWaiting := true, replies := [{ seq := 2, body := .reserved .restart 0x3F }] } }

theorem meets_RestartResult :
    (State.reset.takesCommands
        ∧ (∀ c, (State.reset.channel c).state = .unused ∨ (State.reset.channel c).state = .normal
          ∨ (State.reset.channel c).state = .lockedOut) ∧ State.reset.sau.alarms = [] ∧ State.reset.csc.write = none)
      ∧ (alarmSt 1 none).sau.alarms ≠ []
      ∧ (writing .put .waiting).csc.write.isSome
      ∧ ((fetching 2).csc.port = .fetch ∧ (fetching 2).csc.queue = { lookRequest with attempt := 2 } :: [])
      ∧ (restartBehindWrite.csc.write
          = some { op := .put, number := 5, bytes := staffSlot, clamped := false, stage := .readBack 3 }
        ∧ restartBehindWrite.sp.restartWaiting = true ∧ restartBehindWrite.sau.alarms ≠ [])
      ∧ ((restartBehindWrite.setAlarms []).sau.alarms = []
        ∧ ∀ c, ((restartBehindWrite.setAlarms []).channel c).state = .unused) := by
  exact ⟨⟨⟨by decide, rfl⟩, by decide, rfl, rfl⟩, by decide +kernel⟩

/-- Each of the five ways a write of credential 5 ends. -/
theorem meets_RestartResult_ends :
    (∃ told, (writing .put (.readBack 3)).endsWrite
        { op := .put, number := 5, bytes := staffSlot, clamped := false, stage := .readBack 3 } (.readBackComplete staffSlot) 0 told)
      ∧ (∃ told, (writing .put (.readBack 3)).endsWrite
        { op := .put, number := 5, bytes := staffSlot, clamped := false, stage := .readBack 3 } .readBackTimeout 9 told)
      ∧ (∃ told, (writing .put (.slotWrite 3)).endsWrite
        { op := .put, number := 5, bytes := staffSlot, clamped := false, stage := .slotWrite 3 } .slotWriteTimeout 9 told)
      ∧ (∃ told, (writing .put (.read 2)).endsWrite
        { op := .put, number := 5, bytes := staffSlot, clamped := false, stage := .read 2 } .bucketReadTimeout 9 told)
      ∧ (∃ told, (writing .drop (.read 1)).endsWrite
        { op := .drop, number := 5, bytes := staffSlot, clamped := false, stage := .read 1 }
        (.bucketReadComplete (List.replicate 4 emptySlot)) 6 told) :=
  ⟨⟨_, .inl ⟨3, rfl, rfl, rfl, rfl⟩⟩, ⟨_, .inr (.inl ⟨3, rfl, .inl rfl, rfl, rfl⟩)⟩,
    ⟨_, .inr (.inr (.inl ⟨3, rfl, rfl, rfl, rfl⟩))⟩, ⟨_, .inr (.inr (.inr (.inl ⟨rfl, rfl, .inl rfl, rfl, rfl⟩)))⟩,
    ⟨_, .inr (.inr (.inr (.inr ⟨1, _, rfl, rfl, rfl, by decide +kernel, .inl rfl, rfl, rfl⟩)))⟩⟩

theorem meets_PowerOnResetResult : exec (.powerOnReset true) State.reset = .next (run (.powerOnReset true) State.reset) := rfl

/-! ## Statements on grants, strongrooms, panels, keys and table writes -/

/-- The reset state with door 0 as `x`, SC having been told so. -/
def toldSt (x : Door) : State := (State.reset.setDoor 0 x).setDoorView 0 x.view

def plainDoor : Door := { Door.powerOn with entry := plainEntry }
def strongDoor : Door := { Door.powerOn with entry := strongEntry, state := .secured }

theorem alone_at_reset (x : Door) : (toldSt x).loneCopiesCurrent :=
  show State.reset.loneCopiesCurrent by unfold State.loneCopiesCurrent; decide +kernel

theorem nobody_listens (x : Door) : (toldSt x).noListeners := by
  refine ⟨fun z => (by decide +kernel : ∀ z, State.reset.channelOf z = none) z, fun d z h => ?_⟩
  have : (State.reset.device d).role = .noDevice := (by decide +kernel : ∀ d, (State.reset.device d).role = .noDevice) d
  exact absurd (this.symm.trans h) (by simp)

/-- `badge` of a number. -/
def badgeOf (number : Nat) : Presentation := { badge with number }

theorem meets_OtherGrantsResult :
    (∀ x ∈ [{ plainDoor with state := .unlocked, passage := some (passage5 .entry) },
        { plainDoor with state := .unlocked, passage := some (passage5 .exit) }, { plainDoor with state := .heldOpen },
        { plainDoor with state := .forced, slot := some escort6 }],
      (toldSt x).door badge.door = x ∧ x.entry.kind = .plain ∧ (toldSt x).passesChecks badge (recordOf staffSlot))
    ∧ ((passage5 .entry).direction = .entry ∧ (∃ c ∈ (passage5 .entry).list, c.number = badge.number)
      ∧ ∀ c ∈ (passage5 .entry).list, c.number ≠ (badgeOf 7).number)
    ∧ ((recordOf staffSlot).cls = .staff ∧ badge.side = .entry)
    ∧ ((toldSt { plainDoor with state := .fault }).noChannelAt 0
      ∧ (toldSt { plainDoor with state := .fault }).loneCopiesCurrent
      ∧ ({ badge with side := .exit } : Presentation).side = .exit)
    ∧ ((toldSt plainDoor).doorRefuses 0 = false
      ∧ (toldSt plainDoor).needsEscort plainEntry (recordOf (slotWith [(4, 3), (12, 1)])) = true
      ∧ (toldSt plainDoor).checkRecord badge (recordOf (slotWith [(4, 3), (12, 1)])) = none
      ∧ (toldSt plainDoor).checkPin plainEntry (recordOf (slotWith [(4, 3), (12, 1)])) none = .pass
      ∧ (toldSt plainDoor).noCapacity badge (recordOf (slotWith [(4, 3), (12, 1)])).cls = none)
    ∧ ((passage5 .entry).list = [{ number := 5, cls := .staff }] ∧ escort6.number ≠ ({ escort6 with number := 7 }).number
      ∧ ((toldSt { plainDoor with slot := some escort6 }).door 0).slot = some escort6
      ∧ ((toldSt { plainDoor with slot := some escort6 }).door 0).state ≠ .unlocked) := by
  refine ⟨?_, by decide +kernel, by decide +kernel, ⟨?_, alone_at_reset _, rfl⟩, by decide +kernel, by decide +kernel⟩
  · unfold State.passesChecks; decide +kernel
  · unfold State.noChannelAt; decide +kernel

theorem meets_StrongroomContactResult :
    (∀ x ∈ [strongDoor, { strongDoor with contact := .closed }, { strongDoor with state := .custodyWait },
        { strongDoor with state := .confirmWait }, { strongDoor with contact := .opened, state := .opened },
        { strongDoor with contact := .opened, state := .heldOpen }, { strongDoor with contact := .opened, state := .forced }],
      (toldSt x).door 0 = x ∧ x.entry.kind = .strongroom ∧ (toldSt x).noChannelAt 0 ∧ (toldSt x).loneCopiesCurrent)
    ∧ (∀ x ∈ [{ strongDoor with state := .unbolted, passage := some (passage5 .entry) },
        { plainDoor with state := .unlocked, passage := some (passage5 .exit) }],
      (toldSt x).door 0 = x ∧ x.contact ≠ .opened ∧ (toldSt x).doorView 0 = x.view ∧ (toldSt x).noListeners)
    ∧ ((passage5 .entry).list ≠ [] ∧ ({ passage5 .station with list := [] } : Passage).direction ≠ .exit)
    ∧ (∀ x ∈ [{ strongDoor with contact := .closed, settle := some 5 }, { strongDoor with contact := .closed },
        { strongDoor with contact := .closed, mismatch := true }],
      (toldSt x).door 0 = x ∧ x.contact = .closed ∧ x.state ≠ .fault ∧ x.boltCommand = .thrown ∧ Bolt.withdrawn ≠ x.boltCommand) := by
  refine ⟨fun x h => ?_, fun x h => ?_, by decide, by decide +kernel⟩
  · refine ⟨?_, ?_, ?_, alone_at_reset x⟩ <;> revert x <;> (try unfold State.noChannelAt) <;> decide +kernel
  · refine ⟨?_, ?_, ?_, nobody_listens x⟩ <;> revert x <;> decide +kernel

theorem meets_LockoutAndFaultEndResult :
    (∀ k, (State.reset.door k).entry.kind ≠ .strongroom)
    ∧ (∀ x ∈ [{ strongDoor with state := .custodyWait }, { strongDoor with state := .delay },
        { strongDoor with state := .unbolted, passage := some (passage5 .entry) }],
      (toldSt x).door 0 = x ∧ x.entry.kind = .strongroom ∧ x.entry.inner = 2
        ∧ ∀ j, j ≠ 0 → ((toldSt x).door j).entry.kind ≠ .strongroom)
    ∧ (passage5 .entry).direction = .entry
    ∧ (((detectorAt id none).channel 5).state = .normal ∧ ((detectorAt id none).channel 5).zone = some 11
      ∧ ((detectorAt id none).device 6).role = .detector 5 .groupA ∧ ((detectorAt id none).scDev 6).level ≠ some .alarm
      ∧ ((detectorAt id none).channel 5).coincidence = true
      ∧ ((detectorAt (fun x => { x with coincidence := false }) none).channel 5).coincidence = false
      ∧ (∀ e, ((detectorAt id none).device e).role ≠ .detector 5 .groupB)
      ∧ ((chanAt id).scDev 4).release ≠ some true
      ∧ ((chanAt id).setLine (.manualRelease 5) { raw := true, qualifier := .pulse .pressed none }).line (.manualRelease 5)
        = { raw := true, qualifier := .pulse .pressed none })
    ∧ (∀ x ∈ [{ plainDoor with state := .fault }, { plainDoor with state := .fault, contact := .opened },
        { strongDoor with state := .fault }, { strongDoor with state := .fault, contact := .closed }],
      (toldSt x).door 0 = x ∧ x.state = .fault ∧ (toldSt x).noChannelAt 0 ∧ (toldSt x).loneCopiesCurrent) := by
  refine ⟨by decide +kernel, by decide +kernel, rfl, by decide +kernel, fun x h => ?_⟩
  refine ⟨?_, ?_, ?_, alone_at_reset x⟩ <;> revert x <;> (try unfold State.noChannelAt) <;> decide +kernel

theorem meets_DoorCommandsResult_fault :
    (toldSt { plainDoor with state := .fault }).takesCommands ∧ (toldSt { plainDoor with state := .fault }).noChannelAt 0
      ∧ (toldSt { plainDoor with state := .fault }).loneCopiesCurrent
      ∧ ((toldSt { plainDoor with state := .fault }).door 0).entry.kind = .plain := by
  exact ⟨⟨by decide, rfl⟩, by unfold State.noChannelAt; decide +kernel, alone_at_reset _, by decide +kernel⟩

theorem meets_StrongroomGrantsResult :
    (∀ x ∈ [strongDoor, { strongDoor with state := .delay },
        { strongDoor with state := .unbolted, passage := some (passage5 .exit) },
        { strongDoor with state := .unbolted, passage := some (passage5 .entry) }, { strongDoor with state := .forced },
        { strongDoor with state := .fault }],
      (toldSt x).door badge.door = x ∧ x.entry.kind = .strongroom)
    ∧ (({ badge with side := .exit } : Presentation).side = .exit ∧ (passage5 .exit).direction = .exit
      ∧ (passage5 .exit).list.map PassageCred.number = [badge.number]
      ∧ (passage5 .exit).list.map PassageCred.number ≠ [(badgeOf 7).number])
    ∧ (((custody fun x => { x with state := .custodyWait }).door 0).custodyA
        = some { number := 8, schedule := 0, duress := false } ∧ ({ custodian9 with number := 8 } : Custody).number = 8
      ∧ ({ custodian9 with cls := .staff } : Custody).cls ≠ .custodian ∧ custodian9.number ≠ 8)
    ∧ (((custody fun x => { x with state := .confirmWait }).door 0).custodyB
        = some { number := 9, schedule := 0, duress := false }
      ∧ ((custody fun x => { x with state := .confirmWait }).door 0).confirmOpening.getD 0 ≤ custodian9.arrival
      ∧ ({ custodian9 with number := 7 } : Custody).number ≠ 9)
    ∧ ((∃ e ∈ (passage5 .entry).list, e.number = ({ custodian9 with number := 5 } : Custody).number)
      ∧ ∀ e ∈ (passage5 .entry).list, e.number ≠ custodian9.number) := by decide +kernel

theorem meets_PanelDevicesResult :
    (State.reset.channel 5).zone = none ∧ ((chanAt id).channel 5).zone = some 11
    ∧ ((chanAt fun x => { x with state := .discharged, soakComplete := true }).channel 5).soakComplete = true
    ∧ (∀ state ∈ [ChannelState.normal, .firstAlarm, .preDischarge, .held, .releasing, .discharged],
      ((chanAt fun x => { x with state }).channel 5).state = state)
    ∧ ((settlingAbort false false fun x => { x with state := .preDischarge }).setScDev 4 { ScDevice.powerOn with abortHeld := false }
      ).holdCauses 5 = .empty
    ∧ (((chanAt fun x => { x with state := .preDischarge }).setDevice 4 { Device.powerOn with role := .abortStation 5 }).setScDev 4
        { ScDevice.powerOn with abortHeld := true }).holdCauses 5 ≠ .empty
    ∧ ((chanAt id).scDev 4).release ≠ some true
    ∧ ((((plainSt id).setLone 2 { Lone.powerOn with count := 1, sole := some 5, afterHours := true, state := .prompt }).lone 2
        ).condition = some 5
      ∧ (∀ y, y ≠ 2 → (((plainSt id).setLone 2 { Lone.powerOn with count := 1, sole := some 5, afterHours := true }).lone y
        ).condition ≠ some 5)
      ∧ ((plainSt id).door 0).entry.kind ≠ .noDoor ∧ ((plainSt id).door 0).entry.inner = 2 ∧ badge.reader = 0) := by
  decide +kernel

/-- Key 7 of channel 5 on its settle timer, `chanAt` otherwise. -/
def keyAt (raw : Bool) (f : Channel → Channel) : State :=
  ((chanAt f).setLine (.general 7) { raw, qualifier := .level (!raw) true }).setLineFunction 7 (.lockoutKey 5)

theorem meets_KeysHoldsAndOverdueResult :
    (∀ raw ∈ [false, true], ∀ state ∈ [ChannelState.unused, .firstAlarm, .held, .lockedOut],
      (keyAt raw fun x => { x with state }).line (.general 7) = { raw, qualifier := .level (!raw) true }
        ∧ (keyAt raw fun x => { x with state }).lineFunction 7 = .lockoutKey 5
        ∧ ((keyAt raw fun x => { x with state }).channel 5).state = state)
    ∧ (∀ raw ∈ [false, true], (settlingAbort raw (!raw) fun x => { x with state := .held }).line (.abort 5)
      = { raw, qualifier := .level (!raw) true })
    ∧ (((settlingAbort true false fun x => { x with state := .held, abortLine := true }).holdCauses 5)
        ≠ ((settlingAbort true false fun x => { x with state := .held }).channel 5).hold
      ∧ ((settlingAbort true false fun x => { x with state := .discharged, soakComplete := true }).channel 5).soakComplete = true)
    ∧ (((loneSt fun l => { l with state := .overdue, count := 1, sole := some 5, afterHours := true }).lone 11).condition = some 5
      ∧ ((loneSt fun l => { l with state := .overdue }).lone 11).state = .overdue ∧ (11 : Byte).toNat = (11 : ZoneId).val)
    ∧ (∀ r ∈ (alarmSt 1 (some (.uptime 0 false))).sau.alarms, r.acked ≠ none ∧ r.number = (1 : Byte).toNat)
    ∧ (sauSt fun a => { a with overflow := a.overflow.set 11 true }).alarmOverflow 11 = true
    ∧ State.reset.takesCommands := by
  exact ⟨by decide +kernel, by decide +kernel, by decide +kernel, by decide +kernel, by decide +kernel, by decide +kernel,
    by decide, rfl⟩

/-- The readers and the unit of the PLAIN door 0, in the device table. -/
def fitted (s : State) : State :=
  ((s.setDevice 0 { Device.powerOn with role := .reader 0 .entry }).setDevice 1
    { Device.powerOn with role := .reader 0 .exit }).setDevice 2 { Device.powerOn with role := .doorUnit 0 }

/-- A DOOR entry of a kind that door 0 can take: zones 1 and 2, the devices of `fitted`, every number in range. -/
def doorBytes (kind : Byte) : List Byte := [kind, 1, 2, 1, 2, 3, 31, 60, 0, 10, 0, 0, 5, 0, 60, 0, 30]

theorem meets_DeviceAndDoorWritesResult :
    (cursorAt .device 62).takesCommands
    ∧ ((cursorAt .device 62).sp.cursorTable = .device ∧ (cursorAt .device 62).sp.cursorIndex = (62 : DevIx).val)
    ∧ (∀ r, ¬ writesRole [10, 0, 0, 0] r) ∧ writesRole [3, 5, 1, 3] (.detector 5 .groupB) ∧ writesRole [2, 0, 0, 3] (.doorUnit 0)
    ∧ ((∃ e, e ≠ 62 ∧ ((fitted State.reset).device e).role = .doorUnit 0)
      ∧ (State.reset.device 62).role = .noDevice
      ∧ (∀ e, (State.reset.device e).role ≠ .doorUnit 0) ∧ (∀ k, (State.reset.door k).entry.kind = .noDoor)
      ∧ (State.reset.channel 5).state = .unused ∧ ((chanAt fun x => { x with state := .firstAlarm }).channel 5).state = .firstAlarm)
    ∧ (({ State.reset with pe := { waiting := [{ badge with reader := 62 }] } } : State).pe.waiting.map Presentation.reader = [62])
    ∧ ((cursorAt .door 0).sp.cursorTable = .door ∧ (cursorAt .door 0).sp.cursorIndex = (0 : DoorId).val
      ∧ ∀ kind, (doorBytes kind).length = 17)
    ∧ (((fitted State.reset).device 0).role = .reader 0 .entry ∧ ((fitted State.reset).device 1).role = .reader 0 .exit
      ∧ ((fitted State.reset).device 2).role = .doorUnit 0 ∧ ((fitted State.reset).device 2).presence ≠ .missing
      ∧ (((fitted State.reset).setDevice 2 { Device.powerOn with role := .doorUnit 0, presence := .missing }).device 2).presence
        = .missing)
    ∧ (∀ kind ∈ [(1 : Byte), 2], ∀ n ∈ [(0, kind.toNat), (1, 1), (2, 2), (3, 1), (4, 2), (5, 3), (6, 31), (10, 0), (11, 0)],
        (byteAt (doorBytes kind) n.1).toNat = n.2)
    ∧ ((byteAt (doorBytes 0) 0).toNat = 0 ∧ ¬ (byteAt (doorBytes 3) 0).toNat ≤ 2)
    ∧ (((fitted State.reset).door 0).slot = none ∧ ((fitted State.reset).door 0).state = .locked)
    ∧ ((plainSt fun x => { x with slot := some escort6 }).door 0).slot ≠ none
    ∧ ∀ z, (fitted State.reset).channelOf z = none := by
  refine ⟨⟨by decide, rfl⟩, by decide, fun r => ?_, ?_, ?_, by decide +kernel, rfl, ⟨rfl, rfl, fun _ => rfl⟩, by decide +kernel,
    by decide +kernel, by decide, by decide +kernel, by decide +kernel, by decide +kernel⟩
  · cases r <;> simp [writesRole, byteAt]
  · simp [writesRole, byteAt]
  · simp [writesRole, byteAt]

theorem meets_OtherWritesResult :
    ((cursorAt .channel 5).takesCommands ∧ (cursorAt .channel 5).sp.cursorIndex = (5 : ChannelId).val)
    ∧ (∀ state ∈ [ChannelState.unused, .firstAlarm, .normal, .lockedOut],
      ((chanAt fun x => { x with state }).channel 5).state = state)
    ∧ (∀ l ∈ [[(255 : Byte), 10, 0, 1, 120, 30, 28, 32], [11, 10, 1, 0, 120, 30, 28, 32]],
      l.length = 8 ∧ (byteAt l 2).toNat ≤ 1 ∧ (byteAt l 3).toNat ≤ 1)
    ∧ ((11 : ZoneId) ≠ 0 ∧ (∀ e, e ≠ 4 → (State.reset.channel e).zone ≠ some 11))
    ∧ 1 < (byteAt [(255 : Byte), 10, 2, 1, 120, 30, 28, 32] 2).toNat
    ∧ ((cursorAt .zone 11).sp.cursorIndex = (11 : ZoneId).val ∧ [(64 : Byte), 31, 120, 2, 88, 0].length = 6
      ∧ (byteAt [(64 : Byte), 31, 120, 2, 88, 0] 1).toNat = (31 : SchedId).val ∧ (31 : SchedId) ≠ ((cursorAt .zone 11).zone 11).staffed)
    ∧ ((cursorAt .line 7).sp.cursorIndex = (7 : GiId).val ∧ [(2 : Byte), 11].length = 2
      ∧ (byteAt [(2 : Byte), 11] 1).toNat = (11 : ZoneId).val ∧ (byteAt [(0 : Byte), 255] 0).toNat = 0
      ∧ (cursorAt .line 7).lineFunction 7 = .unused)
    ∧ ((giSt (.lockoutKey 5) true (.level true false)).lineFunction 7 = .lockoutKey 5
      ∧ ((giSt (.lockoutKey 5) true (.level true false)).line (.general 7)).qualifier = .level true false) := by
  exact ⟨⟨⟨by decide, rfl⟩, rfl⟩, by decide +kernel⟩
/-! ## The spec's tables and check values -/

/-- The bytes "123456789". -/
def digits : List Byte := [0x31, 0x32, 0x33, 0x34, 0x35, 0x36, 0x37, 0x38, 0x39]

/-- 11.1: the check values of the two CRCs. -/
theorem test_checkValues : crc16 digits = 0x29B1 ∧ crc8 digits = 0xF4 ∧ crc8 (List.replicate 15 0) = 0 := by
  decide +kernel

/-- 11.1, Table 11-1: a frame on the wire, with its CRC over LEN to the last payload byte, high byte first. -/
theorem test_wire :
    (Frame.wire { dst := 1, src := 0, kind := 0x10, seqByte := 5, payload := [2] }).take 7
        = [0xD5, 0x01, 0x01, 0x00, 0x10, 0x05, 0x02]
      ∧ (Frame.wire { dst := 1, src := 0, kind := 0x10, seqByte := 5, payload := [2] }).drop 7
        = [(crc16 [0x01, 0x01, 0x00, 0x10, 0x05, 0x02]).extractLsb' 8 8,
          (crc16 [0x01, 0x01, 0x00, 0x10, 0x05, 0x02]).extractLsb' 0 8] := by decide +kernel

/-- Table 2-2, as slots; schedules not in the table have none. -/
def table22 (n : Nat) : Schedule :=
  let one (a : SchedSlot) : Schedule := (Vector.replicate 4 none).set 0 (some a)
  let two (a b : SchedSlot) : Schedule := (one a).set 1 (some b)
  match n with
  | 5 => one { mask := 0x1F, start := 420, length := 900 }
  | 9 => one { mask := 0x02, start := 1200, length := 300 }
  | 12 => two { mask := 0x1F, start := 480, length := 240 } { mask := 0x1F, start := 720, length := 300 }
  | 14 => two { mask := 0x1F, start := 480, length := 600 } { mask := 0x1F, start := 1020, length := 300 }
  | 20 => one { mask := 0xFF, start := 0, length := 1440 }
  | 22 => one { mask := 0x03, start := 600, length := 1440 }
  | _ => Vector.replicate 4 none

/-- The remainder of a schedule of Table 2-2 at an instant, with some holidays. -/
def remAt (n : SchedId) (day weekday second : Nat) (holidays : List Nat := []) : Remainder :=
  ({ State.reset.csu with
    clock := .set, day, weekday, second, holidays
    schedules := Vector.ofFn fun k : Fin 32 => table22 k.val } : Csu).remainder n

/-- 2.5.1, Examples 1 and 2: an evening, and the hours after midnight with the day before a holiday or not. -/
theorem test_evening :
    remAt 5 20000 1 78750 = .bounded 450 ∧ remAt 9 20000 1 78750 = .bounded 11250
      ∧ remAt 9 20001 2 1800 = .bounded 1800 ∧ remAt 9 20001 2 1800 [20000] = .bounded 0 := by decide +kernel

/-- 2.5.1, Example 3: the first and last seconds of a Monday's window. -/
theorem test_edges :
    remAt 5 100 0 25199 = .bounded 0 ∧ remAt 5 100 0 25200 = .bounded 54000 ∧ remAt 5 100 0 79199 = .bounded 1
      ∧ remAt 5 100 0 79200 = .bounded 0 := by decide +kernel

/-- 2.5.1, Examples 4 and 5: windows back to back, and overlapping. -/
theorem test_twoWindows :
    remAt 12 100 3 43000 = .bounded 200 ∧ remAt 12 100 3 43200 = .bounded 18000 ∧ remAt 14 100 3 63000 = .bounded 16200 := by
  decide +kernel

/-- 2.5.1, Examples 6 to 8: a whole day, a full day from mid-morning, and the first day of the epoch. -/
theorem test_wholeDays :
    remAt 20 100 3 0 = .bounded 86400 ∧ remAt 20 100 3 86300 = .bounded 100 ∧ remAt 20 100 3 86399 = .bounded 1
      ∧ remAt 22 100 0 39600 = .bounded 82800 ∧ remAt 22 101 1 35999 = .bounded 1
      ∧ remAt 22 101 1 36000 = .bounded 86400 ∧ remAt 22 102 2 36000 = .bounded 0 ∧ remAt 9 0 1 1800 = .bounded 0 := by
  decide +kernel

/-- Table 2-3: the eight cases, from their least remainders. -/
theorem test_budgets :
    budgetOf (.bounded 450) 300 240 false = some { delay := 300, window := 150 }
      ∧ budgetOf (.bounded 450) 300 240 true = some { delay := 600, window := -150 }
      ∧ budgetOf .unbounded 3600 900 true = some { delay := 7200, window := 900 }
      ∧ budgetOf (.bounded 3600) 3600 30 false = none
      ∧ budgetOf (.bounded 3601) 3600 30 false = some { delay := 3600, window := 1 }
      ∧ budgetOf (.bounded 2000) 300 240 true = some { delay := 600, window := 240 }
      ∧ budgetOf (.bounded 100) 300 240 false = none ∧ budgetOf (.bounded 0) 60 30 false = none := by decide

/-- Table 4-3. -/
theorem test_duressPins :
    duressPin 4719 = 4710 ∧ duressPin 1230 = 1231 ∧ duressPin 0 = 1 ∧ duressPin 9999 = 9990 ∧ duressPin 805 = 806 := by
  decide
/-! ## One small run of each command -/

/-- The kinds of the queued events. -/
def kinds (s : State) : List EventKind := s.sp.events.map EventRecord.kind

/-- The replies, each as its SEQ and payload, a reserved place as its code alone. -/
def replies (s : State) : List (BitVec 4 × List Byte) := s.sp.replies.map fun p =>
  (p.seq, match p.body with
    | .reserved _ c => [c]
    | .ready l | .sending l => l)

/-- R212, R47: without crystal edges the timebase is DEGRADED, told after POWER_ON. -/
theorem test_powerOnReset :
    kinds (run (.powerOnReset false) (csuSt fun c => { c with ticks := 99, day := 7 })) = [.powerOn, .timebaseDegraded]
      ∧ (run (.powerOnReset false) (csuSt fun c => { c with ticks := 99, day := 7 })).csu.day = 0 := by decide +kernel

/-- R180, R181: a line held active through power-on settles if it is a LEVEL line, and is SPENT if it is a PULSE line. -/
theorem test_powerOnReset_lines :
    (run (.powerOnReset true) (lineSt (.abort 5) true (.level true false))).line (.abort 5)
        = { raw := true, qualifier := .level false true }
      ∧ (run (.powerOnReset true) (lineSt (.manualRelease 5) true (.pulse .pressed none))).line (.manualRelease 5)
        = { raw := true, qualifier := .pulse .spent none } := by decide +kernel

/-- R8: a frame of an address of kind NONE is told once. -/
theorem test_loopFrameReceived_foreign :
    kinds (run (.loopFrameReceived .endA 5 (Frame.wire { dst := 0, src := 9, kind := 0x30, seqByte := 0, payload := [] }))
      State.reset) = [.powerOn, .foreignDevice] := by decide +kernel

/-- R10, R105: a DOOR_STATUS that finds a LOCKED plain door open without the flag is a forced opening, and both zones
become UNKNOWN. -/
theorem test_loopFrameReceived_forced :
    ((run (.loopFrameReceived .endA 5 (Frame.wire { dst := 0, src := 3, kind := 0x02, seqByte := 0, payload := [1, 0, 0] }))
      ((plainView fun x => { x with contact := .closed }).setDevice 2 { Device.powerOn with role := .doorUnit 0 })).door 0).state
        = .forced := by decide +kernel

/-- R17: what is sent leaves, and the next entry is taken. -/
theorem test_loopFrameSent :
    (run .loopFrameSent (rmSt fun r => { r with tx := .entry .both, queue := [forwardedEntry, lockEntry] })).rm.queue
      = [lockEntry] := by decide +kernel

/-- R20: 2 s after the reset the sweep of number 0 goes out, and the next is due at 4. -/
theorem test_sweepDue :
    (run .sweepDue (csuSt fun c => { c with ticks := 2 })).rm.sweepTimer = some 4
      ∧ (run .sweepDue (csuSt fun c => { c with ticks := 2 })).rm.nextSweep = 1 := by decide +kernel

/-- R21: the third missed sweep in CLOSED splits the ring. -/
theorem test_sweepUnreturned :
    (run .sweepUnreturned (rmSt fun r => { r with ring := .closed, missCount := 2, pendingSweep := some 5 })).rm.ring = .split
      ∧ kinds (run .sweepUnreturned (rmSt fun r => { r with ring := .closed, missCount := 2, pendingSweep := some 5 }))
        = [.powerOn, .ringSplit] := by decide +kernel

/-- R22. -/
theorem test_silenceTimerExpiry :
    (run .silenceTimerExpiry (csuSt fun c => { c with ticks := 10 })).rm.ring = .dead
      ∧ (run .silenceTimerExpiry (csuSt fun c => { c with ticks := 9 })).rm.ring = .split := by decide +kernel

/-- R28: uptime stays at its largest value, and with it the second part of an acceptance time. -/
theorem test_acceptance_saturated :
    ((run (.loopFrameReceived .endA 7 (Frame.wire { dst := 0, src := 63, kind := 0x07, seqByte := 1, payload := [0] }))
      { devSt 62 (fun d => { d with role := .other }) with
        csu := { State.reset.csu with ticks := 4294967300 } }).device 62).acceptMs = 4294967295007 := by decide +kernel

/-- R144: a credential that finds its zone full is told before the zone becomes UNKNOWN, and PASSAGE comes last. -/
theorem test_rosterOverflow :
    kinds ((fullZone (plainView fun x => { x with state := .unlocked, passage := some (passage5 .entry) })).route 2
      (.doorStatus 0 .opened .thrown false)) = [.powerOn, .rosterOverflow, .zoneUnknown, .passage] := by decide +kernel

/-- R24, R176: a missing detector sets its channel's flag. -/
theorem test_deviceMissing :
    ((run (.deviceMissing 4) (lost (.detector 5 .groupB))).channel 5).flags.detectorMissing = true
      ∧ kinds (run (.deviceMissing 4) (lost (.detector 5 .groupB))) = [.powerOn, .deviceMissing] := by decide +kernel

/-- R30, R32: the event carries the drift flag. -/
theorem test_timebaseDegraded :
    ((run .timebaseDegraded State.reset).sp.events.map EventRecord.stamp) = [.uptime 0 false, .uptime 0 true] := by
  decide +kernel

/-- R31: 2 s of edges without a gap bring the timebase back. -/
theorem test_timebaseRestored :
    (run .timebaseRestored (csuSt fun c => { c with timebase := .degraded, ticks := 2, crystalWatch := some 2 })).csu.timebase
        = .normal
      ∧ (run .timebaseRestored (csuSt fun c => { c with timebase := .degraded, ticks := 1, crystalWatch := some 2 })
        ).csu.timebase = .degraded := by decide +kernel

/-- R31: a gap starts the 2 s again. -/
theorem test_crystalGapWhileDegraded :
    (run .crystalGapWhileDegraded (csuSt fun c => { c with timebase := .degraded, ticks := 1, crystalWatch := some 2 })
      ).csu.crystalWatch = some 3 := by decide +kernel

/-- R33: midnight of day 9, a Sunday. -/
theorem test_clockAdvance :
    (run .clockAdvance (csuSt fun c => { c with clock := .set, day := 9, weekday := 6, second := 86399 })).csu.day = 10
      ∧ (run .clockAdvance (csuSt fun c => { c with clock := .set, day := 9, weekday := 6, second := 86399 })).csu.weekday = 0 := by
  decide +kernel

/-- R34: the day number stays at its end. -/
theorem test_clockAdvance_epochEnd :
    (run .clockAdvance (midnight 65535)).csu.day = 65535
      ∧ kinds (run .clockAdvance (midnight 65535)) = [.powerOn, .clockEpochEnd] := by decide +kernel

/-- R198, R201: a STATUS frame after two bytes of noise. -/
theorem test_stationFrameReceived :
    (replies (run (.stationFrameReceived ([0x11, 0x22] ++ Frame.wire
      { dst := 0, src := 0x40, kind := 0x20, seqByte := 5, payload := [0x3E] })) State.reset)).map
        (fun r => (r.1, r.2.take 2)) = [(5, [0x3E, 0x00])] := by decide +kernel

/-- The COMMAND frame of STATUS. -/
def statusWire (seqByte : Byte) : List Byte :=
  Frame.wire { dst := 0, src := 0x40, kind := 0x20, seqByte, payload := [0x3E] }

/-- R198: of three frames in one row the third is completed while one waits, and is discarded. -/
theorem test_stationFrameReceived_intake :
    (replies (run (.stationFrameReceived (statusWire 1 ++ statusWire 2 ++ statusWire 3)) State.reset)).map
        (fun r => r.1) = [1, 2]
      ∧ (run (.stationFrameReceived (statusWire 1 ++ statusWire 2 ++ statusWire 3)) State.reset).sp.intake = [] := by
  decide +kernel

/-- R201: a code of no command, and STATUS with a byte too many. -/
theorem test_stationFrameReceived_bad :
    replies (run (.stationFrameReceived (Frame.wire
        { dst := 0, src := 0x40, kind := 0x20, seqByte := 5, payload := [0x3D] })) State.reset) = [(5, [0x3D, 0x05])]
      ∧ replies (run (.stationFrameReceived (Frame.wire
        { dst := 0, src := 0x40, kind := 0x20, seqByte := 5, payload := [0x3E, 0] })) State.reset) = [(5, [0x3E, 0x05])] := by
  decide +kernel

/-- R198: a SYNC after a gap begins a frame, any other byte does not. -/
theorem test_stationFrameGap :
    (run (.stationFrameGap 0xD5) (spSt fun p => { p with rx := [0xD5, 3] })).sp.rx = [0xD5]
      ∧ (run (.stationFrameGap 0x05) (spSt fun p => { p with rx := [0xD5, 3] })).sp.rx = [] := by decide +kernel

/-- R198: a LEN over 40 ends the frame. -/
theorem test_stationLenOver40 : (run (.stationLenOver40 41) (spSt fun p => { p with rx := [0xD5] })).sp.rx = [] := by
  decide +kernel

/-- R13, R15: a broadcast goes to each DISPLAY in address order. -/
theorem test_loopBoundStationFrame_broadcast :
    (run (.loopBoundStationFrame 1 0x7F 0x10 [0x06, 1])
      ((devSt 9 fun d => { d with role := .display }).setDevice 2 { Device.powerOn with role := .display })).rm.queue.map
        (fun e => (e.frame.dst, e.frame.src)) = [(3, 0x40), (10, 0x40)] := by decide +kernel

/-- R14: a frame to an owned output is refused. -/
theorem test_loopBoundStationFrame_owned :
    replies (run (.loopBoundStationFrame 1 3 0x10 [1, 0, 8]) (devSt 2 fun d => { d with role := .doorUnit 0 }))
      = [(1, [0x00, 0x0B])] := by decide +kernel

/-- R203. -/
theorem test_tablePoint :
    (run (.tablePoint 1 8 239) State.reset).sp.cursorIndex = 239
      ∧ replies (run (.tablePoint 1 8 240) State.reset) = [(1, [0x01, 0x04])] := by decide +kernel

/-- R204, Table 11-6: two entries of the LINE table. -/
theorem test_tableRead :
    replies (run (.tableRead 1 2) (cursorAt .line 6)) = [(1, [0x02, 0x00, 0x06, 6, 2, 0, 0, 0, 0, 0, 0])]
      ∧ (run (.tableRead 1 2) (cursorAt .line 6)).sp.cursorIndex = 8 := by decide +kernel

/-- R36: schedule 0 reads four empty slots and the ALWAYS mark, and is not written. -/
theorem test_schedule0 :
    replies (run (.tableRead 1 1) (cursorAt .schedule 0)) = [(1, [0x02, 0x00, 5, 0, 1] ++ List.replicate 20 0 ++ [1])]
      ∧ replies (run (.tableWrite 1 (List.replicate 20 1)) (cursorAt .schedule 0)) = [(1, [0x03, 0x04, 0x04])] := by decide +kernel

/-- R5: a device entry. -/
theorem test_tableWrite_device :
    ((run (.tableWrite 1 [8, 0, 0, 3]) (cursorAt .device 9)).device 9).supervised = true
      ∧ ((run (.tableWrite 1 [8, 0, 0, 3]) (cursorAt .device 9)).device 9).report = true := by decide +kernel

/-- R140: a limit of 0 becomes 1 and is told. -/
theorem test_tableWrite_zone :
    ((run (.tableWrite 1 [0, 0, 30, 0, 120, 0xFF]) (cursorAt .zone 3)).zone 3).limit = 1 := by decide +kernel

/-- R61: number 0 is no credential; a good record is read into its bucket. -/
theorem test_credPut :
    replies (run (.credPut 1 (List.replicate 15 0)) State.reset) = [(1, [0x10, 0x05])]
      ∧ (run (.credPut 1 (staffSlot.take 15)) State.reset).csc.port = .write := by decide +kernel

/-- R61. -/
theorem test_credDrop :
    replies (run (.credDrop 1 5) (writing .put .waiting)) = [(1, [0x11, 0x02])]
      ∧ ((run (.credDrop 1 5) State.reset).csc.write.map WriteRecord.bytes) = some (List.replicate 16 0) := by decide +kernel

/-- R68: a cached record, and a cached absence. -/
theorem test_credLook :
    replies (run (.credLook 1 5) (cached (.valid staffSlot))) = [(1, [0x12, 0x00] ++ staffSlot)]
      ∧ replies (run (.credLook 1 5) (cached .negative)) = [(1, [0x12, 0x06])] := by decide +kernel

/-- R38. -/
theorem test_holidayAdd :
    (run (.holidayAdd 1 7) (csuSt fun c => { c with holidays := [5, 9] })).csu.holidays = [5, 7, 9] := by decide +kernel

/-- R39. -/
theorem test_holidayDrop :
    (run (.holidayDrop 1 5) (csuSt fun c => { c with holidays := [5, 9] })).csu.holidays = [9]
      ∧ replies (run (.holidayDrop 1 6) State.reset) = [(1, [0x19, 0x06])] := by decide +kernel

/-- R35: a weekday of 7 is clamped to 6 and told. -/
theorem test_clockSet :
    replies (run (.clockSet 1 300 7 86399) State.reset) = [(1, [0x1A, 0x01, 1, 44, 6, 1, 0x51, 0x7F])] := by decide +kernel

/-- R148. -/
theorem test_zoneVerifyClear :
    (run (.zoneVerifyClear 1 3) standing5).roster 3 = []
      ∧ (run (.zoneVerifyClear 1 3) standing5).zoneStatus 3 = .known := by decide +kernel

/-- R149. -/
theorem test_zoneVerifyKeep :
    ((run (.zoneVerifyKeep 1 3) standing5).roster 3).length = 1
      ∧ (run (.zoneVerifyKeep 1 3) standing5).zoneStatus 3 = .known := by decide +kernel

/-- R147: OUTSIDE has no status. -/
theorem test_zoneUnknown : replies (run (.zoneUnknown 1 0) State.reset) = [(1, [0x22, 0x04])] := by decide +kernel

/-- R173. -/
theorem test_channelReset :
    ((run (.channelReset 1 5) (chanAt fun x => { x with state := .firstAlarm })).channel 5).state = .normal
      ∧ replies (run (.channelReset 1 5) (chanAt fun x => { x with state := .discharged })) = [(1, [0x28, 0x0A])] := by
  decide +kernel

/-- R174. -/
theorem test_channelLockout :
    ((run (.channelLockout 1 5) (chanAt fun x => { x with state := .preDischarge, countdown := 9 })).channel 5).state
        = .lockedOut
      ∧ replies (run (.channelLockout 1 5) (chanAt fun x => { x with state := .releasing })) = [(1, [0x29, 0x0A])] := by
  decide +kernel

/-- R175. -/
theorem test_channelRestore :
    ((run (.channelRestore 1 5) (chanAt fun x => { x with state := .lockedOut, stationLockout := true })).channel 5).state
        = .normal
      ∧ replies (run (.channelRestore 1 5) (chanAt id)) = [(1, [0x2A, 0x0A])] := by decide +kernel

/-- R188. -/
theorem test_alarmAck :
    ((run (.alarmAck 1 1) (alarmSt 1 none)).sau.alarms.map AlarmRecord.acked) = [some (.uptime 0 false)] := by decide +kernel

/-- R188: an OPEN record is not cleared. -/
theorem test_alarmClear :
    replies (run (.alarmClear 1 1) (alarmSt 1 none)) = [(1, [0x31, 0x0A])]
      ∧ (run (.alarmClear 1 1) (alarmSt 1 (some (.uptime 0 false)))).sau.alarms = [] := by decide +kernel

/-- R189. -/
theorem test_alarmClearZone :
    (run (.alarmClearZone 1 11) (sauSt fun a => { a with overflow := a.overflow.set 11 true })).alarmOverflow 11 = false := by
  decide +kernel

/-- R112. -/
theorem test_doorGrant :
    ((run (.doorGrant 1 0) (plainSt id)).door 0).state = .unlocked
      ∧ replies (run (.doorGrant 1 0) (strongSt id)) = [(1, [0x38, 0x0A])] := by decide +kernel

/-- R130. -/
theorem test_strongroomCancel :
    ((run (.strongroomCancel 1 0) (custody fun x => { x with state := .delay })).door 0).state = .secured
      ∧ replies (run (.strongroomCancel 1 0) (plainSt id)) = [(1, [0x39, 0x06])] := by decide +kernel

/-- R210: the reply carries the overflow flag, which it clears. -/
theorem test_status :
    (replies (run (.status 1) (spSt fun p => { p with overflow := true }))).map (fun r => r.2.take 10)
        = [[0x3E, 0x00, 1, 0, 0, 0, 1, 1, 0, 0]]
      ∧ (run (.status 1) (spSt fun p => { p with overflow := true })).sp.overflow = false := by decide +kernel

/-- R67, log 47: a CRED LOOK taken while a write to its bucket waits is answered from the entry. -/
theorem test_credLook_writeWaiting :
    replies (run (.credLook 1 5) (cscSt fun c =>
      { c with
        cache := [{ number := 5, state := .negative }], port := .fetch, queue := [otherRequest]
        write := some { op := .drop, number := 5, bytes := [], clamped := false, stage := .waiting } }))
      = [(1, [0x12, 0x06])] := by decide +kernel

/-- R209, R212: POWER_ON is under way after power-on, so the reply to a STATUS waits for its end. -/
theorem test_powerOnSent :
    (run (.status 1) State.reset).sp.tx = .event
      ∧ (State.reset.stationFrame.map fun f => (f.kind, f.seqByte, f.payload.take 2)) = some (0x22, 0, [0x7E, 1])
      ∧ (run .stationFrameSent (run (.status 1) State.reset)).sp.tx = .reply := by decide +kernel

/-- R206, R212: the counter is 0 after power-on and 1 when POWER_ON has been sent. -/
theorem test_powerOnSeq :
    State.reset.sp.seq = 0 ∧ (run (.powerOnReset true) (spSt fun p => { p with seq := 9 })).sp.seq = 0
      ∧ (run .stationFrameSent State.reset).sp.seq = 1 := by decide +kernel

/-- R206, R207: the ALARM record that cuts an EVENT frame short leaves the transmitter free for the next number. -/
theorem test_cutSeq :
    ((List.replicate 64 (eventOf .ringSplit)).foldl Sp.enqueue { State.reset.sp with events := [] }).seq = 0
      ∧ ((List.replicate 65 (eventOf .ringSplit)).foldl Sp.enqueue { State.reset.sp with events := [] }).seq = 1
      ∧ ((List.replicate 66 (eventOf .ringSplit)).foldl Sp.enqueue { State.reset.sp with events := [] }).seq = 1 := by
  decide +kernel

/-- R211. -/
theorem test_restart :
    replies (run (.restart 1) (alarmSt 1 none)) = [(1, [0x3F, 0x0A])]
      ∧ kinds (run (.restart 1) State.reset) = [.powerOn, .restarted] := by decide +kernel

/-- R207, R209: the event sent leaves its queue. -/
theorem test_stationFrameSent : (run .stationFrameSent (spSt fun p => { p with tx := .event })).sp.events = [] := by
  decide +kernel

/-- Table 11-9: an event of channel 5 and zone 11 with reason 30, on day 258 at second 1. -/
theorem test_eventBytes :
    EventRecord.bytes
        { kind := .channelPreDischarge, stamp := .clock 258 1 true, door := none, zone := some 11, channel := some 5
          subject := none, reason := some 30 }
      = [0x55, 1, 2, 1, 2, 0, 0, 1, 0x16, 0, 11, 5, 0, 0, 0, 0, 30] := by decide +kernel

/-- R214: a copy of a frame of 40 payload bytes is cut to 34 and keeps its LEN. -/
theorem test_copyBytes :
    ForwardCopy.payload
        { frame := { dst := 0, src := 7, kind := 0x30, seqByte := 3, payload := List.replicate 40 9 }, arrival := .endB }
      = [40, 0, 7, 0x30, 3] ++ List.replicate 34 9 ++ [1] := by decide +kernel

/-- R49: a slot of zeros is empty, one with a status of 3 is faulted though its check is good. -/
theorem test_slotTest :
    classifySlot (List.replicate 16 0) = .empty ∧ classifySlot (checkedSlot ((staffSlot.take 15).set 3 3)) = .faulted
      ∧ (recordOf staffSlot).doorMask = 0xFFFF := by decide +kernel

/-- R70: a read that a RESTART left over ends in STORE_FAULT, and the port goes to the head request. -/
theorem test_orphanFault :
    kinds (run .bucketReadTimeout (cscSt fun c => { c with port := .orphan 2 9, queue := [lookRequest] })) = [.powerOn, .storeFault]
      ∧ (run .bucketReadTimeout (cscSt fun c => { c with port := .orphan 2 9, queue := [lookRequest] })).csc.port = .fetch := by
  decide +kernel

/-- R52, R68: the record read answers the CRED LOOK. -/
theorem test_bucketReadComplete :
    (run (.bucketReadComplete [emptySlot, staffSlot, emptySlot, emptySlot]) (fetching 1)).csc.cache
      = [{ number := 5, state := .valid staffSlot }] := by decide +kernel

/-- R53: a first timeout is repeated, a second ends in STORE_FAULT. -/
theorem test_bucketReadTimeout :
    (run .bucketReadTimeout (fetching 1)).csc.queue = [{ lookRequest with attempt := 2 }]
      ∧ kinds (run .bucketReadTimeout (fetching 2)) = [.powerOn, .storeFault] := by decide +kernel

/-- R53, R60: STORE_FAULT names the first waiter the request had, though it was withdrawn and another is left. -/
theorem test_bucketReadTimeout_withdrawn :
    (run .bucketReadTimeout (withdrawnFetch [{ requester := .station, number := 5 }])).sp.events.map EventRecord.subject
      = [none, some (.credential 2053)] := by decide +kernel

/-- R94: while a RESTART waits, a BADGE that would wait for the store is refused and leaves no waiter behind. -/
theorem test_badge_restartWaiting :
    kinds ({ plainSt id with sp := { State.reset.sp with restartWaiting := true } }.arrive badge) = [.powerOn, .deny]
      ∧ ({ plainSt id with sp := { State.reset.sp with restartWaiting := true } }.arrive badge).csc.queue
        = [{ lookRequest with waiters := [] }] := by decide +kernel

/-- R64, R65. -/
theorem test_slotWrite :
    ((run .slotWriteComplete (writing .put (.slotWrite 3))).csc.write.map WriteRecord.stage) = some (.readBack 3)
      ∧ kinds (run .slotWriteTimeout (writing .put (.slotWrite 3))) = [.powerOn, .storeFault] := by decide +kernel

/-- R50, R51: bucket 5 begins at byte address 320; its slot 3 lies at 368; the last slot of the store begins at 131056. -/
theorem test_cycle :
    (fetching 1).csc.cycle = some (.bucketRead [320, 336, 352, 368])
      ∧ (writing .put (.slotWrite 3)).csc.cycle = some (.slotWrite 368 staffSlot)
      ∧ (writing .put (.readBack 3)).csc.cycle = some (.slotRead 368) ∧ slotAddress 2047 3 = 131056 := by decide +kernel

/-- R65, R66. -/
theorem test_readBack :
    kinds (run (.readBackComplete staffSlot) (writing .put (.readBack 3))) = [.powerOn, .credChanged]
      ∧ kinds (run (.readBackComplete emptySlot) (writing .put (.readBack 3))) = [.powerOn, .storeFault]
      ∧ kinds (run .readBackTimeout (writing .put (.readBack 3))) = [.powerOn, .storeFault] := by decide +kernel

/-- R103. -/
theorem test_unlockTimerExpiry :
    kinds (run (.unlockTimerExpiry 0) (plainSt fun x =>
      { x with state := .unlocked, unlock := some 0, passage := some (passage5 .entry) })) = [.powerOn, .grantUnused] := by
  decide +kernel

/-- R104. -/
theorem test_heldOpenTimerExpiry :
    ((run (.heldOpenTimerExpiry 0) (plainSt fun x => { x with state := .opened, held := some 0 })).door 0).state = .heldOpen := by
  decide +kernel

/-- R111. -/
theorem test_pairingTimerExpiry :
    ((run (.pairingTimerExpiry 0) (plainSt fun x => { x with slot := some escort6, pairing := some 0 })).door 0).slot = none := by
  decide +kernel

/-- R121. -/
theorem test_custodyPairingExpiry :
    kinds (run (.custodyPairingExpiry 0) (custody fun x => { x with state := .custodyWait, pairing := some 0 }))
      = [.powerOn, .strongroomCancelled] := by decide +kernel

/-- R122, 6.6 step 4: DELAY(240) at 60 s of 300. -/
theorem test_displayTimerExpiry :
    ((run (.displayTimerExpiry 0) ({ custody (fun x => { x with state := .delay, delay := some 300, display := some 60 }) with
      csu := { State.reset.csu with ticks := 60 } })).rm.queue.map (fun e => e.frame.payload)) = [[0x06, 7, 0, 240]] := by
  decide +kernel

/-- R123: a confirm window of 0 or less is cancelled. -/
theorem test_delayTimerExpiry :
    ((run (.delayTimerExpiry 0) (custody fun x => { x with state := .delay, delay := some 0 })).door 0).state = .confirmWait
      ∧ ((run (.delayTimerExpiry 0) (custody fun x =>
        { x with state := .delay, delay := some 0, budget := some { delay := 600, window := -150 } })).door 0).state
        = .secured := by decide +kernel

/-- R124. -/
theorem test_confirmTimerExpiry :
    ((run (.confirmTimerExpiry 0) (custody fun x => { x with state := .confirmWait, confirm := some 0 })).door 0).state
      = .secured := by decide +kernel

/-- R125: the bolt is thrown again. -/
theorem test_strongroomUnlockExpiry :
    ((run (.strongroomUnlockExpiry 0) (strongSt fun x =>
      { x with state := .unbolted, boltCommand := .withdrawn, unlock := some 0, passage := some (passage5 .entry) })).door 0
        ).boltCommand = .thrown := by decide +kernel

/-- R132: bolt reports are compared once the 5 s have ended. -/
theorem test_boltSettleExpiry :
    kinds ((run (.boltSettleExpiry 0) (strongSt fun x => { x with settle := some 0 })).route 2
        (.doorStatus 0 .closed .withdrawn false)) = [.powerOn, .boltMismatch]
      ∧ kinds ((strongSt fun x => { x with settle := some 0 }).route 2 (.doorStatus 0 .closed .withdrawn false))
        = [.powerOn] := by decide +kernel

/-- R166, R168. -/
theorem test_countdownExpiry : ((run (.countdownExpiry 5) lastTick).channel 5).driveOn = true := by decide +kernel

/-- R171. -/
theorem test_driveTimerExpiry :
    ((run (.driveTimerExpiry 5) (chanAt fun x => { x with state := .releasing, driveOn := true, drive := some 0 })).channel 5
      ).state = .discharged := by decide +kernel

/-- R170. -/
theorem test_valveConfirmTimeout :
    ((run (.valveConfirmTimeout 5) (chanAt fun x => { x with state := .releasing, phase := .waiting, confirm := some 0 })
      ).channel 5).flags.confirmFailed = true := by decide +kernel

/-- R172. -/
theorem test_soakTimerExpiry :
    ((run (.soakTimerExpiry 5) (chanAt fun x => { x with state := .discharged, soak := some 0 })).channel 5).soakComplete
      = true := by decide +kernel

/-- R177: the pattern is sent again. -/
theorem test_toneRefresh :
    ((run (.toneRefresh 5) ((chanAt fun x => { x with state := .held, refresh := some 0 }).setDevice 4
      { Device.powerOn with role := .sounderChannel 5 })).rm.queue.map (fun e => e.frame.payload)) = [[0x05, 0, 2]] := by
  decide +kernel

/-- The payloads of the queued loop frames toward an address. -/
def payloadsTo (dst : Byte) (s : State) : List (List Byte) :=
  (s.rm.queue.filter (fun e => e.frame.dst == dst)).map (fun e => e.frame.payload)

/-- The channel's SOUNDER at 5 and its zone's at 6, the transmitter busy with a frame for 9. -/
def sounding (s : State) : State :=
  { (s.setDevice 4 { Device.powerOn with role := .sounderChannel 5 }).setDevice 5 { Device.powerOn with role := .sounderZone 11 } with
    rm := { s.rm with tx := .entry .both, queue := [{ lockEntry with frame := { lockEntry.frame with dst := 9 } }] } }

/-- R177: a reset and the start of a countdown send their patterns to the SOUNDERs. -/
theorem test_tones :
    payloadsTo 5 (run (.channelReset 1 5) (sounding (chanAt fun x => { x with state := .held }))) = [[0x05, 0, 0]]
      ∧ payloadsTo 6 ((sounding (chanAt id)).route 6 (.releaseStation 5 true)) = [[0x05, 0, 1]] := by decide +kernel

/-- R169. -/
theorem test_driveFault :
    ((run (.driveFault 5) (chanAt fun x => { x with readCount := .disagreeing, readback := true })).channel 5).flags.driveFault
        = true
      ∧ ((run (.driveFaultCleared 5) (chanAt fun x =>
        { x with readCount := .agreeing, flags := { x.flags with driveFault := true } })).channel 5).flags.driveFault = false := by
  decide +kernel

/-- R169. -/
theorem test_driveReadbackChange :
    ((run (.driveReadbackChange 5 true) (chanAt id)).channel 5).readCount = .disagreeing := by decide +kernel

/-- R180: a change starts the settle time, and its end tells SC. -/
theorem test_levelLine :
    (run (.levelLineChange (.abort 5) true) State.reset).line (.abort 5) = { raw := true, qualifier := .level false true }
      ∧ ((run (.settleTimerExpiry (.abort 5)) (lineSt (.abort 5) true (.level false true))).channel 5).abortLine = true := by
  decide +kernel

/-- R181, R163: a press of a MANUAL RELEASE line of a NORMAL channel. -/
theorem test_pulseLine :
    (run (.pulseLineChange (.manualRelease 5) true) State.reset).line (.manualRelease 5)
        = { raw := true, qualifier := .pulse .pressed none }
      ∧ ((run (.pressTimerExpiry (.manualRelease 5)) ((chanAt id).setLine (.manualRelease 5)
        { raw := true, qualifier := .pulse .pressed none })).channel 5).countdown = 30 := by decide +kernel

/-- R181, log 30: a row that repeats the inactive level does not restart the recovery timer. -/
theorem test_pulseLine_repeated :
    (run (.pulseLineChange (.manualRelease 5) false) (lineSt (.manualRelease 5) false (.pulse .spent (some 0)))).line
      (.manualRelease 5) = { raw := false, qualifier := .pulse .spent (some 0) } := by decide +kernel

/-- R181, R29: the recovery timer ends on the second tick, not before, and starts when the line goes inactive. -/
theorem test_recoveryTimerExpiry :
    (run (.recoveryTimerExpiry (.manualRelease 5)) (lineSt (.manualRelease 5) false (.pulse .spent (some 0)))).line
        (.manualRelease 5) = { raw := false, qualifier := .pulse .ready none }
      ∧ (run (.recoveryTimerExpiry (.manualRelease 5)) (lineSt (.manualRelease 5) false (.pulse .spent (some 1)))).line
        (.manualRelease 5) = { raw := false, qualifier := .pulse .spent (some 1) }
      ∧ (run (.pulseLineChange (.manualRelease 5) false) (lineSt (.manualRelease 5) true (.pulse .spent none))).line
        (.manualRelease 5) = { raw := false, qualifier := .pulse .spent (some 1) } := by decide +kernel

/-- R193: the first prompt, and with a grace of 120 s a repeat 30 s later. -/
theorem test_intervalTimerExpiry :
    ((run (.intervalTimerExpiry 11) (loneSt fun l => { l with state := .running, intervalTimer := some 0 })).lone 11).prompts
        = 1
      ∧ ((run (.intervalTimerExpiry 11) (loneSt fun l => { l with state := .running, intervalTimer := some 0 })).lone 11
        ).repeatTimer = some 30 := by decide +kernel

/-- R195: the prompt goes to the zone's SOUNDERs, but not while the channel's pattern is other than OFF. -/
theorem test_promptTone :
    payloadsTo 6 (run (.intervalTimerExpiry 11) (sounding (loneSt fun l => { l with state := .running, intervalTimer := some 0 })))
        = [[0x05, 0, 4]]
      ∧ payloadsTo 6 (run (.intervalTimerExpiry 11)
        ({ sounding (loneSt fun l => { l with state := .running, intervalTimer := some 0 }) with
          sau := { (loneSt fun l => { l with state := .running, intervalTimer := some 0 }).sau with
            tones := State.reset.sau.tones.set 11 .held } })) = [] := by decide +kernel

/-- R193: no repeat falls due with the end of the grace. -/
theorem test_promptRepeat :
    ((run (.promptRepeat 11) (loneSt fun l =>
      { l with state := .prompt, prompts := 1, repeatTimer := some 0, graceTimer := some 30 })).lone 11).repeatTimer = none := by
  decide +kernel

/-- R193, R185. -/
theorem test_graceTimerExpiry :
    ((run (.graceTimerExpiry 11) (loneSt fun l =>
      { l with state := .prompt, graceTimer := some 0, count := 1, sole := some 5, afterHours := true })).sau.alarms.map
        AlarmRecord.identity) = [.overdue 5] := by decide +kernel

/-- R117, R120, R124: the bolt goes out at a confirmation, and is thrown again when the window test refuses the second. -/
theorem test_custody_bolt :
    payloadsTo 3 ((custody fun x => { x with state := .confirmWait }).custodyPresented custodian9) = [[0x03]]
      ∧ payloadsTo 3 ((custody fun x => { x with state := .custodyWait }).custodyPresented { custodian9 with schedule := 1 })
        = [[0x04]] := by decide +kernel

/-- decodeTableWord: the table's rows give no bits. -/
theorem test_decode : Sys2Proof.decodeTableWord 8 0 = none := by decide

end Sys2Proof.Tests
end

section
namespace Sys2Proof.Machine

/-! ## What a command keeps of the flags and of SAU's copies -/

/-- R152, R190: what SAU holds of a zone as it was reported. -/
def Lone.copies (l : Lone) : Nat × Option Nat × Bool := (l.count, l.sole, l.afterHours)

/-- R152, R46: what RU and CSU report of a zone now. -/
def State.reported (s : State) (z : ZoneId) : Nat × Option Nat × Bool :=
  ((s.roster z).length, soleOf (s.roster z), s.afterHours z)

/-- R190: law 12 of one timer: out of IDLE it has a lone condition. -/
def Lone.onlyAlone (l : Lone) : Prop := l.state ≠ .idle → l.condition.isSome = true

/-- R190, law 12: SAU's copies are current and its timers lawful. -/
def State.loneCurrent (s : State) : Prop := s.loneCopiesCurrent ∧ s.loneOnlyAlone

/-- `t` comes from `s` by work that takes no second, after which the after-hours flags are as current as before, and so are SAU's
copies and the lone-worker timers under law 12. -/
structure State.Keeps (s t : State) : Prop where
  ticks : t.csu.ticks = s.csu.ticks
  hours : s.afterHoursCurrent → t.afterHoursCurrent
  lone : s.loneCurrent → t.loneCurrent

theorem loneCopiesCurrent_iff (s : State) :
    s.loneCopiesCurrent ↔ ∀ z : ZoneId, z ≠ 0 → (s.lone z).copies = s.reported z := by
  simp [State.loneCopiesCurrent, Lone.copies, State.reported]

theorem Lone.condition_congr {l m : Lone} (h : m.copies = l.copies) : m.condition = l.condition := by
  simp only [Lone.copies, Prod.mk.injEq] at h
  simp [Lone.condition, h]

namespace State.Keeps

theorem refl (s : State) : s.Keeps s := ⟨rfl, id, id⟩

theorem trans {r s t : State} (h : r.Keeps s) (k : s.Keeps t) : r.Keeps t :=
  ⟨k.ticks.trans h.ticks, k.hours ∘ h.hours, k.lone ∘ h.lone⟩

/-- What the flags, the copies and the timers are read from stands as it was. -/
theorem of_views {s t : State} (ticks : t.csu.ticks = s.csu.ticks) (flags : t.csu.afterHours = s.csu.afterHours)
    (covers : ∀ z, t.csu.covers (t.zone z).staffed = s.csu.covers (s.zone z).staffed)
    (rosters : t.ru.rosters = s.ru.rosters) (lone : t.sau.lone = s.sau.lone) : s.Keeps t := by
  have flag (z) : t.afterHours z = s.afterHours z := congrArg (fun v => v.get z) flags
  have roster (z) : t.roster z = s.roster z := congrArg (fun v => v.get z) rosters
  have timer (z) : t.lone z = s.lone z := congrArg (fun v => v.get z) lone
  refine ⟨ticks, fun h z => ?_, fun h => ⟨fun z hz => ?_, fun z => ?_⟩⟩
  · rw [flag, covers]; exact h z
  · rw [flag, roster, timer]; exact h.1 z hz
  · rw [timer]; exact h.2 z

/-- Work on other blocks and on other fields of SAU. -/
theorem elsewhere {s t : State} (h : t.csu = s.csu ∧ t.ru = s.ru ∧ t.sau.lone = s.sau.lone) : s.Keeps t := by
  obtain ⟨csu, ru, lone⟩ := h
  exact of_views (by rw [csu]) (by rw [csu]) (fun z => by simp [State.zone, csu, ru]) (by rw [ru]) lone

/-- Such work follows. -/
theorem frame {r s t : State} (h : r.Keeps s) (rest : t.csu = s.csu ∧ t.ru = s.ru ∧ t.sau.lone = s.sau.lone) : r.Keeps t :=
  h.trans (elsewhere rest)

/-- A loop of such work. -/
theorem foldl {β : Type} {f : State → β → State} (h : ∀ (t : State) (x : β), t.Keeps (f t x)) (l : List β) (s : State) :
    s.Keeps (l.foldl f s) := by
  induction l generalizing s with
  | nil => exact refl s
  | cons x l ih => exact (h s x).trans (ih _)

/-- R190: a timer moves while the values it rests on stand. -/
theorem setLone {s : State} {z : ZoneId} {l : Lone} (copies : l.copies = (s.lone z).copies)
    (alone : (s.lone z).onlyAlone → l.onlyAlone) : s.Keeps (s.setLone z l) := by
  have timer (k) : (s.setLone z l).lone k = if k = z then l else s.lone k := lone_setLone s z k l
  refine ⟨rfl, fun h => h, fun h => ⟨(loneCopiesCurrent_iff _).2 fun k hk => ?_, fun k => ?_⟩⟩
  · have hc : (s.lone k).copies = s.reported k := (loneCopiesCurrent_iff s).1 h.1 k hk
    rw [timer]
    split
    · next e => subst e; exact copies.trans hc
    · exact hc
  · rw [timer]
    split
    · exact alone (h.2 z)
    · exact h.2 k

end State.Keeps

/-! ## What the tones and the channels leave of SAU's timers -/

section
variable (s : State)

@[simp] theorem toneNotice_sau_lone (z : ZoneId) (t : Tone) : (s.toneNotice z t).sau.lone = s.sau.lone := by
  unfold State.toneNotice; dsimp only; split <;> simp
@[simp] theorem notifyTone_sau_lone (c : ChannelId) (t : Tone) : (s.notifyTone c t).sau.lone = s.sau.lone := by
  unfold State.notifyTone; split <;> simp
@[simp] theorem changeTone_sau_lone (c : ChannelId) (t : Tone) : (s.changeTone c t).sau.lone = s.sau.lone := by
  unfold State.changeTone; dsimp only; split <;> simp
@[simp] theorem toneOff_sau_lone (c : ChannelId) (t : Tone) : (s.toneOff c t).sau.lone = s.sau.lone := by
  unfold State.toneOff; split <;> simp
@[simp] theorem holdCountdown_sau_lone (c : ChannelId) : (s.holdCountdown c).sau.lone = s.sau.lone := by
  simp [State.holdCountdown]
@[simp] theorem resumeCountdown_sau_lone (c : ChannelId) : (s.resumeCountdown c).sau.lone = s.sau.lone := by
  simp [State.resumeCountdown]
@[simp] theorem recompute_sau_lone (c : ChannelId) : (s.recompute c).sau.lone = s.sau.lone := by
  unfold State.recompute; dsimp only; (repeat' split) <;> simp
@[simp] theorem recomputeZone_sau_lone (z : ZoneId) : (s.recomputeZone z).sau.lone = s.sau.lone := by
  unfold State.recomputeZone; split <;> simp
@[simp] theorem recomputeZones_sau_lone (p : ZoneId → Bool) : (s.recomputeZones p).sau.lone = s.sau.lone :=
  foldl_keeps (fun t => t.sau.lone) _ (fun t z => by split <;> simp) _ _
@[simp] theorem startCountdown_sau_lone (c : ChannelId) : (s.startCountdown c).sau.lone = s.sau.lone := by
  unfold State.startCountdown State.notifyLockout; dsimp only; (repeat' split) <;> simp
@[simp] theorem offerLatch_sau_lone (c : ChannelId) (g : Group) : (s.offerLatch c g).sau.lone = s.sau.lone := by
  unfold State.offerLatch State.firstAlarm State.notifyLockout; dsimp only; (repeat' split) <;> simp
@[simp] theorem detectorReport_sau_lone (d : DevIx) (c : ChannelId) (g : Group) (l : DetectorLevel) :
    (s.detectorReport d c g l).sau.lone = s.sau.lone := by
  unfold State.detectorReport; dsimp only; (repeat' split) <;> simp
@[simp] theorem manualRelease_sau_lone (c : ChannelId) (d : Option DevIx) : (s.manualRelease c d).sau.lone = s.sau.lone := by
  unfold State.manualRelease; dsimp only; split <;> simp
@[simp] theorem releaseStationReport_sau_lone (d : DevIx) (c : ChannelId) (b : Bool) :
    (s.releaseStationReport d c b).sau.lone = s.sau.lone := by
  unfold State.releaseStationReport; dsimp only; split <;> simp
@[simp] theorem setAbortStation_sau_lone (d : DevIx) (c : ChannelId) (b : Bool) :
    (s.setAbortStation d c b).sau.lone = s.sau.lone := by
  simp [State.setAbortStation]
@[simp] theorem release_sau_lone (c : ChannelId) : (s.release c).sau.lone = s.sau.lone := by
  unfold State.release State.confirmRelease; dsimp only; split <;> simp
@[simp] theorem lockOut_sau_lone (c : ChannelId) (r : LockoutReason) : (s.lockOut c r).sau.lone = s.sau.lone := by
  unfold State.lockOut; dsimp only; split <;> simp
@[simp] theorem keyNotice_sau_lone (g : GiId) (c : ChannelId) (b : Bool) : (s.keyNotice g c b).sau.lone = s.sau.lone := by
  unfold State.keyNotice; split <;> simp
@[simp] theorem abortLineNotice_sau_lone (c : ChannelId) (b : Bool) : (s.abortLineNotice c b).sau.lone = s.sau.lone := by
  simp [State.abortLineNotice]
@[simp] theorem scZoneNotice_sau_lone (z : ZoneId) (st : ZoneStatus) (n : Nat) :
    (s.scZoneNotice z st n).sau.lone = s.sau.lone := by
  simp [State.scZoneNotice]
@[simp] theorem scAlarmNotice_sau_lone (z : ZoneId) (b : Bool) : (s.scAlarmNotice z b).sau.lone = s.sau.lone := by
  simp [State.scAlarmNotice]
@[simp] theorem scDoorNotice_sau_lone (d : DoorId) (v : Option DoorView) : (s.scDoorNotice d v).sau.lone = s.sau.lone := by
  simp [State.scDoorNotice]
@[simp] theorem scPresence_sau_lone (d : DevIx) (r : DevRole) : (s.scPresence d r).sau.lone = s.sau.lone := by
  unfold State.scPresence; split <;> simp
@[simp] theorem setContact_sau_lone (d : DoorId) (c : Contact) : (s.setContact d c).sau.lone = s.sau.lone := by
  unfold State.setContact; dsimp only; split <;> simp
@[simp] theorem alarmNotices_sau_lone (b : State) : (b.alarmNotices s).sau.lone = s.sau.lone :=
  foldl_keeps (fun t => t.sau.lone) _ (fun t z => by split <;> simp) _ _
@[simp] theorem restartFc_sau_lone : s.restartFc.sau.lone = s.sau.lone := by
  unfold State.restartFc
  exact (foldl_keeps (fun t => t.sau.lone) _ (by simp) _ _).trans
    (foldl_keeps (fun t => t.sau.lone) _ (by simp) _ _)
@[simp] theorem restartDoor_sau_lone (d : DoorId) : (s.restartDoor d).sau.lone = s.sau.lone := by
  unfold State.restartDoor; dsimp only; split <;> simp
@[simp] theorem resetChannel_sau_lone (c : ChannelId) : (s.resetChannel c).sau.lone = s.sau.lone := by
  simp [State.resetChannel]
@[simp] theorem acceptFrame_sau_lone (d : DevIx) (e : LoopEnd) (f : Frame) : (s.acceptFrame d e f).sau.lone = s.sau.lone := by
  unfold State.acceptFrame; dsimp only; split <;> simp
@[simp] theorem ownerOfMissing_sau_lone (d : DevIx) (r : DevRole) : (s.ownerOfMissing d r).sau.lone = s.sau.lone := by
  unfold State.ownerOfMissing State.doorUnitMissing; dsimp only; (repeat' split) <;> simp
@[simp] theorem deviceGone_sau_lone (d : DevIx) : (s.deviceGone d).sau.lone = s.sau.lone := by
  simp [State.deviceGone]
@[simp] theorem storeDevice_sau_lone (d : DevIx) (r : DevRole) (b : Byte) : (s.storeDevice d r b).sau.lone = s.sau.lone := by
  simp [State.storeDevice]
@[simp] theorem storeDoor_sau_lone (d : DoorId) (e : DoorEntry) : (s.storeDoor d e).sau.lone = s.sau.lone := by
  unfold State.storeDoor; dsimp only; split <;> (repeat' split) <;> simp
@[simp] theorem endFunction_sau_lone (g : GiId) : (s.endFunction g).sau.lone = s.sau.lone := by
  unfold State.endFunction; split <;> simp
@[simp] theorem recoveryExpired_sau_lone (l : InputLine) : (s.recoveryExpired l).sau.lone = s.sau.lone := by
  unfold State.recoveryExpired; dsimp only; (repeat' split) <;> simp

end

end Sys2Proof.Machine
end

section
namespace Sys2Proof.Machine

/-! ## The lone-worker timers -/

/-- R195: the zone sounders have no part in the timers. -/
theorem lone_sauTone (s : State) (z k : ZoneId) (t : Tone) : (s.sauTone z t).lone k = s.lone k := by
  simp [State.lone]

theorem lone_post (s : State) (kind : EventKind) (door : Option DoorId) (zone : Option ZoneId) (channel : Option ChannelId)
    (subject : Option Subject) (reason : Option Nat) (k : ZoneId) :
    (s.post kind door zone channel subject reason).lone k = s.lone k := by
  simp [State.lone]

theorem lone_goIdle (s : State) (z k : ZoneId) : (s.goIdle z).lone k = if k = z then (s.lone z).toIdle else s.lone k := by
  have h : (s.goIdle z).lone k = (s.setLone z (s.lone z).toIdle).lone k := by
    unfold State.goIdle; dsimp only; split
    · exact lone_sauTone _ _ _ _
    · rfl
  exact h.trans (lone_setLone s z k _)

/-- R191: a timer that starts RUNNING for the zone. -/
def State.runningLone (s : State) (z : ZoneId) (number : Nat) : Lone :=
  let seconds := s.checkInInterval z number * 60
  { s.lone z with
    state := .running, interval := seconds, intervalTimer := s.after seconds, graceTimer := none, repeatTimer := none
    prompts := 0 }

theorem lone_startRunning (s : State) (z k : ZoneId) (n : Nat) :
    (s.startRunning z n).lone k = if k = z then s.runningLone z n else s.lone k :=
  lone_setLone s z k _

theorem toIdle_copies (l : Lone) : l.toIdle.copies = l.copies := rfl

theorem runningLone_copies (s : State) (z : ZoneId) (n : Nat) : (s.runningLone z n).copies = (s.lone z).copies := rfl

theorem toIdle_onlyAlone (l : Lone) : l.toIdle.onlyAlone := fun h => absurd rfl h

/-- A timer whose condition stands may be in any state. -/
theorem Lone.onlyAlone_of_condition {l : Lone} {n : Nat} (h : l.condition = some n) : l.onlyAlone :=
  fun _ => by rw [h]; rfl

/-- R190: what a change of values does to the timers of the other zones, and to what it knows of its own: nothing. -/
theorem loneChanged_copies (s : State) (z k : ZoneId) (old : Option Nat) :
    ((s.loneChanged z old).lone k).copies = (s.lone k).copies := by
  have idle : ((s.goIdle z).lone k).copies = (s.lone k).copies := by
    rw [lone_goIdle]
    split
    · next e => subst e; exact toIdle_copies _
    · rfl
  unfold State.loneChanged; dsimp only
  split
  · rfl
  · split
    · exact idle
    · rw [lone_startRunning]
      split
      · next e => subst e; exact (runningLone_copies _ _ _).trans idle
      · exact idle

/-- R190: the timers stay lawful when the values of zone `z` have changed, its condition having been `old`. -/
theorem loneChanged_onlyAlone {s : State} {z : ZoneId} {old : Option Nat} (others : ∀ k, k ≠ z → (s.lone k).onlyAlone)
    (own : (s.lone z).state ≠ .idle → old.isSome = true) : (s.loneChanged z old).loneOnlyAlone := by
  intro k
  show ((s.loneChanged z old).lone k).onlyAlone
  unfold State.loneChanged; dsimp only
  split
  · next same =>
    by_cases e : k = z
    · subst e; exact fun h => same ▸ own h
    · exact others k e
  · split
    · rw [lone_goIdle]
      split
      · exact toIdle_onlyAlone _
      · next e => exact others k e
    · next n condition =>
      rw [lone_startRunning]
      split
      · refine Lone.onlyAlone_of_condition (n := n) (Eq.trans (Lone.condition_congr ?_) condition)
        rw [runningLone_copies, lone_goIdle, if_pos rfl, toIdle_copies]
      · next e => rw [lone_goIdle, if_neg e]; exact others k e

/-- R190: the values of a zone's timer are replaced, and the timer acts on the change. -/
theorem setLone_loneChanged {s : State} {z : ZoneId} {l : Lone} (state : l.state = (s.lone z).state) :
    (∀ k, (((s.setLone z l).loneChanged z (s.lone z).condition).lone k).copies = if k = z then l.copies else (s.lone k).copies)
      ∧ (s.loneOnlyAlone → ((s.setLone z l).loneChanged z (s.lone z).condition).loneOnlyAlone) := by
  refine ⟨fun k => ?_, fun h => loneChanged_onlyAlone (fun k hk => ?_) fun hs => ?_⟩
  · rw [loneChanged_copies, lone_setLone]; split <;> rfl
  · rw [lone_setLone, if_neg hk]; exact h k
  · rw [lone_setLone_self, state] at hs; exact h z hs

theorem loneZoneNotice_copies (s : State) (z k : ZoneId) (count : Nat) (sole : Option Nat) :
    ((s.loneZoneNotice z count sole).lone k).copies
      = if k = z then (count, sole, (s.lone z).afterHours) else (s.lone k).copies :=
  (setLone_loneChanged (l := { s.lone z with count, sole }) rfl).1 k

theorem loneZoneNotice_onlyAlone {s : State} (h : s.loneOnlyAlone) (z : ZoneId) (count : Nat) (sole : Option Nat) :
    (s.loneZoneNotice z count sole).loneOnlyAlone :=
  (setLone_loneChanged (l := { s.lone z with count, sole }) rfl).2 h

theorem loneAfterHours_copies (s : State) (z k : ZoneId) (flag : Bool) :
    ((s.loneAfterHours z flag).lone k).copies
      = if k = z then ((s.lone z).count, (s.lone z).sole, flag) else (s.lone k).copies :=
  (setLone_loneChanged (l := { s.lone z with afterHours := flag }) rfl).1 k

theorem loneAfterHours_onlyAlone {s : State} (h : s.loneOnlyAlone) (z : ZoneId) (flag : Bool) :
    (s.loneAfterHours z flag).loneOnlyAlone :=
  (setLone_loneChanged (l := { s.lone z with afterHours := flag }) rfl).2 h

namespace State.Keeps

theorem goIdle (s : State) (z : ZoneId) : s.Keeps (s.goIdle z) := by
  have h : s.Keeps (s.setLone z (s.lone z).toIdle) := setLone (toIdle_copies _) fun _ => toIdle_onlyAlone _
  unfold State.goIdle; dsimp only; split
  · exact h.frame (by simp)
  · exact h

/-- R191: a timer starts RUNNING where there is a lone condition. -/
theorem startRunning {s : State} {z : ZoneId} {n : Nat} (h : (s.lone z).condition = some n) :
    s.Keeps (s.startRunning z n) :=
  setLone (runningLone_copies s z n) fun _ =>
    Lone.onlyAlone_of_condition ((Lone.condition_congr (runningLone_copies s z n)).trans h)

theorem leaveOverdue (s : State) (z : ZoneId) : s.Keeps (s.leaveOverdue z) := by
  unfold State.leaveOverdue; split
  · split
    · next n h => exact startRunning h
    · exact goIdle s z
  · exact refl s

theorem checkIn (s : State) (z : ZoneId) : s.Keeps (s.checkIn z) := by
  unfold State.checkIn; dsimp only; split
  · exact setLone rfl id
  · have cleared : s.Keeps ((s.setLone z { s.lone z with graceTimer := none, repeatTimer := none }).sauTone z .off) :=
      (setLone (z := z) (l := { s.lone z with graceTimer := none, repeatTimer := none }) rfl id).frame (by simp)
    split
    · next n h =>
      refine (cleared.frame (t := State.post _ _ _ _ _ _ _) (by simp)).trans (startRunning ?_)
      rw [lone_post, lone_sauTone, lone_setLone_self]; exact h
    · exact cleared
  · exact refl s
  · exact refl s

theorem badgeCheckIn (s : State) (door : DoorId) (number : Nat) : s.Keeps (s.badgeCheckIn door number) :=
  foldl (fun t z => by split; exacts [checkIn t z, refl t]) _ s

/-- R193: a timer out of IDLE stays out of IDLE, its values unchanged, and a tone and an event follow. -/
theorem issuePrompt {s : State} {z : ZoneId} {l : Lone} (copies : l.copies = (s.lone z).copies)
    (state : (s.lone z).state ≠ .idle) (n : Nat) : s.Keeps ((s.setLone z l).issuePrompt z n) :=
  (setLone copies fun h _ => (congrArg Option.isSome (Lone.condition_congr copies)).trans (h state)).frame (by simp [State.issuePrompt])

theorem enterPrompt {s : State} {z : ZoneId} (h : (s.lone z).state ≠ .idle) : s.Keeps (s.enterPrompt z) :=
  issuePrompt (by rfl) h 1

theorem repeatPrompt {s : State} {z : ZoneId} (h : (s.lone z).state ≠ .idle) : s.Keeps (s.repeatPrompt z) :=
  issuePrompt (by rfl) h _

theorem recordGone (s : State) (r : AlarmRecord) : s.Keeps (s.recordGone r) := by
  unfold State.recordGone; split
  · exact foldl (fun t z => by split; exacts [leaveOverdue t z, refl t]) _ s
  all_goals exact refl s

theorem removeAlarm (s : State) (i reason : Nat) : s.Keeps (s.removeAlarm i reason) := by
  unfold State.removeAlarm; split
  · exact (elsewhere (by simp)).trans (recordGone _ _)
  · exact refl s

theorem addAlarm (s : State) (i : AlarmIdentity) (z : ZoneId) (door : Option DoorId) : s.Keeps (s.addAlarm i z door) :=
  elsewhere (by simp [State.addAlarm, State.postAlarm])

theorem takeRaise (s : State) (i : AlarmIdentity) (z : ZoneId) (door : Option DoorId) : s.Keeps (s.takeRaise i z door) := by
  unfold State.takeRaise State.postAlarm; split
  · exact elsewhere (by simp)
  · split
    · exact addAlarm s i z door
    · split
      · exact (removeAlarm s _ 1).trans (addAlarm _ i z door)
      · exact elsewhere (by simp)

theorem raiseAlarm (s : State) (i : AlarmIdentity) (z : ZoneId) (door : Option DoorId) : s.Keeps (s.raiseAlarm i z door) :=
  (takeRaise s i z door).frame (by simp [State.raiseAlarm])

theorem pendantReport (s : State) (z : ZoneId) (pendant : Nat) (kind : PendantKind) :
    s.Keeps (s.pendantReport z pendant kind) := by
  cases kind
  · exact raiseAlarm s _ z none
  · exact raiseAlarm s _ z none
  · exact checkIn s z

theorem enterOverdue {s : State} {z : ZoneId} (h : (s.lone z).state ≠ .idle) : s.Keeps (s.enterOverdue z) := by
  have held : s.Keeps (s.setLone z { s.lone z with state := .overdue, graceTimer := none, repeatTimer := none }) :=
    setLone rfl fun alone _ => alone h
  unfold State.enterOverdue; dsimp only; split
  · next n _ => exact (held.trans (raiseAlarm _ (.overdue n) z none)).frame (by simp)
  · exact held.frame (by simp)

theorem clearAlarm (s : State) (i : Nat) : s.Keeps (s.clearAlarm i) :=
  (removeAlarm s i 2).frame (by simp [State.clearAlarm])

theorem clearOverflow (s : State) (z : ZoneId) : s.Keeps (s.clearOverflow z) := by
  have cleared : s.Keeps ((s.setAlarmOverflow z false).post .alarmOverflowCleared (zone := some z)) := elsewhere (by simp)
  unfold State.clearOverflow; dsimp only; split
  · exact (cleared.trans (leaveOverdue _ z)).frame (by simp)
  · exact cleared.frame (by simp)

end State.Keeps

/-! ## Zone notices: SAU's copies follow the rosters -/

theorem giveZoneNotice_copies (s : State) (z k : ZoneId) (n : ZoneNotice) :
    ((s.giveZoneNotice z n).lone k).copies
      = if k = z then (n.count, n.sole, (s.lone z).afterHours) else (s.lone k).copies := by
  have h (j) : (s.scZoneNotice z n.status n.count).lone j = s.lone j := by simp [State.lone]
  rw [State.giveZoneNotice, loneZoneNotice_copies, h, h]

theorem giveZoneNotice_onlyAlone {s : State} (h : s.loneOnlyAlone) (z : ZoneId) (n : ZoneNotice) :
    (s.giveZoneNotice z n).loneOnlyAlone := by
  refine loneZoneNotice_onlyAlone (fun k => ?_) z _ _
  have e : (s.scZoneNotice z n.status n.count).lone k = s.lone k := by simp [State.lone]
  rw [e]; exact h k

/-- R152: the zones of a list for which `p` holds are given their notices. -/
theorem giveZoneNotices (n : ZoneId → ZoneNotice) (p : ZoneId → Prop) [DecidablePred p] (l : List ZoneId) (s : State) :
    let t := l.foldl (fun t z => if p z then t else t.giveZoneNotice z (n z)) s
    (s.loneOnlyAlone → t.loneOnlyAlone)
      ∧ ∀ k, (t.lone k).copies
          = if k ∈ l ∧ ¬ p k then ((n k).count, (n k).sole, (s.lone k).afterHours) else (s.lone k).copies := by
  induction l generalizing s with
  | nil => exact ⟨id, by simp⟩
  | cons z l ih =>
    simp only [List.foldl_cons]
    by_cases hz : p z
    · rw [if_pos hz]
      refine ⟨(ih s).1, fun k => ((ih s).2 k).trans ?_⟩
      by_cases e : k = z
      · subst e; simp [hz]
      · simp [e]
    · rw [if_neg hz]
      obtain ⟨alone, copies⟩ := ih (s.giveZoneNotice z (n z))
      refine ⟨fun h => alone (giveZoneNotice_onlyAlone h z _), fun k => (copies k).trans ?_⟩
      have given := giveZoneNotice_copies s z k (n z)
      have hours : ((s.giveZoneNotice z (n z)).lone k).afterHours = (s.lone k).afterHours := by
        have h := congrArg (fun x => x.2.2) given
        by_cases e : k = z
        · subst e; simpa [Lone.copies] using h
        · simpa [Lone.copies, e] using h
      rw [hours, given]
      by_cases e : k = z
      · subst e; simp [hz]
      · simp [e]

theorem mem_trackedZones {z : ZoneId} : z ∈ trackedZones ↔ z ≠ 0 := by
  simp [trackedZones, allZones]

namespace State.Keeps

/-- R152: RU's work on the rosters, followed by the notices of what it changed. -/
theorem zoneNotices {s u : State} (h : u.csu = s.csu ∧ u.ru.zones = s.ru.zones ∧ u.sau.lone = s.sau.lone) :
    s.Keeps (s.zoneNotices u) := by
  obtain ⟨csu, zones, lone⟩ := h
  obtain ⟨alone, copies⟩ := giveZoneNotices u.zoneNow (fun z => u.zoneNow z = s.zoneNow z) trackedZones u
  have timer (z) : u.lone z = s.lone z := congrArg (fun v => v.get z) lone
  refine ⟨by simp [csu], fun h z => ?_, fun h => ⟨(loneCopiesCurrent_iff _).2 fun z hz => ?_, ?_⟩⟩
  · simpa [State.afterHours, State.zone, csu, zones] using h z
  · have before : (s.lone z).copies = s.reported z := (loneCopiesCurrent_iff s).1 h.1 z hz
    have hours : (s.lone z).afterHours = s.afterHours z := congrArg (fun x => x.2.2) before
    have told : (s.zoneNotices u).reported z = ((u.zoneNow z).count, (u.zoneNow z).sole, s.afterHours z) := by
      simp [State.reported, State.zoneNow, State.roster, State.afterHours, csu]
    refine (copies z).trans ?_
    rw [told, timer, before, hours]
    by_cases same : u.zoneNow z = s.zoneNow z
    · rw [if_neg fun h => h.2 same, same]; rfl
    · rw [if_pos ⟨mem_trackedZones.2 hz, same⟩]
  · refine alone fun z => ?_
    rw [timer]; exact h.2 z

end State.Keeps

/-! ## The after-hours flags -/

/-- R43: the flags are no part of what a schedule's cover is read from. -/
theorem covers_afterHours (c : Csu) (flags : Vector Bool 12) (n : SchedId) :
    Csu.covers { c with afterHours := flags } n = c.covers n := rfl

theorem refreshAfterHours_covers (s : State) (n : SchedId) : s.refreshAfterHours.csu.covers n = s.csu.covers n := by
  rw [refreshAfterHours_csu]; exact covers_afterHours _ _ n

/-- R46: after a recomputation every flag is current. -/
theorem refreshAfterHours_hours (s : State) : s.refreshAfterHours.afterHoursCurrent := by
  intro z
  have zone : s.refreshAfterHours.zone z = s.zone z := by simp [State.zone]
  rw [refreshAfterHours_flag, refreshAfterHours_covers, zone]

theorem lone_setAfterHours (s : State) (z k : ZoneId) (flag : Bool) : (s.setAfterHours z flag).lone k = s.lone k := rfl

/-- R46, R190: a flag changes and SAU is told. -/
theorem tellAfterHours_loneCurrent {s : State} (h : s.loneCurrent) (z : ZoneId) (flag : Bool) :
    ((s.setAfterHours z flag).loneAfterHours z flag).loneCurrent := by
  obtain ⟨copies, alone⟩ := h
  have alone' : (s.setAfterHours z flag).loneOnlyAlone :=
    fun k => by rw [lone_setAfterHours]; exact alone k
  refine ⟨fun k hk => ?_, loneAfterHours_onlyAlone alone' z flag⟩
  have told := loneAfterHours_copies (s.setAfterHours z flag) z k flag
  have roster : ((s.setAfterHours z flag).loneAfterHours z flag).roster k = s.roster k := by simp [State.roster]
  have hours : ((s.setAfterHours z flag).loneAfterHours z flag).afterHours k = if k = z then flag else s.afterHours k := by
    simp [State.afterHours]
  obtain ⟨count, sole, flags⟩ := copies k hk
  rw [roster, hours]
  by_cases e : k = z
  · subst e
    simp only [if_true, Lone.copies, Prod.mk.injEq] at told ⊢
    exact ⟨told.1.trans count, told.2.1.trans sole, told.2.2⟩
  · simp only [if_neg e, Lone.copies, Prod.mk.injEq] at told ⊢
    exact ⟨told.1.trans count, told.2.1.trans sole, told.2.2.trans flags⟩

/-- R46, R190: SAU is told of each flag that changes, and keeps its copies and law 12. -/
theorem refreshAfterHours_loneCurrent {s : State} (h : s.loneCurrent) : s.refreshAfterHours.loneCurrent := by
  unfold State.refreshAfterHours
  refine List.foldlRecOn (motive := State.loneCurrent) allZones _ h fun t ht z _ => ?_
  dsimp only
  split
  · exact ht
  · exact tellAfterHours_loneCurrent ht z _

/-- R46: CSU's work on the clock or on the lists it reads, and RU's on a staffed schedule, followed by a recomputation. -/
theorem State.Keeps.refresh {s u : State}
    (h : u.csu.ticks = s.csu.ticks ∧ u.csu.afterHours = s.csu.afterHours ∧ u.ru.rosters = s.ru.rosters
      ∧ u.sau.lone = s.sau.lone) : s.Keeps u.refreshAfterHours := by
  obtain ⟨ticks, flags, rosters, lone⟩ := h
  refine ⟨by rw [refreshAfterHours_csu]; exact ticks, fun _ => refreshAfterHours_hours u,
    fun h => refreshAfterHours_loneCurrent ⟨fun z hz => ?_, fun z => ?_⟩⟩
  · simpa [State.lone, State.roster, State.afterHours, flags, rosters, lone] using h.1 z hz
  · simpa [State.lone, lone] using h.2 z

end Sys2Proof.Machine
end

section
namespace Sys2Proof.Machine

/-! ## Passages: RU leaves the zone entries alone -/

@[simp] theorem makeUnknown_ru_zones (s : State) (z : ZoneId) (r : UnknownReason) :
    (s.makeUnknown z r).ru.zones = s.ru.zones := by
  unfold State.makeUnknown; split <;> simp
@[simp] theorem makeBothUnknown_ru_zones (s : State) (outer inner : ZoneId) :
    (s.makeBothUnknown outer inner).ru.zones = s.ru.zones := by
  simp [State.makeBothUnknown]
@[simp] theorem moveCredential_ru_zones (s : State) (door : DoorId) (dest : ZoneId) (custodian : Bool) (c : PassageCred) :
    (s.moveCredential door dest custodian c).ru.zones = s.ru.zones := by
  have removed : (s.removeEntry c.number).ru.zones = s.ru.zones := foldl_keeps (fun t => t.ru.zones) _ (by simp) _ _
  unfold State.moveCredential; dsimp only; split
  · exact removed
  · split
    · simpa using removed
    · simpa using removed
@[simp] theorem applyPassage_ru_zones (s : State) (door : DoorId) (p : Passage) :
    (s.applyPassage door p).ru.zones = s.ru.zones := by
  unfold State.applyPassage; split
  · exact foldl_keeps (fun t => t.ru.zones) _ (by simp) _ _
  · simp

namespace State.Keeps

/-! ## Zones -/

theorem openingNotice (s : State) (outer inner : ZoneId) : s.Keeps (s.openingNotice outer inner) := zoneNotices (by simp)

theorem verify (s : State) (z : ZoneId) (r : VerifyReason) : s.Keeps (s.verify z r) := zoneNotices (by simp)

theorem clearKeyNotice (s : State) (z : ZoneId) : s.Keeps (s.clearKeyNotice z) := by
  unfold State.clearKeyNotice; split
  · exact elsewhere (by simp)
  · exact verify s z .key

/-! ## Doors -/

theorem confirmPassage (s : State) (d : DoorId) (p : Passage) : s.Keeps (s.confirmPassage d p) := by
  have applied : s.Keeps (s.zoneNotices (s.applyPassage d p)) := zoneNotices (by simp)
  unfold State.confirmPassage; exact applied.frame (by simp)

theorem confirmWithEgress (s : State) (d : DoorId) (p : Passage) : s.Keeps (s.confirmWithEgress d p) := by
  unfold State.confirmWithEgress; exact zoneNotices (by simp)

theorem unattributed (s : State) (d : DoorId) (r : EgressReason) : s.Keeps (s.unattributed d r) := by
  have told : s.Keeps (s.postDoor .unattributedEgress d (reason := some r.code)) := elsewhere (by simp)
  exact told.trans (openingNotice _ _ _)

theorem judgeOpening (s : State) (d : DoorId) (c : Contact) (handle : Bool) : s.Keeps (s.judgeOpening d c handle) := by
  have opened (r : EgressReason) : s.Keeps ((s.setOpen d).unattributed d r) :=
    (elsewhere (t := s.setOpen d) (by simp)).trans (unattributed _ d r)
  have forced : s.Keeps ((s.setDoor d { s.door d with state := .forced }).postDoor .doorForced d) := elsewhere (by simp)
  unfold State.judgeOpening; split
  · exact opened .contact
  all_goals
    split
    · exact opened .handle
    · exact forced.trans (openingNotice _ _ _)

theorem faultEndsOpen (s : State) (d : DoorId) : s.Keeps (s.faultEndsOpen d) := by
  have opened : s.Keeps ((s.setOpen d).postDoor .doorFaultCleared d (reason := some (faultClearedReason true))) :=
    elsewhere (by simp)
  exact opened.trans (unattributed _ d .contact)

theorem confirmHeld (s : State) (d : DoorId) (handle : Bool) : s.Keeps (s.confirmHeld d handle) := by
  have opened : s.Keeps (s.setOpen d) := elsewhere (by simp)
  unfold State.confirmHeld; dsimp only; split
  · exact refl s
  · split
    · exact opened.trans (confirmWithEgress _ d _)
    · exact opened.trans (confirmPassage _ d _)

theorem plainContact (s : State) (d : DoorId) (c : Contact) (opened handle : Bool) :
    s.Keeps (s.plainContact d c opened handle) := by
  unfold State.plainContact; dsimp only; split
  · split
    · exact judgeOpening s d c handle
    · exact refl s
  · split
    · exact confirmHeld s d handle
    · exact refl s
  iterate 3
    split
    · exact refl s
    · split <;> exact elsewhere (by simp)
  · split
    · exact faultEndsOpen s d
    · exact elsewhere (by simp)
  all_goals exact refl s

theorem plainGrant (s : State) (g : Grant) : s.Keeps (s.plainGrant g).1 := by
  have confirmed (list : List PassageCred) : s.Keeps (s.confirmAtOnce g list false) := confirmPassage s g.door _
  unfold State.plainGrant; dsimp only; split
  · split <;> exact elsewhere (by simp)
  · split
    · split <;> exact elsewhere (by simp)
    · exact elsewhere (by simp)
  iterate 3
    split
    · next e _ => exact (confirmed (g.pairedList e)).frame (by simp)
    · exact (confirmed g.list).frame (by simp)
  · have shown : s.Keeps ((s.driveOpt (s.door g.door).entry.unit (.unlock (s.door g.door).entry.unlockWindow)).display
        g.reader .granted) := elsewhere (by simp)
    dsimp only
    exact shown.trans (unattributed _ g.door .fault)
  all_goals exact elsewhere (by simp)

theorem strongroomExit (s : State) (g : Grant) : s.Keeps (s.strongroomExit g).1 := by
  have confirmed : s.Keeps (s.confirmAtOnce g g.list false) := confirmPassage s g.door _
  unfold State.strongroomExit; dsimp only; split
  case h_5 =>
    split
    · split <;> exact elsewhere (by simp)
    · exact elsewhere (by simp)
  case h_6 | h_7 | h_8 => exact confirmed.frame (by simp)
  all_goals exact elsewhere (by simp)

theorem takeGrant (s : State) (g : Grant) : s.Keeps (s.takeGrant g).1 := by
  unfold State.takeGrant; split
  · exact plainGrant s g
  · exact strongroomExit s g
  · exact elsewhere (by simp)

theorem custodyOpen (s : State) (c : Custody) : s.Keeps (s.custodyOpen c) := by
  have confirmed (g : Grant) : s.Keeps (s.confirmAtOnce g [c.cred] true) := confirmPassage s g.door _
  unfold State.custodyOpen; split
  · exact (confirmed { reader := c.reader, door := c.door, direction := .entry, list := [c.cred] }).frame (by simp)
  · exact elsewhere (by simp)

theorem custodyPresented (s : State) (c : Custody) : s.Keeps (s.custodyPresented c) := by
  unfold State.custodyPresented; dsimp only; split
  case h_2 => split <;> exact elsewhere (by simp)
  case h_6 | h_7 | h_8 => exact custodyOpen s c
  all_goals exact elsewhere (by simp)

theorem strongroomContact (s : State) (d : DoorId) (c : Contact) (opened handle : Bool) :
    s.Keeps (s.strongroomContact d c opened handle) := by
  have cancelled : s.Keeps (s.cancelSequence d .opened) := elsewhere (by simp)
  unfold State.strongroomContact; dsimp only; split
  · split
    · exact judgeOpening s d c handle
    · exact refl s
  iterate 3
    split
    · exact cancelled.trans (judgeOpening _ d c handle)
    · exact refl s
  · split
    · exact confirmHeld s d handle
    · exact refl s
  iterate 3
    split
    · exact refl s
    · split <;> exact elsewhere (by simp)
  · split
    · exact faultEndsOpen s d
    · exact elsewhere (by simp)
  all_goals exact refl s

theorem contactChange (s : State) (d : DoorId) (c : Contact) (handle : Bool) : s.Keeps (s.contactChange d c handle) := by
  have told : s.Keeps (s.setContact d c) := elsewhere (by simp)
  unfold State.contactChange; dsimp only; split
  · exact told.trans (plainContact _ d _ _ handle)
  · exact told.trans (strongroomContact _ d _ _ handle)
  · exact told

theorem doorStatusReport (s : State) (d : DoorId) (c : Contact) (b : Bolt) (handle : Bool) :
    s.Keeps (s.doorStatusReport d c b handle) := by
  have reported : s.Keeps (s.setDoor d { s.door d with bolt := some b }) := elsewhere (by simp)
  unfold State.doorStatusReport; dsimp only; split
  · exact reported.frame (by simp)
  · exact (reported.trans (contactChange _ d c handle)).frame (by simp)

/-! ## Presentations -/

theorem handGrant (s : State) (p : Presentation) (list : List PassageCred) : s.Keeps (s.handGrant p list) := by
  have answered := takeGrant s { reader := p.reader, door := p.door, direction := p.direction, list }
  unfold State.handGrant; dsimp only; split
  · next u taken =>
    rw [taken] at answered
    split <;> exact answered.frame (by simp)
  · next u dropped =>
    rw [dropped] at answered
    exact answered.frame (by simp)

theorem handOff (s : State) (p : Presentation) (r : CredRecord) (duress : Bool) : s.Keeps (s.handOff p r duress) := by
  unfold State.handOff; dsimp only; split
  · exact elsewhere (by simp)
  · split
    · exact custodyPresented s _
    · exact handGrant s p _

theorem checkZone (s : State) (p : Presentation) (r : CredRecord) (duress : Bool) : s.Keeps (s.checkZone p r duress) := by
  unfold State.checkZone; split
  · exact elsewhere (by simp)
  · split
    · exact elsewhere (by simp)
    · exact handOff s p r duress

theorem checkPassback (s : State) (p : Presentation) (r : CredRecord) (duress : Bool) :
    s.Keeps (s.checkPassback p r duress) := by
  unfold State.checkPassback; split
  · exact checkZone s p r duress
  · next z _ =>
    have warned : s.Keeps (s.post .passbackSoft (door := some p.door) (zone := some z)
      (subject := some (.credential p.number))) := elsewhere (by simp)
    split
    · exact elsewhere (by simp)
    · exact warned.trans (checkZone _ p r duress)
    · exact checkZone s p r duress

theorem checkCredential (s : State) (p : Presentation) (r : CredRecord) : s.Keeps (s.checkCredential p r) := by
  unfold State.checkCredential; split
  · split <;> exact elsewhere (by simp)
  · split
    · exact elsewhere (by simp)
    · exact (raiseAlarm s _ _ _).trans (checkPassback _ p r true)
    · exact checkPassback s p r false

theorem decideEntry (s : State) (p : Presentation) (a : Answer) : s.Keeps (s.decideEntry p a) := by
  unfold State.decideEntry; split
  · exact elsewhere (by simp)
  · split
    case h_1 => exact checkCredential s p _
    all_goals exact elsewhere (by simp)

theorem decideExit (s : State) (p : Presentation) (a : Answer) : s.Keeps (s.decideExit p a) := by
  unfold State.decideExit; split
  · exact elsewhere (by simp)
  · exact handGrant s p _

theorem decidePresentation (s : State) (p : Presentation) (a : Answer) : s.Keeps (s.decidePresentation p a) := by
  unfold State.decidePresentation; split
  · exact decideEntry s p a
  · exact decideExit s p a

theorem listFull (s : State) (p : Presentation) : s.Keeps (s.listFull p) := by
  unfold State.listFull; split
  · exact elsewhere (by simp)
  · exact decideExit s p .busy

theorem waitForStore (s : State) (p : Presentation) : s.Keeps (s.waitForStore p) := by
  unfold State.waitForStore; split
  · exact (elsewhere (t := s.setCsc _) (by simp)).trans (listFull _ p)
  · exact elsewhere (by simp)

theorem present (s : State) (p : Presentation) : s.Keeps (s.present p) := by
  have looked (c : Csc) : s.Keeps (s.setCsc c) := elsewhere (by simp)
  unfold State.present; split
  · exact elsewhere (by simp)
  · split
    · exact decidePresentation s p .notEnrolled
    · split
      · exact (looked _).trans (waitForStore _ p)
      · exact (looked _).trans (decidePresentation _ p _)

theorem arrive (s : State) (p : Presentation) : s.Keeps (s.arrive p) := by
  unfold State.arrive; split
  · exact elsewhere (by simp)
  · split
    · exact listFull s p
    · exact present s p

theorem badgeReport (s : State) (reader : DevIx) (door : DoorId) (side : Side) (number issue : Nat) (pin : Option Nat) :
    s.Keeps (s.badgeReport reader door side number issue pin) :=
  (badgeCheckIn s door number).trans (arrive _ _)

theorem resume (s : State) (reader : DevIx) (a : Answer) : s.Keeps (s.resume reader a) := by
  unfold State.resume; split
  · next p _ =>
    have dropped : s.Keeps { s with pe := { s.pe with waiting := s.pe.waiting.filter (fun q => q.reader != reader) } } :=
      elsewhere (by simp)
    exact dropped.trans (decidePresentation _ p a)
  · exact refl s

/-! ## Loop frames -/

theorem route (s : State) (d : DevIx) (r : Report) : s.Keeps (s.route d r) := by
  cases r with
  | badge door side number issue pin => exact badgeReport s d door side number issue pin
  | doorStatus door contact bolt handle => exact doorStatusReport s door contact bolt handle
  | detector c g level => exact elsewhere (t := s.detectorReport d c g level) (by simp)
  | abortStation c held => exact elsewhere (t := s.setAbortStation d c held) (by simp)
  | releaseStation c operated => exact elsewhere (t := s.releaseStationReport d c operated) (by simp)
  | pendant z id kind => exact pendantReport s z id kind
  | heartbeat health => exact elsewhere (t := s.healthReport d health) (by simp)

theorem deviceFrame (s : State) (d : DevIx) (arrival : LoopEnd) (f : Frame) : s.Keeps (s.deviceFrame d arrival f) := by
  have accepted : s.Keeps (s.acceptFrame d arrival f) := elsewhere (by simp)
  have forwarded : s.Keeps (if (s.device d).report then (s.acceptFrame d arrival f).forward { frame := f, arrival }
      else s.acceptFrame d arrival f) := by
    split
    · exact accepted.frame (by simp)
    · exact accepted
  unfold State.deviceFrame; dsimp only; split
  · exact elsewhere (by simp)
  · split
    · exact refl s
    · split
      · exact forwarded.trans (route _ d _)
      · exact forwarded

theorem classify (s : State) (arrival : LoopEnd) (f : Frame) : s.Keeps (s.classify arrival f) := by
  unfold State.classify; split
  · split
    · exact elsewhere (by simp)
    · exact refl s
  · split
    · split
      · exact deviceFrame s _ arrival f
      · exact refl s
    · exact refl s

theorem loopBytes (s : State) (arrival : LoopEnd) (bytes : List Byte) : s.Keeps (s.loopBytes arrival bytes) := by
  have heard : s.Keeps s.frameHeard := elsewhere (by simp)
  unfold State.loopBytes; split
  · exact heard.trans (classify _ arrival _)
  · exact refl s

theorem reachMs (s : State) (ms : Nat) : s.Keeps (s.reachMs ms) := of_views rfl rfl (fun _ => rfl) rfl rfl

/-! ## Local lines -/

theorem lineNotice (s : State) (l : InputLine) (active : Bool) : s.Keeps (s.lineNotice l active) := by
  unfold State.lineNotice; split
  · exact elsewhere (by simp)
  · exact elsewhere (by simp)
  · exact refl s
  · split
    · split
      · exact clearKeyNotice s _
      · exact refl s
    · exact elsewhere (by simp)
    all_goals exact refl s

theorem settleExpired (s : State) (l : InputLine) : s.Keeps (s.settleExpired l) := by
  unfold State.settleExpired; dsimp only; split
  · exact (elsewhere (t := s.setLine l _) (by simp)).trans (lineNotice _ l _)
  all_goals exact refl s

theorem latchNotice (s : State) (l : InputLine) : s.Keeps (s.latchNotice l) := by
  unfold State.latchNotice; split
  · exact elsewhere (by simp)
  · split
    · exact raiseAlarm s _ _ none
    all_goals exact refl s
  all_goals exact refl s

theorem pressExpired (s : State) (l : InputLine) : s.Keeps (s.pressExpired l) := by
  unfold State.pressExpired; dsimp only; split
  · exact (elsewhere (t := s.setLine l _) (by simp)).trans (latchNotice _ l)
  all_goals exact refl s

end State.Keeps

end Sys2Proof.Machine
end

section
namespace Sys2Proof.Machine

namespace State.Keeps

/-- A command that acts only under a condition. -/
theorem ite {p : Prop} [Decidable p] {s t : State} (h : p → s.Keeps t) : s.Keeps (if p then t else s) := by
  split
  · next hp => exact h hp
  · exact refl s

end State.Keeps

/-! ## RESTART -/

/-- R211: the state when the RESTART has been through RM and FC. -/
def State.restartedFc (s : State) : State :=
  { s.postRestarted with rm := s.postRestarted.rm.restart s.postRestarted.csu.ticks }.restartFc

/-- R211: the state when it has been through CSU, CSC, PE and DC. -/
def State.restartedDoors (s : State) : State :=
  allDoors.foldl State.restartDoor { s.restartedFc.refreshAfterHours.restartCsc with pe := { waiting := [] } }

/-- R211: the state when SC has silenced its sounders. -/
def State.restartedSounders (s : State) : State := s.restartedDoors.toneTo s.restartedDoors.restartSounds .off

/-- R211: what remains is SAU's, SP's and RU's part. -/
theorem restartAll_eq (s : State) :
    s.restartAll =
      State.reannounce { allZones.foldl State.restartZone s.restartedSounders with
        sp := (allZones.foldl State.restartZone s.restartedSounders).sp.restart } := rfl

/-- R197: SAU forgets what RU reported of the zone, and the timer is IDLE. -/
theorem lone_restartZone (s : State) (z k : ZoneId) :
    (s.restartZone z).lone k = if k = z then { (s.lone z).toIdle with count := 0, sole := none } else s.lone k := by
  have told (j) : (if s.alarmOverflow z then s.scAlarmNotice z true else s).lone j = s.lone j := by
    split
    · simp [State.lone]
    · rfl
  unfold State.restartZone
  simp only [lone_setLone, lone_goIdle, told, if_true]
  split <;> rfl

/-- R197: the flags that SAU knows stand, and its timers stay lawful. -/
theorem restartZones_lone (s : State) (l : List ZoneId) :
    (s.loneOnlyAlone → (l.foldl State.restartZone s).loneOnlyAlone)
      ∧ ∀ k, ((l.foldl State.restartZone s).lone k).afterHours = (s.lone k).afterHours := by
  induction l generalizing s with
  | nil => exact ⟨id, fun _ => rfl⟩
  | cons z l ih =>
    obtain ⟨alone, hours⟩ := ih (s.restartZone z)
    refine ⟨fun h => alone fun k => ?_, fun k => (hours k).trans ?_⟩
    · rw [lone_restartZone]
      split
      · exact fun out => absurd rfl out
      · exact h k
    · rw [lone_restartZone]
      split
      · next e => subst e; rfl
      · rfl

theorem restartZones_csu (s : State) (l : List ZoneId) : (l.foldl State.restartZone s).csu = s.csu :=
  foldl_keeps State.csu _ (by simp) _ _
theorem restartZones_ru (s : State) (l : List ZoneId) : (l.foldl State.restartZone s).ru = s.ru :=
  foldl_keeps State.ru _ (by simp) _ _

/-- R154: after the re-announcement SAU's copies are what RU holds. -/
theorem reannounce_loneCurrent {s : State} (alone : s.loneOnlyAlone)
    (hours : ∀ z, z ≠ 0 → (s.lone z).afterHours = s.afterHours z) : s.reannounce.loneCurrent := by
  obtain ⟨keeps, copies⟩ := giveZoneNotices s.zoneNow (fun _ => False) trackedZones s
  simp only [if_false, not_false_eq_true, and_true] at keeps copies
  refine ⟨(loneCopiesCurrent_iff _).2 fun z hz => (copies z).trans ?_, keeps alone⟩
  rw [if_pos (mem_trackedZones.2 hz), hours z hz]
  simp [State.reported, State.zoneNow, State.roster, State.afterHours]

namespace State.Keeps

/-- R154, R197: SAU forgets what it was told, and RU announces every zone anew. -/
theorem restartSau {s zones : State} (h : allZones.foldl State.restartZone s = zones) (sp : Sp) :
    s.Keeps (State.reannounce { zones with sp }) := by
  have csu : zones.csu = s.csu := h ▸ restartZones_csu s allZones
  have ru : zones.ru = s.ru := h ▸ restartZones_ru s allZones
  obtain ⟨alone, hours⟩ := restartZones_lone s allZones
  rw [h] at alone hours
  refine ⟨by simp [csu], fun current z => ?_, fun current => reannounce_loneCurrent (alone current.2) fun z hz => ?_⟩
  · simpa [State.afterHours, State.zone, csu, ru] using current z
  · refine (hours z).trans ((current.1 z hz).2.2.trans ?_)
    simp [State.afterHours, csu]

/-- R26, R27, R46: the RESTART has reached FC. -/
theorem restartedFc (s : State) : s.Keeps s.restartedFc := by
  unfold State.restartedFc; exact elsewhere (by simp)

/-- R70, R94, R115, R136: it has reached the doors. -/
theorem restartedDoors (s : State) : s.Keeps s.restartedDoors := by
  have flags : s.restartedFc.Keeps s.restartedFc.refreshAfterHours := refresh (by simp)
  have store : s.restartedFc.refreshAfterHours.Keeps
      { s.restartedFc.refreshAfterHours.restartCsc with pe := { waiting := [] } } := elsewhere (by simp)
  have doors (t : State) (d : DoorId) : t.Keeps (t.restartDoor d) := elsewhere (by simp)
  exact (restartedFc s).trans (flags.trans (store.trans (foldl doors allDoors _)))

theorem restartAll (s : State) : s.Keeps s.restartAll := by
  have silenced : s.Keeps s.restartedSounders := by
    unfold State.restartedSounders; exact (restartedDoors s).frame (by simp)
  rw [restartAll_eq]
  exact silenced.trans (restartSau rfl _)

theorem testRestart (s : State) : s.Keeps s.testRestart := by
  have tested : s.Keeps { s with sp := { s.sp with restartWaiting := false } } := elsewhere (by simp)
  unfold State.testRestart; dsimp only; split
  · split
    · exact (tested.trans (restartAll _)).frame (by simp)
    · exact tested.frame (by simp)
  · exact refl s

/-! ## The store -/

theorem endWrite (s : State) (w : WriteRecord) (e : WriteEnd) : s.Keeps (s.endWrite w e) := by
  have ended : s.Keeps (((s.setCsc ({ s.csc with write := none }.handOn)).completeReply .write (e.reply w) []).postWriteEnd
    w e) := elsewhere (by simp)
  exact ended.trans (testRestart _)

theorem answerWaiter (s : State) (a : Waiter → Answer) (w : Waiter) : s.Keeps (s.answerWaiter a w) := by
  unfold State.answerWaiter; split
  · exact resume s _ _
  · exact elsewhere (by simp)

theorem fetchGood (s : State) (r : FetchRequest) (slots : List (List Byte)) : s.Keeps (s.fetchGood r slots) := by
  have installed : s.Keeps (s.setCsc (r.numbers.foldl (fun c n => c.install n (r.result slots n)) s.csc)) := elsewhere (by simp)
  have answered := installed.trans
    (foldl (fun t w => answerWaiter t (fun w => (r.result slots w.number).answer) w) r.waiters _)
  exact answered.frame (t := State.leaveQueue _) (by simp)

theorem fetchFault (s : State) (r : FetchRequest) : s.Keeps (s.fetchFault r) := by
  have reported (c : Csc) : s.Keeps ((s.postStoreFault r.named .fetch).setCsc c) := elsewhere (by simp)
  have answered := (reported ((s.postStoreFault r.named .fetch).csc.dropFetching r)).trans
    (foldl (fun t w => answerWaiter t (fun _ => .storeFault) w) r.waiters _)
  exact answered.frame (t := State.leaveQueue _) (by simp)

theorem readEndsFaulted (s : State) : s.Keeps s.readEndsFaulted := by
  unfold State.readEndsFaulted; split
  · exact refl s
  · split
    · split
      · exact elsewhere (by simp)
      · exact fetchFault s _
    · exact refl s
  · split
    · split
      · split
        · exact elsewhere (by simp)
        · exact endWrite s _ _
      all_goals exact refl s
    · exact refl s
  · split <;> exact elsewhere (by simp)

theorem readEndsGood (s : State) (slots : List (List Byte)) : s.Keeps (s.readEndsGood slots) := by
  unfold State.readEndsGood; split
  · exact refl s
  · split
    · exact fetchGood s _ slots
    · exact refl s
  · split
    · split
      · split
        · exact elsewhere (by simp)
        · exact endWrite s _ _
      all_goals exact refl s
    · exact refl s
  · exact elsewhere (by simp)

theorem readCompletes (s : State) (slots : List (List Byte)) : s.Keeps (s.readCompletes slots) := by
  unfold State.readCompletes; split
  · exact readEndsFaulted s
  · exact readEndsGood s slots

theorem slotWriteFails (s : State) : s.Keeps s.slotWriteFails := by
  unfold State.slotWriteFails; split
  · split
    · exact endWrite s _ _
    all_goals exact refl s
  · exact refl s

theorem readBackEnds (s : State) (equal : WriteRecord → Bool) : s.Keeps (s.readBackEnds equal) := by
  unfold State.readBackEnds; split
  · split
    · exact endWrite s _ _
    all_goals exact refl s
  · exact refl s

/-! ## The tables -/

theorem writeDevice (s : State) (d : DevIx) (b : List Byte) : s.Keeps (s.writeDevice d b).1 := by
  unfold State.writeDevice; split
  · exact refl s
  · split
    · exact refl s
    · split
      · exact refl s
      · exact elsewhere (by simp)

theorem writeDoor (s : State) (d : DoorId) (b : List Byte) : s.Keeps (s.writeDoor d b).1 := by
  unfold State.writeDoor; dsimp only; split
  · split
    · exact refl s
    · split
      · exact elsewhere (by simp)
      · exact refl s
  · exact refl s

theorem writeZone (s : State) (z : ZoneId) (b : List Byte) : s.Keeps (s.writeZone z b).1 := by
  unfold State.writeZone; dsimp only; split
  · exact refl s
  · split
    · exact refl s
    · next staffed _ =>
      dsimp only
      split
      · next same =>
        refine of_views rfl rfl (fun k => ?_) rfl rfl
        rw [zone_setZone]
        split
        · next e => subst e; rw [same]; rfl
        · rfl
      · exact refresh (by simp)

theorem writeChannel (s : State) (c : ChannelId) (b : List Byte) : s.Keeps (s.writeChannel c b).1 := by
  unfold State.writeChannel; dsimp only; split
  · exact refl s
  · split
    · exact refl s
    · split
      · exact refl s
      · exact elsewhere (by simp)

theorem writeSchedule (s : State) (n : SchedId) (b : List Byte) : s.Keeps (s.writeSchedule n b).1 := by
  unfold State.writeSchedule; split
  · exact refl s
  · dsimp only; exact refresh (by simp)

theorem writeLine (s : State) (g : GiId) (b : List Byte) : s.Keeps (s.writeLine g b).1 := by
  unfold State.writeLine; split
  · exact refl s
  · exact elsewhere (by simp)

theorem writeEntry (s : State) (t : TableId) (i : Nat) (b : List Byte) : s.Keeps (s.writeEntry t i b).1 := by
  have bad (c : ReplyCode) : s.Keeps (s, c).1 := refl s
  unfold State.writeEntry; split
  · split; exacts [writeDevice s _ b, bad _]
  · split; exacts [writeDoor s _ b, bad _]
  · split; exacts [writeZone s _ b, bad _]
  · split; exacts [writeChannel s _ b, bad _]
  · split; exacts [writeSchedule s _ b, bad _]
  · split; exacts [writeLine s _ b, bad _]
  all_goals exact bad _

theorem writeNext (t : TableId) (r : State × List ReplyCode) (b : List Byte) :
    r.1.Keeps (Machine.writeNext t r b).1 := by
  unfold Machine.writeNext; dsimp only; split
  · exact (writeEntry r.1 t r.1.sp.cursorIndex b).frame (by simp)
  · exact refl r.1

theorem writeAll (t : TableId) (l : List (List Byte)) (r : State × List ReplyCode) :
    r.1.Keeps (l.foldl (Machine.writeNext t) r).1 := by
  induction l generalizing r with
  | nil => exact refl r.1
  | cons b l ih => exact (writeNext t r b).trans (ih _)

/-! ## The management commands -/

theorem cmdTableWrite (entries : List Byte) (s : State) : s.Keeps (Machine.cmdTableWrite entries s).1 := by
  unfold Machine.cmdTableWrite; dsimp only; split
  · exact refl s
  · split
    · exact refl s
    · exact writeAll _ _ (s, [])

theorem cmdHolidayAdd (day : BitVec 16) (s : State) : s.Keeps (Machine.cmdHolidayAdd day s).1 := by
  unfold Machine.cmdHolidayAdd; split
  · exact refl s
  · split
    · exact refl s
    · rw [yes_fst]; exact refresh (by simp)

theorem cmdHolidayDrop (day : BitVec 16) (s : State) : s.Keeps (Machine.cmdHolidayDrop day s).1 := by
  unfold Machine.cmdHolidayDrop; split
  · rw [yes_fst]; exact refresh (by simp)
  · exact refl s

theorem cmdClockSet (day : BitVec 16) (weekday : Byte) (second : BitVec 24) (s : State) :
    s.Keeps (Machine.cmdClockSet day weekday second s).1 := by
  unfold Machine.cmdClockSet; dsimp only
  exact refresh (by simp [Csu.setClock])

theorem verifyBody (zone : Byte) (r : VerifyReason) (s : State) : s.Keeps (Machine.verifyBody zone r s).1 := by
  unfold Machine.verifyBody; split
  · exact refl s
  · split
    · exact refl s
    · exact verify s _ r

theorem cmdZoneUnknown (zone : Byte) (s : State) : s.Keeps (Machine.cmdZoneUnknown zone s).1 := by
  unfold Machine.cmdZoneUnknown; split
  · exact refl s
  · exact zoneNotices (by simp)

theorem cmdChannelReset (channel : Byte) (s : State) : s.Keeps (Machine.cmdChannelReset channel s).1 := by
  unfold Machine.cmdChannelReset; split
  · exact refl s
  · split <;> exact elsewhere (by simp)

theorem cmdChannelLockout (channel : Byte) (s : State) : s.Keeps (Machine.cmdChannelLockout channel s).1 := by
  unfold Machine.cmdChannelLockout; split
  · exact refl s
  · split <;> exact elsewhere (by simp)

theorem cmdAlarmAck (number : Byte) (s : State) : s.Keeps (Machine.cmdAlarmAck number s).1 := by
  unfold Machine.cmdAlarmAck; split
  · exact refl s
  · split
    · exact refl s
    · split
      · exact refl s
      · exact elsewhere (by simp [State.ackAlarm])

theorem cmdAlarmClear (number : Byte) (s : State) : s.Keeps (Machine.cmdAlarmClear number s).1 := by
  unfold Machine.cmdAlarmClear; split
  · exact refl s
  · split
    · exact refl s
    · split
      · exact clearAlarm s _
      · exact refl s

theorem cmdAlarmClearZone (zone : Byte) (s : State) : s.Keeps (Machine.cmdAlarmClearZone zone s).1 := by
  unfold Machine.cmdAlarmClearZone; split
  · exact refl s
  · split
    · exact clearOverflow s _
    · exact refl s

theorem stationGrant (s : State) (d : DoorId) : s.Keeps (s.stationGrant d).1 := by
  unfold State.stationGrant; dsimp only; split
  · exact elsewhere (by simp)
  · have granted : s.Keeps ((s.driveOpt (s.door d).entry.unit (.unlock (s.door d).entry.unlockWindow)).postDoor
        .stationGrant d) := elsewhere (by simp)
    exact granted.trans (openingNotice _ _ _)
  all_goals exact refl s

theorem cmdDoorGrant (door : Byte) (s : State) : s.Keeps (Machine.cmdDoorGrant door s).1 := by
  unfold Machine.cmdDoorGrant; split
  · exact refl s
  · split
    · exact refl s
    · exact refl s
    · split
      · exact refl s
      · exact stationGrant s _

theorem cmdRestart (s : State) : s.Keeps (Machine.cmdRestart s).1 := by
  unfold Machine.cmdRestart; split
  · exact refl s
  · split
    · exact elsewhere (by simp)
    · rw [yes_fst]; exact restartAll s

/-- R201: every command that a code and parameters name. -/
theorem bodyOf (code : Byte) (l : List Byte) (body : Body) (h : Machine.bodyOf code l = some body) :
    ∀ s : State, s.Keeps (body s).1 :=
  bodyOf_all (fun body => ∀ s : State, s.Keeps (body s).1)
    (hTablePoint := fun _ _ s => elsewhere (by simp))
    (hTableRead := fun _ s => elsewhere (by simp))
    (hTableWrite := cmdTableWrite)
    (hCredPut := fun _ s => elsewhere (by simp))
    (hCredDrop := fun _ s => elsewhere (by simp))
    (hCredLook := fun _ s => elsewhere (by simp))
    (hHolidayAdd := cmdHolidayAdd)
    (hHolidayDrop := cmdHolidayDrop)
    (hClockSet := cmdClockSet)
    (hZoneVerifyClear := fun zone => verifyBody zone .clear)
    (hZoneVerifyKeep := fun zone => verifyBody zone .keep)
    (hZoneUnknown := cmdZoneUnknown)
    (hChannelReset := cmdChannelReset)
    (hChannelLockout := cmdChannelLockout)
    (hChannelRestore := fun _ s => elsewhere (by simp))
    (hAlarmAck := cmdAlarmAck)
    (hAlarmClear := cmdAlarmClear)
    (hAlarmClearZone := cmdAlarmClearZone)
    (hDoorGrant := cmdDoorGrant)
    (hStrongroomCancel := fun _ s => elsewhere (by simp))
    (hStatus := fun s => elsewhere (by simp))
    (hRestart := cmdRestart)
    code l body h

theorem takeCommand {s : State} {body : Body} (h : s.Keeps (body s).1) (seq : BitVec 4) (code : Byte) :
    s.Keeps (s.takeCommand seq code body) := by
  unfold State.takeCommand; split
  · exact elsewhere (by simp)
  · split
    · exact elsewhere (by simp)
    · exact h.frame (by simp)

/-! ## Station frames -/

theorem stationFrameTaken (s : State) (f : Frame) : s.Keeps (s.stationFrameTaken f) := by
  unfold State.stationFrameTaken; split
  · exact refl s
  · split
    · split
      · split
        · exact takeCommand (refl s) _ 0
        · next code l _ =>
          refine takeCommand ?_ _ code
          cases h : Machine.bodyOf code l with
          | none => exact refl s
          | some body => exact bodyOf code l body h s
      · exact refl s
    · split
      · exact elsewhere (by simp)
      · exact refl s

theorem rxByte (s : State) (b : Byte) : s.Keeps (s.rxByte b) :=
  elsewhere ⟨rxByte_keeps State.csu (by simp) (by simp) s b, rxByte_keeps State.ru (by simp) (by simp) s b,
    rxByte_keeps (fun t => t.sau.lone) (by simp) (by simp) s b⟩

theorem takeIntake (s : State) : s.Keeps s.takeIntake := by
  have emptied : s.Keeps (s.setIntake []) := elsewhere (by simp)
  exact emptied.trans (foldl stationFrameTaken _ _)

theorem rxBytes (s : State) (l : List Byte) : s.Keeps (s.rxBytes l) :=
  (foldl rxByte l s).trans (takeIntake _)

theorem rxGap (s : State) (b : Byte) : s.Keeps (s.rxGap b) := by
  have abandoned : s.Keeps (s.setRx []) := elsewhere (by simp)
  exact abandoned.trans ((rxByte _ b).trans (takeIntake _))

end State.Keeps

end Sys2Proof.Machine
end

section
namespace Sys2Proof.Machine

/-! ## Every command -/

namespace State.Keeps

/-- R30, R31: the source of time is no part of what the clock tells. -/
theorem timebase (s : State) (b : Timebase) (watch : Timer) :
    s.Keeps { s with csu := { s.csu with timebase := b, crystalWatch := watch } } :=
  of_views rfl rfl (fun _ => rfl) rfl rfl

/-- A command other than a second tick and a power-on reset does its own work, and both transmitters take what is next. -/
theorem of_exec (c : Instr) (s : State) (reset : ∀ b, c ≠ .powerOnReset b) (tick : c ≠ .clockAdvance) :
    ∃ u : State, exec c s = u.done ∧ s.Keeps u := by
  cases c with
  | powerOnReset b => exact absurd rfl (reset b)
  | clockAdvance => exact absurd rfl tick
  | timebaseDegraded => exact ⟨_, rfl, ite fun _ => (timebase s .degraded (s.after 2)).frame (by simp)⟩
  | timebaseRestored => exact ⟨_, rfl, ite fun _ => (timebase s .normal none).frame (by simp)⟩
  | crystalGapWhileDegraded => exact ⟨_, rfl, ite fun _ => timebase s s.csu.timebase (s.after 2)⟩
  | loopFrameReceived arrival ms bytes => exact ⟨_, rfl, (reachMs s ms).trans (loopBytes _ arrival bytes)⟩
  | stationFrameReceived bytes => exact ⟨_, rfl, rxBytes s bytes⟩
  | stationFrameGap next => exact ⟨_, rfl, rxGap s next⟩
  | tableWrite seq entries => exact ⟨_, rfl, takeCommand (cmdTableWrite entries s) seq _⟩
  | holidayAdd seq day => exact ⟨_, rfl, takeCommand (cmdHolidayAdd day s) seq _⟩
  | holidayDrop seq day => exact ⟨_, rfl, takeCommand (cmdHolidayDrop day s) seq _⟩
  | clockSet seq day weekday second => exact ⟨_, rfl, takeCommand (cmdClockSet day weekday second s) seq _⟩
  | zoneVerifyClear seq zone => exact ⟨_, rfl, takeCommand (verifyBody zone .clear s) seq _⟩
  | zoneVerifyKeep seq zone => exact ⟨_, rfl, takeCommand (verifyBody zone .keep s) seq _⟩
  | zoneUnknown seq zone => exact ⟨_, rfl, takeCommand (cmdZoneUnknown zone s) seq _⟩
  | channelReset seq channel => exact ⟨_, rfl, takeCommand (cmdChannelReset channel s) seq _⟩
  | channelLockout seq channel => exact ⟨_, rfl, takeCommand (cmdChannelLockout channel s) seq _⟩
  | alarmAck seq number => exact ⟨_, rfl, takeCommand (cmdAlarmAck number s) seq _⟩
  | alarmClear seq number => exact ⟨_, rfl, takeCommand (cmdAlarmClear number s) seq _⟩
  | alarmClearZone seq zone => exact ⟨_, rfl, takeCommand (cmdAlarmClearZone zone s) seq _⟩
  | doorGrant seq door => exact ⟨_, rfl, takeCommand (cmdDoorGrant door s) seq _⟩
  | restart seq => exact ⟨_, rfl, takeCommand (cmdRestart s) seq _⟩
  | tablePoint seq | tableRead seq | credPut seq | credDrop seq | credLook seq | channelRestore seq | strongroomCancel seq
  | status seq => exact ⟨_, rfl, takeCommand (elsewhere (by simp)) seq _⟩
  | bucketReadComplete slots => exact ⟨_, rfl, readCompletes s slots⟩
  | bucketReadTimeout => exact ⟨_, rfl, readEndsFaulted s⟩
  | slotWriteTimeout => exact ⟨_, rfl, slotWriteFails s⟩
  | readBackComplete | readBackTimeout => exact ⟨_, rfl, readBackEnds s _⟩
  | settleTimerExpiry line => exact ⟨_, rfl, settleExpired s line⟩
  | pressTimerExpiry line => exact ⟨_, rfl, pressExpired s line⟩
  | intervalTimerExpiry => exact ⟨_, rfl, ite fun h => enterPrompt (by rw [h.1]; decide)⟩
  | promptRepeat => exact ⟨_, rfl, ite fun h => repeatPrompt (by rw [h.1]; decide)⟩
  | graceTimerExpiry => exact ⟨_, rfl, ite fun h => enterOverdue (by rw [h.1]; decide)⟩
  | sweepDue | sweepUnreturned | silenceTimerExpiry | deviceMissing | unlockTimerExpiry | heldOpenTimerExpiry
  | pairingTimerExpiry | custodyPairingExpiry | displayTimerExpiry | delayTimerExpiry | confirmTimerExpiry
  | strongroomUnlockExpiry | boltSettleExpiry | countdownExpiry | driveTimerExpiry | valveConfirmTimeout | soakTimerExpiry
  | toneRefresh | driveFault | driveFaultCleared => exact ⟨_, rfl, ite fun _ => elsewhere (by simp)⟩
  | loopFrameSent | loopBoundStationFrame | stationFrameSent | slotWriteComplete | driveReadbackChange | levelLineChange
  | pulseLineChange | recoveryTimerExpiry | stationLenOver40 => exact ⟨_, rfl, elsewhere (by simp)⟩

/-- R17, R209: the transmitters touch nothing of this. -/
theorem of_exec_next {c : Instr} {s t : State} (h : exec c s = .next t) (reset : ∀ b, c ≠ .powerOnReset b)
    (tick : c ≠ .clockAdvance) : s.Keeps t := by
  obtain ⟨u, hu, keeps⟩ := of_exec c s reset tick
  obtain rfl : u.settle = t := Host.Outcome.next.inj (hu.symm.trans h)
  exact keeps.frame (by simp)

end State.Keeps

/-! ## The second tick and the power-on reset -/

@[simp] theorem advanceClock_ticks (c : Csu) : c.advanceClock.1.ticks = c.ticks := by
  unfold Csu.advanceClock; dsimp only; (repeat' split) <;> rfl
@[simp] theorem advanceClock_afterHours (c : Csu) : c.advanceClock.1.afterHours = c.afterHours := by
  unfold Csu.advanceClock; dsimp only; (repeat' split) <;> rfl

/-- R33, R34: what CLOCK_ADVANCE makes of CSU before the flags are recomputed. -/
theorem tickClock_csu (s : State) : s.tickClock.csu = { s.csu with ticks := s.csu.ticks + 1, ms := 0 }.advanceClock.1 := by
  unfold State.tickClock; dsimp only; split <;> simp

/-- R166: the countdowns of the channels take a second. -/
def State.tickChannels (s : State) : State := { s with sc := { s.sc with channels := s.sc.channels.map Channel.tick } }

section
variable (s : State)
@[simp] theorem tickChannels_pending : s.tickChannels.pending = s.pending := rfl
@[simp] theorem tickChannels_rm : s.tickChannels.rm = s.rm := rfl
@[simp] theorem tickChannels_fc : s.tickChannels.fc = s.fc := rfl
@[simp] theorem tickChannels_csu : s.tickChannels.csu = s.csu := rfl
@[simp] theorem tickChannels_csc : s.tickChannels.csc = s.csc := rfl
@[simp] theorem tickChannels_pe : s.tickChannels.pe = s.pe := rfl
@[simp] theorem tickChannels_dc : s.tickChannels.dc = s.dc := rfl
@[simp] theorem tickChannels_ru : s.tickChannels.ru = s.ru := rfl
@[simp] theorem tickChannels_sau : s.tickChannels.sau = s.sau := rfl
@[simp] theorem tickChannels_sp : s.tickChannels.sp = s.sp := rfl
end

/-- R33, R46, R166: the second tick. -/
theorem exec_clockAdvance (s : State) :
    exec .clockAdvance s = .next s.tickClock.refreshAfterHours.tickChannels.settle := rfl

/-- R166: the channels' countdowns and the transmitters have no part in the flags and the copies. -/
theorem tickChannels_keeps (s : State) : s.Keeps s.tickChannels.settle := .elsewhere (by simp)

/-- R28: the second tick. -/
theorem clockAdvance_ticks {s t : State} (h : exec .clockAdvance s = .next t) : t.csu.ticks = s.csu.ticks + 1 := by
  obtain rfl := Host.Outcome.next.inj ((exec_clockAdvance s).symm.trans h)
  rw [(tickChannels_keeps _).ticks, refreshAfterHours_csu, tickClock_csu]
  simp

theorem clockAdvance_afterHoursCurrent {s t : State} (h : exec .clockAdvance s = .next t) : t.afterHoursCurrent := by
  obtain rfl := Host.Outcome.next.inj ((exec_clockAdvance s).symm.trans h)
  exact (tickChannels_keeps _).hours (refreshAfterHours_hours _)

theorem clockAdvance_loneCurrent {s t : State} (h : exec .clockAdvance s = .next t) (current : s.loneCurrent) :
    t.loneCurrent := by
  obtain rfl := Host.Outcome.next.inj ((exec_clockAdvance s).symm.trans h)
  have ticked : s.tickClock.loneCurrent := by
    refine ⟨fun z hz => ?_, fun z => ?_⟩
    · simpa [State.lone, State.roster, State.afterHours, tickClock_csu] using current.1 z hz
    · simpa [State.lone] using current.2 z
  exact (tickChannels_keeps _).lone (refreshAfterHours_loneCurrent ticked)

/-- R47: after a power-on reset CSU has counted no tick, the clock is UNSET and every flag is clear. -/
theorem powerOn_csu (s : State) (b : Bool) : (s.powerOn b).csu = Csu.powerOn b := by
  cases b <;> simp [State.powerOn]

theorem csuPowerOn_ticks (b : Bool) : (Csu.powerOn b).ticks = 0 := by cases b <;> rfl

theorem csuPowerOn_afterHours (b : Bool) : (Csu.powerOn b).afterHours = Vector.replicate 12 false := by cases b <;> rfl

theorem powerOn_ru (s : State) (b : Bool) : (s.powerOn b).ru = State.reset.ru := by
  cases b <;> simp [State.powerOn]

theorem powerOn_lone (s : State) (b : Bool) (z : ZoneId) : (s.powerOn b).lone z = Lone.powerOn := by
  have lone : (s.powerOn b).sau.lone = Vector.replicate 12 Lone.powerOn := by
    cases b <;> simp [State.powerOn, Sau.powerOn, State.reset]
  simp [State.lone, lone]

theorem powerOn_afterHoursCurrent (s : State) (b : Bool) : (s.powerOn b).afterHoursCurrent := by
  intro z
  have always : ((s.powerOn b).zone z).staffed = 0 := by
    simp [State.zone, powerOn_ru, State.reset, ZoneEntry.powerOn]
  have covered (c : Csu) : c.covers 0 = true := by simp [Csu.covers, Csu.remainder, Remainder.covers]
  rw [always, covered]
  simp [State.afterHours, powerOn_csu, csuPowerOn_afterHours]

theorem powerOn_loneCurrent (s : State) (b : Bool) : (s.powerOn b).loneCurrent := by
  refine ⟨fun z _ => ?_, fun z => ?_⟩
  · simp [powerOn_lone, State.roster, powerOn_ru, State.reset, State.afterHours, powerOn_csu, csuPowerOn_afterHours,
      Lone.powerOn, soleOf]
  · rw [powerOn_lone]; exact fun out => absurd rfl out

/-- A power-on reset ends as `State.powerOn` leaves it, the transmitters apart. -/
theorem powerOn_keeps_next {s t : State} {b : Bool} (h : exec (.powerOnReset b) s = .next t) : (s.powerOn b).Keeps t := by
  obtain rfl := Host.Outcome.next.inj h
  exact .elsewhere (by simp)

/-! ## Every step -/

theorem exec_afterHoursCurrent {c : Instr} {s t : State} (h : exec c s = .next t) (current : s.afterHoursCurrent) :
    t.afterHoursCurrent := by
  by_cases reset : ∃ b, c = .powerOnReset b
  · obtain ⟨b, rfl⟩ := reset
    exact (powerOn_keeps_next h).hours (powerOn_afterHoursCurrent s b)
  · by_cases tick : c = .clockAdvance
    · subst tick; exact clockAdvance_afterHoursCurrent h
    · exact (State.Keeps.of_exec_next h (not_exists.1 reset) tick).hours current

theorem exec_loneCurrent {c : Instr} {s t : State} (h : exec c s = .next t) (current : s.loneCurrent) : t.loneCurrent := by
  by_cases reset : ∃ b, c = .powerOnReset b
  · obtain ⟨b, rfl⟩ := reset
    exact (powerOn_keeps_next h).lone (powerOn_loneCurrent s b)
  · by_cases tick : c = .clockAdvance
    · subst tick; exact clockAdvance_loneCurrent h current
    · exact (State.Keeps.of_exec_next h (not_exists.1 reset) tick).lone current

/-- What every command keeps of a property that does not read the waiting commands, every step keeps. -/
theorem step_keeps_of_exec {p : State → Prop} (pending : ∀ (s : State) (l : List Instr), p s → p { s with pending := l })
    (exec : ∀ (c : Instr) (s t : State), exec c s = .next t → p s → p t) {s t : State} (h : step s = .next t) (hs : p s) : p t := by
  unfold step at h
  split at h
  · obtain rfl := Host.Outcome.next.inj h; exact hs
  · exact exec _ _ _ h (pending s _ hs)

/-- R190: a timer out of IDLE tells of one person alone after hours. -/
theorem Lone.alone_of_condition {l : Lone} (h : l.condition.isSome = true) : l.count = 1 ∧ l.afterHours = true := by
  unfold Lone.condition at h
  split at h
  · assumption
  · exact absurd h (by decide)

end Sys2Proof.Machine

section
open Sys2Proof Sys2Proof.Machine

/-- Settles O52: each command keeps the flags, SAU's copies and law 12, or, as the second tick and the reset do, makes them anew;
law 12 about the roster itself is then read from the copies. -/
theorem afterHoursAndLoneStayCurrent : Obligations.AfterHoursAndLoneStayCurrent := by
  refine ⟨fun s t hs h => ?_, fun s t copies alone h => ?_⟩
  · exact step_keeps_of_exec (fun _ _ hs => hs) (fun _ _ _ h hs => exec_afterHoursCurrent h hs) h hs
  · obtain ⟨copies', alone'⟩ : t.loneCurrent :=
      step_keeps_of_exec (fun _ _ hs => hs) (fun _ _ _ h hs => exec_loneCurrent h hs) h ⟨copies, alone⟩
    refine ⟨copies', alone', fun z hz out => ?_⟩
    obtain ⟨count, hours⟩ := Lone.alone_of_condition (alone' z out)
    obtain ⟨told, _, flag⟩ := copies' z hz
    exact ⟨told ▸ count, flag ▸ hours⟩

end
end

section
namespace Sys2Proof.Machine

/-! ## Uptime and the timebase -/

theorem uptime_eq (s : State) : s.uptime = min s.csu.ticks 4294967295 := rfl

theorem uptime_congr {s t : State} (h : t.csu.ticks = s.csu.ticks) : t.uptime = s.uptime := by
  rw [uptime_eq, uptime_eq, h]

theorem powerOnReset_uptime {s t : State} {b : Bool} (h : exec (.powerOnReset b) s = .next t) : t.uptime = 0 := by
  rw [uptime_congr (powerOn_keeps_next h).ticks, uptime_eq, powerOn_csu, csuPowerOn_ticks]
  rfl

theorem clockAdvance_uptime {s t : State} (h : exec .clockAdvance s = .next t) :
    t.uptime = min (s.uptime + 1) 4294967295 := by
  rw [uptime_eq, uptime_eq, clockAdvance_ticks h]
  omega

/-- R32: the stamp that the timebase state `b` gives an event posted now. -/
theorem stamp_timebase (s : State) (b : Timebase) (watch : Timer) :
    State.stamp { s with csu := { s.csu with timebase := b, crystalWatch := watch } } =
      match s.csu.clock with
      | .set => .clock s.csu.day s.csu.second (b == .degraded)
      | .unset => .uptime s.uptime (b == .degraded) := rfl

/-- R30, R31: a change of the timebase state is posted with the new state's drift flag. -/
theorem post_timebase (s : State) (b : Timebase) (watch : Timer) (kind : EventKind) :
    State.post { s with csu := { s.csu with timebase := b, crystalWatch := watch } } kind =
      { s with
        csu := { s.csu with timebase := b, crystalWatch := watch }
        sp := s.sp.enqueue { s.event kind with
          stamp := match s.csu.clock with
            | .set => .clock s.csu.day s.csu.second (b == .degraded)
            | .unset => .uptime s.uptime (b == .degraded) } } := by
  unfold State.post; rw [stamp_timebase]; rfl

/-! ## The clock -/

/-- R33, R34: a second of a clock that is SET, inside a day. -/
theorem advanceClock_second {c : Csu} (set : c.clock = .set) (h : c.second + 1 < 86400) :
    c.advanceClock = ({ c with second := c.second + 1 }, false) := by
  simp [Csu.advanceClock, set, h]

/-- R33, R34: midnight. -/
theorem advanceClock_midnight {c : Csu} (set : c.clock = .set) (h : c.second + 1 = 86400) :
    c.advanceClock =
      if c.day < 65535 then ({ c with second := 0, weekday := (c.weekday + 1) % 7, day := c.day + 1 }, false)
      else ({ c with second := 0, weekday := (c.weekday + 1) % 7, epochEnd := true }, !c.epochEnd) := by
  simp [Csu.advanceClock, set, h]

theorem advanceClock_unset {c : Csu} (unset : c.clock = .unset) : c.advanceClock = (c, false) := by
  simp [Csu.advanceClock, unset]

/-- R33: a second moves nothing else of CSU. -/
theorem advanceClock_keeps (c : Csu) :
    c.advanceClock.1.ms = c.ms ∧ c.advanceClock.1.clock = c.clock ∧ c.advanceClock.1.timebase = c.timebase
      ∧ c.advanceClock.1.schedules = c.schedules ∧ c.advanceClock.1.holidays = c.holidays := by
  unfold Csu.advanceClock; dsimp only; (repeat' split) <;> exact ⟨rfl, rfl, rfl, rfl, rfl⟩

/-- R46: of CSU a recomputation moves the flags alone. -/
theorem refreshAfterHours_keeps (s : State) :
    let c := s.refreshAfterHours.csu
    c.ticks = s.csu.ticks ∧ c.ms = s.csu.ms ∧ c.day = s.csu.day ∧ c.weekday = s.csu.weekday ∧ c.second = s.csu.second
      ∧ c.clock = s.csu.clock ∧ c.epochEnd = s.csu.epochEnd ∧ c.timebase = s.csu.timebase
      ∧ c.crystalWatch = s.csu.crystalWatch ∧ c.schedules = s.csu.schedules ∧ c.holidays = s.csu.holidays := by
  rw [refreshAfterHours_csu]; simp

/-- R46: a recomputed flag, as the clock that stands afterwards gives it. -/
theorem refreshAfterHours_flag_now (s : State) (z : ZoneId) :
    s.refreshAfterHours.afterHours z = !s.refreshAfterHours.csu.covers (s.zone z).staffed := by
  rw [refreshAfterHours_flag, refreshAfterHours_covers]

theorem channel_tickChannels (s : State) (c : ChannelId) : s.tickChannels.channel c = (s.channel c).tick := by
  simp [State.tickChannels, State.channel]

/-- R46: a recomputation that changes no flag does nothing else. -/
theorem refreshAfterHours_unchanged {s : State} (h : ∀ z, s.refreshAfterHours.afterHours z = s.afterHours z) :
    s.refreshAfterHours = s :=
  refreshAfterHours_current fun z => (h z).symm.trans (refreshAfterHours_flag s z)

/-- R34: the end of the epoch is posted once. -/
theorem tickClock_sp (s : State) :
    s.tickClock.sp =
      if { s.csu with ticks := s.csu.ticks + 1, ms := 0 }.advanceClock.2 then
        s.sp.enqueue
          { kind := .clockEpochEnd, stamp := s.tickClock.csu.stamp, door := none, zone := none, channel := none
            subject := none, reason := none }
      else s.sp := by
  rw [tickClock_csu]
  unfold State.tickClock; dsimp only; split <;> rfl

/-! ## Holidays -/

theorem mem_insertDay {d x : Nat} {l : List Nat} : x ∈ insertDay d l ↔ x = d ∨ x ∈ l := by
  induction l with
  | nil => simp [insertDay]
  | cons y l ih =>
    unfold insertDay
    split
    · simp
    · simp [ih]; tauto

/-- R38: a day that is absent takes its place in ascending order. -/
theorem insertDay_ascending {d : Nat} {l : List Nat} (h : l.Pairwise (· < ·)) (absent : d ∉ l) :
    (insertDay d l).Pairwise (· < ·) := by
  induction l with
  | nil => simp [insertDay]
  | cons y l ih =>
    obtain ⟨above, ascending⟩ := List.pairwise_cons.1 h
    obtain ⟨differs, absent⟩ := not_or.1 (mt List.mem_cons.2 absent)
    unfold insertDay
    split
    · next before =>
      refine List.pairwise_cons.2 ⟨fun x hx => ?_, h⟩
      rcases List.mem_cons.1 hx with rfl | hx
      · exact before
      · exact before.trans (above x hx)
    · next after =>
      refine List.pairwise_cons.2 ⟨fun x hx => ?_, ih ascending absent⟩
      rcases mem_insertDay.1 hx with rfl | hx
      · omega
      · exact above x hx

/-- R39: the days after the one removed close up. -/
theorem filter_day {d : Nat} {l r : List Nat} (hl : d ∉ l) (hr : d ∉ r) :
    (l ++ d :: r).filter (fun x => x != d) = l ++ r := by
  have kept : ∀ m : List Nat, d ∉ m → m.filter (fun x => x != d) = m := fun m hm =>
    List.filter_eq_self.2 fun x hx => by simpa using fun e : x = d => hm (e ▸ hx)
  simp [kept l hl, kept r hr]

/-! ## The body of a clock command -/

theorem cmdHolidayAdd_present {s : State} {day : BitVec 16} (h : day.toNat ∈ s.csu.holidays) :
    cmdHolidayAdd day s = s.yes := by
  simp [cmdHolidayAdd, h]

theorem cmdHolidayAdd_full {s : State} {day : BitVec 16} (h : day.toNat ∉ s.csu.holidays) (full : 32 ≤ s.csu.holidays.length) :
    cmdHolidayAdd day s = s.no .tableFull := by
  simp [cmdHolidayAdd, h, full]

theorem cmdHolidayAdd_room {s : State} {day : BitVec 16} (h : day.toNat ∉ s.csu.holidays) (room : s.csu.holidays.length < 32) :
    cmdHolidayAdd day s = (s.setHolidays (insertDay day.toNat s.csu.holidays)).refreshAfterHours.yes := by
  simp [cmdHolidayAdd, h, room]

theorem cmdHolidayDrop_absent {s : State} {day : BitVec 16} (h : day.toNat ∉ s.csu.holidays) :
    cmdHolidayDrop day s = s.no .notFound := by
  simp [cmdHolidayDrop, h]

theorem cmdHolidayDrop_present {s : State} {day : BitVec 16} (h : day.toNat ∈ s.csu.holidays) :
    cmdHolidayDrop day s =
      (s.setHolidays (s.csu.holidays.filter (fun d => d != day.toNat))).refreshAfterHours.yes := by
  simp [cmdHolidayDrop, h]

end Sys2Proof.Machine

section
open Sys2Proof Sys2Proof.Machine

/-- Settles O5: uptime is read from the ticks, which the reset sets to 0, the second tick advances and every other command keeps. -/
theorem uptimeAndTimebaseResult : Obligations.UptimeAndTimebaseResult := by
  refine ⟨fun c s t h => ⟨?_, ?_, fun reset tick => ?_⟩, fun s => ⟨?_, ?_, rfl⟩⟩
  · rintro b rfl; exact powerOnReset_uptime h
  · rintro rfl; exact clockAdvance_uptime h
  · exact uptime_congr (State.Keeps.of_exec_next h reset tick).ticks
  · exact congrArg (fun u => State.done (if s.csu.timebase = .normal then u else s)) (post_timebase s .degraded _ _)
  · exact congrArg (fun u => State.done (if s.csu.timebase = .degraded ∧ s.due s.csu.crystalWatch then u else s))
      (post_timebase s .normal _ _)

end
end

section
namespace Sys2Proof.Machine

/-! ## The second tick -/

/-- R33: the tick and the millisecond of CSU when a second begins. -/
def Csu.nextTick (c : Csu) : Csu := { c with ticks := c.ticks + 1, ms := 0 }

section
variable (c : Csu)
@[simp] theorem nextTick_ticks : c.nextTick.ticks = c.ticks + 1 := rfl
@[simp] theorem nextTick_ms : c.nextTick.ms = 0 := rfl
@[simp] theorem nextTick_day : c.nextTick.day = c.day := rfl
@[simp] theorem nextTick_weekday : c.nextTick.weekday = c.weekday := rfl
@[simp] theorem nextTick_second : c.nextTick.second = c.second := rfl
@[simp] theorem nextTick_clock : c.nextTick.clock = c.clock := rfl
@[simp] theorem nextTick_epochEnd : c.nextTick.epochEnd = c.epochEnd := rfl
@[simp] theorem nextTick_timebase : c.nextTick.timebase = c.timebase := rfl
@[simp] theorem nextTick_schedules : c.nextTick.schedules = c.schedules := rfl
@[simp] theorem nextTick_holidays : c.nextTick.holidays = c.holidays := rfl
end

theorem tickClock_csu_nextTick (s : State) : s.tickClock.csu = s.csu.nextTick.advanceClock.1 := tickClock_csu s

theorem tickClock_zone (s : State) (z : ZoneId) : s.tickClock.zone z = s.zone z := by simp [State.zone]

@[simp] theorem tickChannels_afterHours (s : State) (z : ZoneId) : s.tickChannels.afterHours z = s.afterHours z := rfl

theorem channel_tick (ch : Channel) :
    ch.tick =
      if ch.state = .preDischarge then
        if 1 < ch.countdown then { ch with countdown := ch.countdown - 1 } else { ch with countdownDue := true }
      else ch := rfl

/-- R33: a second tick leaves of CSU what the advance of the clock leaves, the flags apart. -/
theorem tickClock_refresh_csu (s : State) :
    let c := s.tickClock.refreshAfterHours.csu
    let d := s.csu.nextTick.advanceClock.1
    c.ticks = s.csu.ticks + 1 ∧ c.ms = 0 ∧ c.clock = s.csu.clock ∧ c.timebase = s.csu.timebase
      ∧ c.schedules = s.csu.schedules ∧ c.holidays = s.csu.holidays
      ∧ c.day = d.day ∧ c.weekday = d.weekday ∧ c.second = d.second ∧ c.epochEnd = d.epochEnd := by
  obtain ⟨ticks, ms, day, weekday, second, clock, epochEnd, timebase, _, schedules, holidays⟩ :=
    refreshAfterHours_keeps s.tickClock
  obtain ⟨ms', clock', timebase', schedules', holidays'⟩ := advanceClock_keeps s.csu.nextTick
  simp [ticks, ms, day, weekday, second, clock, epochEnd, timebase, schedules, holidays, tickClock_csu_nextTick,
    ms', clock', timebase', schedules', holidays']

/-- R46: the flags at the end of a second tick. -/
theorem tickClock_refresh_afterHours (s : State) (z : ZoneId) :
    s.tickClock.refreshAfterHours.afterHours z = !s.tickClock.refreshAfterHours.csu.covers (s.zone z).staffed := by
  rw [refreshAfterHours_flag_now, tickClock_zone]

/-- R166: a recomputation of the flags counts no channel down. -/
theorem tickClock_refresh_channel (s : State) (c : ChannelId) : s.tickClock.refreshAfterHours.channel c = s.channel c := by
  simp [State.channel]

/-- R34: midnight of day 65535. -/
theorem advanceClock_epoch {c : Csu} (set : c.clock = .set) (midnight : c.second + 1 = 86400) (last : c.day = 65535) :
    c.advanceClock = ({ c with second := 0, weekday := (c.weekday + 1) % 7, epochEnd := true }, !c.epochEnd) := by
  rw [advanceClock_midnight set midnight, if_neg (by simp [last])]

/-- R34: the epoch's end is posted at the first midnight of day 65535 alone. -/
theorem tickClock_epoch {s : State} (set : s.csu.clock = .set) (midnight : s.csu.second + 1 = 86400)
    (last : s.csu.day = 65535) :
    s.tickClock.sp =
      if s.csu.epochEnd then s.sp
      else s.sp.enqueue
        { kind := .clockEpochEnd, stamp := .clock 65535 0 (s.csu.timebase == .degraded), door := none, zone := none
          channel := none, subject := none, reason := none } := by
  have advanced := advanceClock_epoch (c := s.csu.nextTick) set midnight last
  have posted : s.csu.nextTick.advanceClock.2 = !s.csu.epochEnd := by rw [advanced]; rfl
  have stamp : s.tickClock.csu.stamp = .clock 65535 0 (s.csu.timebase == .degraded) := by
    rw [tickClock_csu_nextTick, advanced]; simp [Csu.stamp, set, last]
  rw [tickClock_sp, stamp]
  simp only [Csu.nextTick] at posted
  rw [posted]
  cases s.csu.epochEnd <;> rfl

theorem covers_always (c : Csu) : c.covers 0 = true := by simp [Csu.covers, Csu.remainder, Remainder.covers]

/-- R46: schedule 0 always covers, so the flags of zones staffed by it stand clear at every instant. -/
theorem tickClock_afterHoursCurrent {s : State} (staffed : ∀ z, (s.zone z).staffed = 0 ∧ s.afterHours z = false) :
    s.tickClock.afterHoursCurrent := by
  intro z
  obtain ⟨always, clear⟩ := staffed z
  have kept : s.tickClock.afterHours z = s.afterHours z := by
    simp only [State.afterHours]; rw [tickClock_csu, advanceClock_afterHours]
  rw [tickClock_zone, always, covers_always, kept, clear]
  rfl

end Sys2Proof.Machine

section
open Sys2Proof Sys2Proof.Machine

/-- Settles O6: the second tick is the advance of the clock, the recomputation of the flags and the channels' countdowns; with no
flag to change the recomputation does nothing. -/
theorem clockAdvanceResult : Obligations.ClockAdvanceResult := by
  refine ⟨fun s => ⟨_, exec_clockAdvance s, ?_⟩, fun s set midnight last staffed => ⟨_, exec_clockAdvance s, ?_⟩⟩
  · obtain ⟨ticks, ms, clock, timebase, schedules, holidays, day, weekday, second, epochEnd⟩ := tickClock_refresh_csu s
    rw [tickChannels_csu, day, weekday, second, epochEnd]
    refine ⟨ticks, ms, clock, timebase, schedules, holidays, fun unset => ?_, fun set inside => ?_, fun set midnight => ?_,
      fun z => ?_, fun c => ?_, ?_⟩
    · rw [advanceClock_unset (c := s.csu.nextTick) unset]; exact ⟨rfl, rfl, rfl⟩
    · rw [advanceClock_second (c := s.csu.nextTick) set inside]; exact ⟨rfl, rfl, rfl, rfl⟩
    · rw [advanceClock_midnight (c := s.csu.nextTick) set midnight]
      by_cases before : s.csu.day < 65535
      · rw [if_pos (by exact before)]
        exact ⟨rfl, rfl, fun _ => ⟨rfl, rfl⟩, fun last => absurd before (by omega)⟩
      · rw [if_neg (by exact before)]
        exact ⟨rfl, rfl, fun earlier => absurd earlier before, fun last => ⟨last, rfl⟩⟩
    · rw [tickChannels_afterHours, tickClock_refresh_afterHours]
    · rw [channel_tickChannels, tickClock_refresh_channel, channel_tick]
    · simp
  · rw [refreshAfterHours_current (tickClock_afterHoursCurrent staffed)]
    refine ⟨by simp, by simp, ?_⟩
    rw [tickChannels_sp]; exact tickClock_epoch set midnight last

end
end

section
namespace Sys2Proof.Machine

/-! ## What a recomputation leaves of the replies -/

section
variable (s : State)

@[simp] theorem post_sp_replies (kind : EventKind) (door : Option DoorId) (zone : Option ZoneId) (channel : Option ChannelId)
    (subject : Option Subject) (reason : Option Nat) :
    (s.post kind door zone channel subject reason).sp.replies = s.sp.replies := by
  simp [State.post]
@[simp] theorem drive_sp_replies (d : DevIx) (o : Output) : (s.drive d o).sp.replies = s.sp.replies := by
  unfold State.drive State.placeOriginated; dsimp only; (repeat' split) <;> simp
@[simp] theorem sauTone_sp_replies (z : ZoneId) (t : Tone) : (s.sauTone z t).sp.replies = s.sp.replies := by
  unfold State.sauTone State.toneTo; split
  · exact foldl_keeps (fun u => u.sp.replies) _ (fun u d => by split <;> simp) _ _
  · rfl
@[simp] theorem goIdle_sp_replies (z : ZoneId) : (s.goIdle z).sp.replies = s.sp.replies := by
  unfold State.goIdle; dsimp only; split <;> simp
@[simp] theorem loneAfterHours_sp_replies (z : ZoneId) (flag : Bool) : (s.loneAfterHours z flag).sp.replies = s.sp.replies := by
  unfold State.loneAfterHours State.loneChanged State.startRunning; dsimp only; (repeat' split) <;> simp
@[simp] theorem setAfterHours_sp_replies (z : ZoneId) (flag : Bool) : (s.setAfterHours z flag).sp.replies = s.sp.replies := rfl
@[simp] theorem refreshAfterHours_sp_replies : s.refreshAfterHours.sp.replies = s.sp.replies := by
  unfold State.refreshAfterHours
  exact foldl_keeps (fun u => u.sp.replies) _ (fun u z => by dsimp only; split <;> simp) _ _

end

/-! ## A command that is taken and answered at once -/

theorem addReply_afterHours (s : State) (seq : BitVec 4) (body : ReplyBody) (z : ZoneId) :
    (s.addReply seq body).afterHours z = s.afterHours z := rfl

/-- R200: a taken command does its work and its reply takes a place. -/
theorem takeCommand_now {s t : State} (h : s.takesCommands) (seq : BitVec 4) (code : Byte) {body : Body} {r : ReplyCode}
    {data : List Byte} (answered : body s = (t, .now r data)) :
    (s.takeCommand seq code body).done = .next (t.addReply seq (.ready (replyPayload code r data))).settle := by
  rw [takeCommand_taken h, answered]; rfl

/-! ## The holiday list -/

/-- R38, R39: the state when a changed holiday list has been acted on and answered. -/
def State.holidaysSet (s : State) (l : List Nat) (seq : BitVec 4) (code : Byte) : State :=
  (s.setHolidays l).refreshAfterHours.addReply seq (.ready (replyPayload code .accept []))

section
variable (s : State) (l : List Nat) (seq : BitVec 4) (code : Byte)

theorem setHolidays_zone (z : ZoneId) : (s.setHolidays l).zone z = s.zone z := rfl

theorem setHolidays_csu : (s.setHolidays l).csu = { s.csu with holidays := l } := rfl

theorem holidaysSet_csu :
    (s.holidaysSet l seq code).csu =
      { s.csu with holidays := l, afterHours := (s.holidaysSet l seq code).csu.afterHours } := by
  have flags := refreshAfterHours_csu (s.setHolidays l)
  rw [setHolidays_csu] at flags
  unfold State.holidaysSet
  rw [addReply_csu]
  exact flags

theorem holidaysSet_afterHours (z : ZoneId) :
    (s.holidaysSet l seq code).afterHours z = !(s.holidaysSet l seq code).csu.covers (s.zone z).staffed := by
  unfold State.holidaysSet
  rw [addReply_csu, addReply_afterHours, refreshAfterHours_flag_now, setHolidays_zone]

/-- R38, R39: the list, the flags and the reply; no other block but SAU and what carries its tones. -/
theorem holidaysSet_spec :
    let t := s.holidaysSet l seq code
    t.csu.holidays = l
      ∧ (∀ z, t.afterHours z = !t.csu.covers (s.zone z).staffed)
      ∧ t.csu = { s.csu with holidays := t.csu.holidays, afterHours := t.csu.afterHours }
      ∧ t.sp.replies = s.sp.replies ++ [readyReply seq [code, 0x00]]
      ∧ t.pending = s.pending ∧ t.fc = s.fc ∧ t.csc = s.csc ∧ t.pe = s.pe ∧ t.dc = s.dc ∧ t.ru = s.ru ∧ t.sc = s.sc := by
  have list : (s.holidaysSet l seq code).csu.holidays = l := by rw [holidaysSet_csu]
  refine ⟨list, holidaysSet_afterHours s l seq code, ?_, ?_⟩
  · rw [list]; exact holidaysSet_csu s l seq code
  · simp [State.holidaysSet, State.setHolidays, readyReply, replyPayload, ReplyCode.code]

theorem exec_holidayAdd_taken (h : s.takesCommands) (day : BitVec 16) {t : State} {r : ReplyCode} {data : List Byte}
    (answered : cmdHolidayAdd day s = (t, .now r data)) :
    exec (.holidayAdd seq day) s = .next (t.addReply seq (.ready (replyPayload codeHolidayAdd r data))).settle :=
  takeCommand_now h seq codeHolidayAdd answered

theorem exec_holidayDrop_taken (h : s.takesCommands) (day : BitVec 16) {t : State} {r : ReplyCode} {data : List Byte}
    (answered : cmdHolidayDrop day s = (t, .now r data)) :
    exec (.holidayDrop seq day) s = .next (t.addReply seq (.ready (replyPayload codeHolidayDrop r data))).settle :=
  takeCommand_now h seq codeHolidayDrop answered

/-- R38: an absent day is inserted while the list has room. -/
theorem exec_holidayAdd_room (h : s.takesCommands) {day : BitVec 16} (absent : day.toNat ∉ s.csu.holidays)
    (room : s.csu.holidays.length < 32) :
    exec (.holidayAdd seq day) s =
      .next (s.holidaysSet (insertDay day.toNat s.csu.holidays) seq codeHolidayAdd).settle :=
  exec_holidayAdd_taken s seq h day (cmdHolidayAdd_room absent room)

/-- R39: a present day is removed. -/
theorem exec_holidayDrop_present (h : s.takesCommands) {day : BitVec 16} (present : day.toNat ∈ s.csu.holidays) :
    exec (.holidayDrop seq day) s =
      .next (s.holidaysSet (s.csu.holidays.filter (fun d => d != day.toNat)) seq codeHolidayDrop).settle :=
  exec_holidayDrop_taken s seq h day (cmdHolidayDrop_present present)

end

/-! ## The clock is set -/

/-- R35: the state when the clock has been set and CLOCK_SET posted. -/
def State.clockTaken (s : State) (day : BitVec 16) (weekday : Byte) (second : BitVec 24) : State :=
  State.post { s with csu := s.csu.setClock day.toNat weekday.toNat second.toNat } .clockSet

/-- R35: the reply with the values that the clock holds. -/
def clockReply (day : BitVec 16) (weekday : Byte) (second : BitVec 24) : List Byte :=
  [0x1A, if 6 < weekday.toNat ∨ 86399 < second.toNat then 1 else 0]
    ++ bytes2 day.toNat ++ bytes1 (min weekday.toNat 6) ++ bytes3 (min second.toNat 86399)

/-- R35, R46: the state when CLOCK_SET has been acted on and answered. -/
def State.clockSetDone (s : State) (seq : BitVec 4) (day : BitVec 16) (weekday : Byte) (second : BitVec 24) : State :=
  (s.clockTaken day weekday second).refreshAfterHours.addReply seq (.ready (clockReply day weekday second))

theorem clampCode_code (b : Bool) : BitVec.ofNat 8 (clampCode b).code = if b then 1 else 0 := by cases b <;> rfl

section
variable (s : State) (seq : BitVec 4) (day : BitVec 16) (weekday : Byte) (second : BitVec 24)

theorem clockTaken_csu : (s.clockTaken day weekday second).csu = s.csu.setClock day.toNat weekday.toNat second.toNat := rfl

theorem clockTaken_zone (z : ZoneId) : (s.clockTaken day weekday second).zone z = s.zone z := rfl

theorem clockTaken_afterHours (z : ZoneId) : (s.clockTaken day weekday second).afterHours z = s.afterHours z := rfl

/-- R32: CLOCK_SET is stamped by the clock it has set. -/
theorem clockTaken_sp :
    (s.clockTaken day weekday second).sp = s.sp.enqueue
      { kind := .clockSet, stamp := .clock day.toNat (min second.toNat 86399) (s.csu.timebase == .degraded), door := none
        zone := none, channel := none, subject := none, reason := none } := rfl

theorem clockReply_payload :
    replyPayload codeClockSet (clampCode (decide (6 < weekday.toNat) || decide (86399 < second.toNat)))
        (bytes2 day.toNat ++ bytes1 (min weekday.toNat 6) ++ bytes3 (min second.toNat 86399)) =
      clockReply day weekday second := by
  simp [replyPayload, clockReply, clampCode_code, codeClockSet]

theorem cmdClockSet_answered :
    cmdClockSet day weekday second s =
      ((s.clockTaken day weekday second).refreshAfterHours,
        .now (clampCode (decide (6 < weekday.toNat) || decide (86399 < second.toNat)))
          (bytes2 day.toNat ++ bytes1 (min weekday.toNat 6) ++ bytes3 (min second.toNat 86399))) := rfl

theorem exec_clockSet_taken (h : s.takesCommands) :
    exec (.clockSet seq day weekday second) s = .next (s.clockSetDone seq day weekday second).settle := by
  have taken := takeCommand_now h seq codeClockSet (cmdClockSet_answered s day weekday second)
  rw [clockReply_payload] at taken
  exact taken

/-- R35, R46: of CSU the clock and the flags change. -/
theorem clockSetDone_csu :
    let c := (s.clockSetDone seq day weekday second).csu
    c.day = day.toNat ∧ c.weekday = min weekday.toNat 6 ∧ c.second = min second.toNat 86399 ∧ c.clock = .set
      ∧ c.epochEnd = false ∧ c.ticks = s.csu.ticks ∧ c.ms = s.csu.ms ∧ c.timebase = s.csu.timebase
      ∧ c.crystalWatch = s.csu.crystalWatch ∧ c.schedules = s.csu.schedules ∧ c.holidays = s.csu.holidays := by
  unfold State.clockSetDone
  rw [addReply_csu, refreshAfterHours_csu, clockTaken_csu]
  simp [Csu.setClock]

theorem clockSetDone_afterHours (z : ZoneId) :
    (s.clockSetDone seq day weekday second).afterHours z =
      !(s.clockSetDone seq day weekday second).csu.covers (s.zone z).staffed := by
  unfold State.clockSetDone
  rw [addReply_csu, addReply_afterHours, refreshAfterHours_flag_now, clockTaken_zone]

theorem clockSetDone_replies :
    (s.clockSetDone seq day weekday second).sp.replies =
      s.sp.replies ++ [readyReply seq (clockReply day weekday second)] := by
  simp [State.clockSetDone, clockTaken_sp, readyReply]

/-- R46: where no flag changes, SAU does nothing and CLOCK_SET is the only event. -/
theorem clockSetDone_unchanged (h : ∀ z, (s.clockSetDone seq day weekday second).afterHours z = s.afterHours z) :
    (s.clockSetDone seq day weekday second).sp.events = (s.clockTaken day weekday second).sp.events
      ∧ (s.clockSetDone seq day weekday second).rm = s.rm ∧ (s.clockSetDone seq day weekday second).sau = s.sau := by
  have same : (s.clockTaken day weekday second).refreshAfterHours = s.clockTaken day weekday second :=
    refreshAfterHours_unchanged fun z => by
      rw [clockTaken_afterHours, ← h z, State.clockSetDone, addReply_afterHours]
  rw [State.clockSetDone, same]
  exact ⟨rfl, rfl, rfl⟩

end

end Sys2Proof.Machine

section
open Sys2Proof Sys2Proof.Machine

/-- Settles O7: each command is its body and its reply; a flag is what the clock that stands afterwards gives. -/
theorem clockCommandsResult : Obligations.ClockCommandsResult := by
  refine ⟨fun s seq day weekday second taken => ⟨_, exec_clockSet_taken s seq day weekday second taken, ?_⟩,
    fun s seq day taken ascending => ⟨fun present => ?_, fun absent full => ?_, fun absent room => ?_⟩,
    fun s seq day taken => ⟨fun absent => ?_, fun l r split hl hr => ?_⟩⟩
  · obtain ⟨day', weekday', second', clock, epochEnd, ticks, ms, timebase, watch, schedules, holidays⟩ :=
      clockSetDone_csu s seq day weekday second
    refine ⟨day', weekday', second', clock, epochEnd, ticks, ms, timebase, watch, schedules, holidays,
      clockSetDone_afterHours s seq day weekday second, clockSetDone_replies s seq day weekday second, fun unchanged => ?_, ?_⟩
    · rw [← clockTaken_sp s day weekday second]; exact clockSetDone_unchanged s seq day weekday second unchanged
    · simp [State.clockSetDone, State.clockTaken]
  · exact exec_holidayAdd_taken s seq taken day (cmdHolidayAdd_present present)
  · exact exec_holidayAdd_taken s seq taken day (cmdHolidayAdd_full absent full)
  · obtain ⟨list, flags, csu, rest⟩ :=
      holidaysSet_spec s (insertDay day.toNat s.csu.holidays) seq codeHolidayAdd
    refine ⟨_, exec_holidayAdd_room s seq taken absent room, ?_, ?_, flags, csu, rest⟩
    · rw [list]; exact insertDay_ascending ascending absent
    · rw [list]; exact fun x => mem_insertDay
  · exact exec_holidayDrop_taken s seq taken day (cmdHolidayDrop_absent absent)
  · obtain ⟨list, flags, csu, rest⟩ :=
      holidaysSet_spec s (s.csu.holidays.filter (fun d => d != day.toNat)) seq codeHolidayDrop
    refine ⟨_, exec_holidayDrop_present s seq taken (by rw [split]; simp), ?_, flags, csu, rest⟩
    rw [list, split]; exact filter_day hl hr

end
end

section
namespace Sys2Proof.Machine

/-! ## The day type -/

theorem dayType_holiday {c : Csu} {d w : Nat} (h : d ∈ c.holidays) : c.dayType d w = 7 := by simp [Csu.dayType, h]

theorem dayType_other {c : Csu} {d w : Nat} (h : d ∉ c.holidays) : c.dayType d w = w := by simp [Csu.dayType, h]

/-! ## The openings of a slot -/

/-- R41: the slot opens today and covers the instant. -/
def Csu.coversToday (c : Csu) (sl : SchedSlot) : Prop :=
  sl.mask.getLsbD (c.dayType c.day c.weekday) = true ∧ sl.start ≤ c.second / 60 ∧ c.second / 60 < sl.start + sl.length

/-- R42: the slot opened yesterday, reaches over midnight and covers the instant. -/
def Csu.coversYesterday (c : Csu) (sl : SchedSlot) : Prop :=
  c.day ≠ 0 ∧ sl.mask.getLsbD (c.dayType (c.day - 1) ((c.weekday + 6) % 7)) = true ∧ 1440 < sl.start + sl.length
    ∧ c.second / 60 < sl.start + sl.length - 1440

/-- R41, R42: a covering opening of the slot has `k` seconds left. -/
def Csu.leaves (c : Csu) (sl : SchedSlot) (k : Nat) : Prop :=
  (c.coversToday sl ∧ k + c.second = (sl.start + sl.length) * 60)
    ∨ (c.coversYesterday sl ∧ k + c.second = (sl.start + sl.length - 1440) * 60)

section
variable {c : Csu} {sl : SchedSlot} {k : Nat}

theorem leaves_iff :
    c.leaves sl k ↔
      (sl.mask.getLsbD (c.dayType c.day c.weekday) = true ∧ sl.start ≤ c.second / 60
          ∧ c.second / 60 < sl.start + sl.length ∧ k + c.second = (sl.start + sl.length) * 60)
      ∨ (c.day ≠ 0 ∧ sl.mask.getLsbD (c.dayType (c.day - 1) ((c.weekday + 6) % 7)) = true
          ∧ 1440 < sl.start + sl.length ∧ c.second / 60 < sl.start + sl.length - 1440
          ∧ k + c.second = (sl.start + sl.length - 1440) * 60) := by
  simp only [Csu.leaves, Csu.coversToday, Csu.coversYesterday, and_assoc]

/-- R41, R42: an opening that covers has a second left. -/
theorem leaves_pos (h : c.leaves sl k) : 0 < k := by
  rcases h with ⟨⟨_, _, inside⟩, left⟩ | ⟨⟨_, _, _, inside⟩, left⟩ <;> omega

theorem exists_leaves : (∃ k, c.leaves sl k) ↔ c.coversToday sl ∨ c.coversYesterday sl := by
  constructor
  · rintro ⟨k, ⟨today, _⟩ | ⟨yesterday, _⟩⟩
    · exact .inl today
    · exact .inr yesterday
  · rintro (today | yesterday)
    · have inside := today.2.2
      exact ⟨(sl.start + sl.length) * 60 - c.second, .inl ⟨today, by omega⟩⟩
    · have inside := yesterday.2.2.2
      exact ⟨(sl.start + sl.length - 1440) * 60 - c.second, .inr ⟨yesterday, by omega⟩⟩

/-- R37: within a slot's stored limits no opening has more than a day left. -/
theorem leaves_le_day (h : c.leaves sl k) (start : sl.start ≤ 1439) (length : sl.length ≤ 1440) : k ≤ 86400 := by
  rcases h with ⟨⟨_, opened, _⟩, left⟩ | ⟨_, left⟩ <;> omega

/-! ## What the model computes of them -/

theorem todayLeft_covering (h : c.coversToday sl) :
    sl.todayLeft (c.dayType c.day c.weekday) c.second + c.second = (sl.start + sl.length) * 60 := by
  obtain ⟨opens, opened, inside⟩ := h
  have left : sl.todayLeft (c.dayType c.day c.weekday) c.second = (sl.start + sl.length) * 60 - c.second := by
    simp [SchedSlot.todayLeft, SchedSlot.opensOn, opens, opened, inside]
  omega

theorem todayLeft_elsewhere (h : ¬ c.coversToday sl) : sl.todayLeft (c.dayType c.day c.weekday) c.second = 0 :=
  if_neg (by simpa [SchedSlot.opensOn, Csu.coversToday] using h)

theorem yesterdayLeft_covering (h : c.coversYesterday sl) :
    sl.yesterdayLeft (c.dayType (c.day - 1) ((c.weekday + 6) % 7)) c.second + c.second =
      (sl.start + sl.length - 1440) * 60 := by
  obtain ⟨_, opens, past, inside⟩ := h
  have left : sl.yesterdayLeft (c.dayType (c.day - 1) ((c.weekday + 6) % 7)) c.second =
      (sl.start + sl.length - 1440) * 60 - c.second := by
    simp [SchedSlot.yesterdayLeft, SchedSlot.opensOn, opens, past, inside]
  omega

theorem yesterdayLeft_elsewhere (h : ¬ c.coversYesterday sl) (day : c.day ≠ 0) :
    sl.yesterdayLeft (c.dayType (c.day - 1) ((c.weekday + 6) % 7)) c.second = 0 :=
  if_neg (by simpa [SchedSlot.opensOn, Csu.coversYesterday, day] using h)

theorem slotLeft_first (day : c.day = 0) : c.slotLeft sl = sl.todayLeft (c.dayType c.day c.weekday) c.second := by
  simp only [Csu.slotLeft, if_pos day]

theorem slotLeft_later (day : c.day ≠ 0) :
    c.slotLeft sl =
      max (sl.todayLeft (c.dayType c.day c.weekday) c.second)
        (sl.yesterdayLeft (c.dayType (c.day - 1) ((c.weekday + 6) % 7)) c.second) := by
  simp only [Csu.slotLeft, if_neg day]

theorem todayLeft_le_slotLeft : sl.todayLeft (c.dayType c.day c.weekday) c.second ≤ c.slotLeft sl := by
  by_cases day : c.day = 0
  · rw [slotLeft_first day]
  · rw [slotLeft_later day]; exact le_max_left _ _

theorem leaves_le_slotLeft (h : c.leaves sl k) : k ≤ c.slotLeft sl := by
  rcases h with ⟨today, left⟩ | ⟨yesterday, left⟩
  · have value := todayLeft_covering today
    have below := todayLeft_le_slotLeft (c := c) (sl := sl)
    omega
  · have value := yesterdayLeft_covering yesterday
    have below := le_max_right (sl.todayLeft (c.dayType c.day c.weekday) c.second)
      (sl.yesterdayLeft (c.dayType (c.day - 1) ((c.weekday + 6) % 7)) c.second)
    rw [slotLeft_later yesterday.1]
    omega

theorem todayLeft_attained :
    sl.todayLeft (c.dayType c.day c.weekday) c.second = 0
      ∨ c.leaves sl (sl.todayLeft (c.dayType c.day c.weekday) c.second) := by
  by_cases today : c.coversToday sl
  · exact .inr (.inl ⟨today, todayLeft_covering today⟩)
  · exact .inl (todayLeft_elsewhere today)

theorem yesterdayLeft_attained (day : c.day ≠ 0) :
    sl.yesterdayLeft (c.dayType (c.day - 1) ((c.weekday + 6) % 7)) c.second = 0
      ∨ c.leaves sl (sl.yesterdayLeft (c.dayType (c.day - 1) ((c.weekday + 6) % 7)) c.second) := by
  by_cases yesterday : c.coversYesterday sl
  · exact .inr (.inr ⟨yesterday, yesterdayLeft_covering yesterday⟩)
  · exact .inl (yesterdayLeft_elsewhere yesterday day)

theorem slotLeft_attained : c.slotLeft sl = 0 ∨ c.leaves sl (c.slotLeft sl) := by
  by_cases day : c.day = 0
  · rw [slotLeft_first day]; exact todayLeft_attained
  · rw [slotLeft_later day]
    rcases max_choice (sl.todayLeft (c.dayType c.day c.weekday) c.second)
        (sl.yesterdayLeft (c.dayType (c.day - 1) ((c.weekday + 6) % 7)) c.second) with larger | larger
    · rw [larger]; exact todayLeft_attained
    · rw [larger]; exact yesterdayLeft_attained day

end

/-! ## The remainder of a schedule -/

/-- R43: one slot's share in the largest remainder; an empty slot has none. -/
def Csu.takeSlot (c : Csu) (r : Nat) : Option SchedSlot → Nat
  | some sl => max r (c.slotLeft sl)
  | none => r

/-- R43: the largest remainder of a schedule's slots. -/
def Csu.longest (c : Csu) (n : SchedId) : Nat := (c.schedules.get n).toList.foldl c.takeSlot 0

/-- R41 to R43: a covering opening of the schedule has `k` seconds left. -/
def Csu.schedLeaves (c : Csu) (n : SchedId) (k : Nat) : Prop :=
  ∃ (i : Fin 4) (sl : SchedSlot), (c.schedules.get n).get i = some sl ∧ c.leaves sl k

theorem le_foldl_takeSlot (c : Csu) (l : List (Option SchedSlot)) (r : Nat) : r ≤ l.foldl c.takeSlot r := by
  induction l generalizing r with
  | nil => exact le_refl r
  | cons slot l ih =>
    have grows : r ≤ c.takeSlot r slot := by
      cases slot with
      | none => exact le_refl r
      | some sl => exact le_max_left _ _
    exact grows.trans (ih _)

theorem slotLeft_le_foldl_takeSlot (c : Csu) {l : List (Option SchedSlot)} {sl : SchedSlot} (h : some sl ∈ l) (r : Nat) :
    c.slotLeft sl ≤ l.foldl c.takeSlot r := by
  induction l generalizing r with
  | nil => exact absurd h List.not_mem_nil
  | cons slot l ih =>
    rcases List.mem_cons.1 h with rfl | later
    · exact (le_max_right r (c.slotLeft sl)).trans (le_foldl_takeSlot c l _)
    · exact ih later _

theorem foldl_takeSlot_attained (c : Csu) (l : List (Option SchedSlot)) (r : Nat) :
    l.foldl c.takeSlot r = r ∨ ∃ sl, some sl ∈ l ∧ l.foldl c.takeSlot r = c.slotLeft sl := by
  induction l generalizing r with
  | nil => exact .inl rfl
  | cons slot l ih =>
    rcases ih (c.takeSlot r slot) with first | ⟨sl, later, value⟩
    · cases slot with
      | none => exact .inl first
      | some sl =>
        rcases max_choice r (c.slotLeft sl) with larger | larger
        · exact .inl (first.trans larger)
        · exact .inr ⟨sl, List.mem_cons_self, first.trans larger⟩
    · exact .inr ⟨sl, List.mem_cons_of_mem _ later, value⟩

theorem some_mem_toList {sl : SchedSlot} {v : Vector (Option SchedSlot) 4} :
    some sl ∈ v.toList ↔ ∃ i : Fin 4, v.get i = some sl := by
  rw [Vector.mem_toList_iff, Vector.mem_iff_getElem]
  exact ⟨fun ⟨i, hi, value⟩ => ⟨⟨i, hi⟩, value⟩, fun ⟨i, value⟩ => ⟨i.val, i.isLt, value⟩⟩

section
variable (c : Csu) (n : SchedId)

theorem schedLeaves_le_longest {k : Nat} (h : c.schedLeaves n k) : k ≤ c.longest n := by
  obtain ⟨i, sl, slot, leaves⟩ := h
  exact (leaves_le_slotLeft leaves).trans (slotLeft_le_foldl_takeSlot c (some_mem_toList.2 ⟨i, slot⟩) 0)

theorem longest_attained : c.longest n = 0 ∨ c.schedLeaves n (c.longest n) := by
  rcases foldl_takeSlot_attained c (c.schedules.get n).toList 0 with none | ⟨sl, mem, value⟩
  · exact .inl none
  · obtain ⟨i, slot⟩ := some_mem_toList.1 mem
    have value : c.longest n = c.slotLeft sl := value
    rw [value]
    exact slotLeft_attained.imp_right fun leaves => ⟨i, sl, slot, leaves⟩

theorem schedLeaves_pos {k : Nat} (h : c.schedLeaves n k) : 0 < k := by
  obtain ⟨_, _, _, leaves⟩ := h
  exact leaves_pos leaves

/-- R43: the largest remainder, or 0 and no opening covers. -/
theorem longest_spec : (c.longest n = 0 ∧ ∀ k, ¬ c.schedLeaves n k) ∨ c.schedLeaves n (c.longest n) := by
  rcases longest_attained c n with zero | leaves
  · refine .inl ⟨zero, fun k leaves => ?_⟩
    have pos := schedLeaves_pos c n leaves
    have le := schedLeaves_le_longest c n leaves
    omega
  · exact .inr leaves

theorem longest_pos_iff : 0 < c.longest n ↔ ∃ k, c.schedLeaves n k := by
  constructor
  · intro pos
    rcases longest_attained c n with zero | leaves
    · omega
    · exact ⟨_, leaves⟩
  · rintro ⟨k, leaves⟩
    exact (schedLeaves_pos c n leaves).trans_le (schedLeaves_le_longest c n leaves)

theorem exists_schedLeaves :
    (∃ k, c.schedLeaves n k) ↔
      ∃ (i : Fin 4) (sl : SchedSlot), (c.schedules.get n).get i = some sl ∧ (c.coversToday sl ∨ c.coversYesterday sl) := by
  constructor
  · rintro ⟨k, i, sl, slot, leaves⟩
    exact ⟨i, sl, slot, exists_leaves.1 ⟨k, leaves⟩⟩
  · rintro ⟨i, sl, slot, covers⟩
    obtain ⟨k, leaves⟩ := exists_leaves.2 covers
    exact ⟨k, i, sl, slot, leaves⟩

theorem longest_le_day
    (stored : ∀ (i : Fin 4) (sl : SchedSlot), (c.schedules.get n).get i = some sl → sl.start ≤ 1439 ∧ sl.length ≤ 1440) :
    c.longest n ≤ 86400 := by
  rcases longest_attained c n with zero | ⟨i, sl, slot, leaves⟩
  · omega
  · obtain ⟨start, length⟩ := stored i sl slot
    exact leaves_le_day leaves start length

theorem remainder_always : c.remainder 0 = .unbounded := rfl

variable {c n}

theorem remainder_unset (other : n ≠ 0) (unset : c.clock = .unset) : c.remainder n = .bounded 0 := by
  simp [Csu.remainder, other, unset]

theorem remainder_set (other : n ≠ 0) (set : c.clock = .set) : c.remainder n = .bounded (c.longest n) := by
  unfold Csu.remainder
  rw [if_neg other, set]
  rfl

theorem covers_iff :
    c.covers n = true ↔
      n = 0 ∨ (c.clock = .set ∧ ∃ (i : Fin 4) (sl : SchedSlot), (c.schedules.get n).get i = some sl
        ∧ (c.coversToday sl ∨ c.coversYesterday sl)) := by
  by_cases always : n = 0
  · subst always; simp [covers_always]
  · rw [← exists_schedLeaves, ← longest_pos_iff]
    cases clock : c.clock with
    | unset => simp [Csu.covers, remainder_unset always clock, Remainder.covers, always]
    | set => simp [Csu.covers, remainder_set always clock, Remainder.covers, always]

theorem remainder_le_day
    (stored : ∀ (i : Fin 4) (sl : SchedSlot), (c.schedules.get n).get i = some sl → sl.start ≤ 1439 ∧ sl.length ≤ 1440)
    {r : Nat} (h : c.remainder n = .bounded r) : r ≤ 86400 := by
  by_cases always : n = 0
  · subst always; exact nomatch (remainder_always c).symm.trans h
  · cases clock : c.clock with
    | unset =>
      obtain rfl : 0 = r := Remainder.bounded.inj ((remainder_unset always clock).symm.trans h)
      omega
    | set =>
      obtain rfl : c.longest n = r := Remainder.bounded.inj ((remainder_set always clock).symm.trans h)
      exact longest_le_day c n stored

end

/-! ## The strongroom budget -/

/-- R44: the window test refuses what cannot outlast the delay. -/
theorem budgetOf_refused {r delay window : Nat} {duress : Bool} (h : r ≤ delay) :
    budgetOf (.bounded r) delay window duress = none := by
  simp [budgetOf, h]

/-- R45: the delay and the window that fit a bounded remainder. -/
theorem budgetOf_fits {r delay window : Nat} {duress : Bool} (h : delay < r) :
    budgetOf (.bounded r) delay window duress =
      some { delay := effectiveDelay delay duress
             window := min (window : Int) ((r : Int) - effectiveDelay delay duress) } := by
  simp [budgetOf, h]

end Sys2Proof.Machine

section
open Sys2Proof Sys2Proof.Machine

/-- Settles O8: a schedule covers while its largest remainder is above 0, and that remainder is the largest of the covering
openings. -/
theorem scheduleCoverAndBudget : Obligations.ScheduleCoverAndBudget := by
  refine ⟨fun c d w => ⟨dayType_holiday, dayType_other⟩, fun c n => ?_, fun delay window duress => ⟨rfl, fun r => ?_⟩⟩
  · have left_iff (k : Nat) : c.schedLeaves n k ↔ _ := exists_congr fun i => exists_congr fun sl => and_congr_right' leaves_iff
    simp only [← left_iff]
    refine ⟨covers_iff, fun always => always ▸ remainder_always c, remainder_unset, fun other set => ?_,
      fun stored r => remainder_le_day stored⟩
    exact ⟨_, remainder_set other set, fun k => schedLeaves_le_longest c n, longest_spec c n⟩
  · refine ⟨budgetOf_refused, fun fits => ⟨_, budgetOf_fits fits, rfl, rfl, ?_⟩⟩
    dsimp only
    omega

end
end

section
namespace Sys2Proof.Machine

/-! ## The cache -/

theorem isFetching_iff (c : CacheState) : c.isFetching = true ↔ c = .fetching := by cases c <;> simp [CacheState.isFetching]

theorem filter_number_absent {n : Nat} {l : List CacheEntry} (absent : ∀ e ∈ l, e.number ≠ n) :
    l.filter (fun e => e.number != n) = l :=
  List.filter_eq_self.2 fun e he => bne_iff_ne.2 (absent e he)

theorem filter_number_split {n : Nat} {l r : List CacheEntry} {e : CacheEntry} (own : e.number = n)
    (others : ∀ x ∈ l ++ r, x.number ≠ n) : (l ++ e :: r).filter (fun x => x.number != n) = l ++ r := by
  rw [List.filter_append, List.filter_cons_of_neg (by simp [own]), ← List.filter_append, filter_number_absent others]

/-- R55: the least recent entry that is not FETCHING stands before FETCHING entries only. -/
theorem dropLeastRecent_split {l r : List CacheEntry} {e : CacheEntry} (gone : e.state ≠ .fetching)
    (behind : ∀ x ∈ r, x.state = .fetching) : dropLeastRecent (l ++ e :: r) = l ++ r := by
  have behind' : ∀ x ∈ r.reverse, ¬ (!x.state.isFetching) = true := fun x hx => by
    simp [behind x (List.mem_reverse.1 hx), CacheState.isFetching]
  have gone' : (!e.state.isFetching) = true := by
    rw [Bool.not_eq_true', ← Bool.not_eq_true, isFetching_iff]; exact gone
  simp only [dropLeastRecent, List.reverse_append, List.reverse_cons, List.append_assoc, List.singleton_append]
  rw [List.eraseP_append_right _ behind', List.eraseP_cons_of_pos (p := fun b : CacheEntry => !b.state.isFetching) gone']
  simp

section
variable {c : Csc} {n : Nat}

/-- R54: at most one entry is of a number. -/
theorem entry_split {l r : List CacheEntry} {e : CacheEntry} (split : c.cache = l ++ e :: r) (own : e.number = n)
    (others : ∀ x ∈ l ++ r, x.number ≠ n) : c.entry n = some e := by
  have before : l.find? (fun x => x.number == n) = none :=
    List.find?_eq_none.2 fun x hx => by simpa using others x (List.mem_append_left _ hx)
  rw [Csc.entry, split, List.find?_append, before, Option.none_or, List.find?_cons_of_pos (by simpa using own)]

theorem entry_absent (absent : ∀ e ∈ c.cache, e.number ≠ n) : c.entry n = none :=
  List.find?_eq_none.2 fun e he => by simpa using absent e he

/-- R55: a hit. -/
theorem touch_split {l r : List CacheEntry} {e : CacheEntry} (split : c.cache = l ++ e :: r) (own : e.number = n)
    (others : ∀ x ∈ l ++ r, x.number ≠ n) : c.touch e = { c with cache := e :: (l ++ r) } := by
  subst own
  rw [Csc.touch, split, filter_number_split rfl others]

/-- R59: an entry of a cache that keeps its bound changes state. -/
theorem install_split {l r : List CacheEntry} {e : CacheEntry} (state : CacheState) (split : c.cache = l ++ e :: r)
    (own : e.number = n) (others : ∀ x ∈ l ++ r, x.number ≠ n) (bound : c.cache.length ≤ 48) :
    c.install n state = { c with cache := { number := n, state } :: (l ++ r) } := by
  have room : (l ++ r).length < 48 := by
    rw [split] at bound
    simp only [List.length_append, List.length_cons] at bound ⊢
    omega
  simp only [Csc.install, split, filter_number_split own others, if_pos room]

theorem install_room (state : CacheState) (absent : ∀ e ∈ c.cache, e.number ≠ n) (room : c.cache.length < 48) :
    c.install n state = { c with cache := { number := n, state } :: c.cache } := by
  simp only [Csc.install, filter_number_absent absent, if_pos room]

/-- R55: a full cache gives up its least recent entry that is not FETCHING. -/
theorem install_full {l r : List CacheEntry} {e : CacheEntry} (state : CacheState) (absent : ∀ e ∈ c.cache, e.number ≠ n)
    (full : 48 ≤ c.cache.length) (split : c.cache = l ++ e :: r) (gone : e.state ≠ .fetching)
    (behind : ∀ x ∈ r, x.state = .fetching) :
    c.install n state = { c with cache := { number := n, state } :: (l ++ r) } := by
  simp only [Csc.install, filter_number_absent absent, if_neg (Nat.not_lt.2 full)]
  rw [split, dropLeastRecent_split gone behind]

/-! ## Lookups -/

theorem installFetching_underWrite (writing : c.underWrite (homeBucket n) = true) : c.installFetching n = c := if_pos writing

theorem installFetching_install (free : c.underWrite (homeBucket n) = false) :
    c.installFetching n = c.install n .fetching := by
  rw [Csc.installFetching, free]; rfl

/-- R54, R55, R58: the cache once the FETCHING entry of an absent number is made. -/
theorem installFetching_cache (absent : ∀ e ∈ c.cache, e.number ≠ n) :
    (c.underWrite (homeBucket n) = true → (c.installFetching n).cache = c.cache)
      ∧ (c.underWrite (homeBucket n) = false → c.cache.length < 48 →
          (c.installFetching n).cache = { number := n, state := .fetching } :: c.cache)
      ∧ (c.underWrite (homeBucket n) = false → 48 ≤ c.cache.length →
          ∀ l x r, c.cache = l ++ x :: r → x.state ≠ .fetching → (∀ y ∈ r, y.state = .fetching) →
            (c.installFetching n).cache = { number := n, state := .fetching } :: (l ++ r)) := by
  refine ⟨fun writing => ?_, fun free room => ?_, fun free full l x r split gone behind => ?_⟩
  · rw [installFetching_underWrite writing]
  · rw [installFetching_install free, install_room .fetching absent room]
  · rw [installFetching_install free, install_full .fetching absent full split gone behind]

/-- R54, R58: the FETCHING entry is made from the cache and the write record, and changes the cache alone. -/
theorem installFetching_queue (c : Csc) (queue : List FetchRequest) (n : Nat) :
    Csc.installFetching { c with queue } n = { c with cache := (c.installFetching n).cache, queue } := by
  by_cases writing : c.underWrite (homeBucket n) = true
  · rw [installFetching_underWrite writing]; exact installFetching_underWrite writing
  · have free := Bool.eq_false_of_not_eq_true writing
    rw [installFetching_install free]; exact installFetching_install free

/-- R58: a request for the bucket is in the fetch queue. -/
def Csc.queued (c : Csc) (bucket : Nat) : Bool := c.queue.any (fun r => r.bucket == bucket)

/-- R58: the fetch queue has no place for one more number of the bucket. -/
def Csc.noPlace (c : Csc) (bucket : Nat) : Prop :=
  8 ≤ (waitingNumbers c.queue).length ∨ (8 ≤ c.queue.length ∧ ¬ c.queued bucket)

/-- R57, R58: the request that a miss brings to the end of the fetch queue. -/
def Waiter.request (w : Waiter) : FetchRequest :=
  { bucket := homeBucket w.number, waiters := [w], attempt := 1, inCycle := false, firstNumber := w.number }

theorem queued_iff (c : Csc) (bucket : Nat) : c.queued bucket = true ↔ ∃ r ∈ c.queue, r.bucket = bucket := by
  simp [Csc.queued]

theorem noPlace_iff (c : Csc) (bucket : Nat) :
    c.noPlace bucket ↔
      8 ≤ (waitingNumbers c.queue).length ∨ (8 ≤ c.queue.length ∧ ¬ ∃ r ∈ c.queue, r.bucket = bucket) := by
  rw [Csc.noPlace, queued_iff]

variable {w : Waiter}

theorem miss_waiting (waiting : w.number ∈ waitingNumbers c.queue) : c.miss w = (c.addWaiter w, .wait) := by
  simp only [Csc.miss, List.contains_iff_mem.2 waiting, if_true]

theorem miss_noPlace (new : w.number ∉ waitingNumbers c.queue) (full : c.noPlace (homeBucket w.number)) :
    c.miss w = (c, .busy) := by
  unfold Csc.noPlace Csc.queued at full
  simp only [Csc.miss, List.contains_iff_mem, if_neg new, if_pos full]

theorem miss_queued (new : w.number ∉ waitingNumbers c.queue) (place : ¬ c.noPlace (homeBucket w.number))
    (queued : c.queued (homeBucket w.number) = true) :
    c.miss w = ({ c with cache := (c.installFetching w.number).cache, queue := (c.addWaiter w).queue }, .wait) := by
  unfold Csc.noPlace Csc.queued at place
  simp only [Csc.miss, List.contains_iff_mem, if_neg new, if_neg place, if_pos (show c.queue.any _ = true from queued)]
  exact congrArg (·, Answer.wait) (installFetching_queue c _ _)

theorem startIfIdle_busy (busy : c.port ≠ .idle) : c.startIfIdle = c := if_neg busy

/-- R51: an idle port that no credential write waits for starts the head request. -/
theorem startIfIdle_fetch {r : FetchRequest} {q : List FetchRequest} (idle : c.port = .idle) (queue : c.queue = r :: q)
    (write : c.write = none) : c.startIfIdle = { c with queue := { r with inCycle := true } :: q, port := .fetch } := by
  simp only [Csc.startIfIdle, if_pos idle, Csc.handOn, write, queue]

theorem miss_new (new : w.number ∉ waitingNumbers c.queue) (place : ¬ c.noPlace (homeBucket w.number))
    (alone : ¬ c.queued (homeBucket w.number)) :
    c.miss w =
      (Csc.startIfIdle { c with cache := (c.installFetching w.number).cache, queue := c.queue ++ [w.request] }, .wait) := by
  unfold Csc.noPlace Csc.queued at place
  simp only [Csc.miss, List.contains_iff_mem, if_neg new, if_neg place, if_neg (show ¬ c.queue.any _ = true from alone)]
  exact congrArg (fun d => (Csc.startIfIdle d, Answer.wait)) (installFetching_queue c _ _)

theorem miss_new_busy (new : w.number ∉ waitingNumbers c.queue) (place : ¬ c.noPlace (homeBucket w.number))
    (alone : ¬ c.queued (homeBucket w.number)) (busy : c.port ≠ .idle) :
    c.miss w = ({ c with cache := (c.installFetching w.number).cache, queue := c.queue ++ [w.request] }, .wait) :=
  (miss_new new place alone).trans (congrArg (·, Answer.wait) (startIfIdle_busy busy))

theorem miss_new_idle (new : w.number ∉ waitingNumbers c.queue) (place : ¬ c.noPlace (homeBucket w.number))
    (alone : ¬ c.queued (homeBucket w.number)) (idle : c.port = .idle) (queue : c.queue = []) (write : c.write = none) :
    c.miss w =
      ({ c with
          cache := (c.installFetching w.number).cache
          queue := [{ w.request with inCycle := true }]
          port := .fetch }, .wait) := by
  refine (miss_new new place alone).trans (congrArg (·, Answer.wait) ?_)
  exact startIfIdle_fetch (q := []) idle (by rw [queue]; rfl) write

/-- R56: a lookup of a number that the cache does not hold. -/
theorem lookup_absent (absent : ∀ e ∈ c.cache, e.number ≠ w.number) : c.lookup w = c.miss w := by
  simp only [Csc.lookup, entry_absent absent]

/-- R56: a lookup of a number that the cache holds. -/
theorem lookup_split {l r : List CacheEntry} {e : CacheEntry} (split : c.cache = l ++ e :: r) (own : e.number = w.number)
    (others : ∀ x ∈ l ++ r, x.number ≠ w.number) :
    (∀ slot, e.state = .valid slot → c.lookup w = ({ c with cache := e :: (l ++ r) }, .found slot))
      ∧ (e.state = .negative → c.lookup w = ({ c with cache := e :: (l ++ r) }, .notEnrolled))
      ∧ (e.state = .fetching → c.lookup w = (c.addWaiter w, .wait)) := by
  have hit := touch_split split own others
  refine ⟨fun slot state => ?_, fun state => ?_, fun state => ?_⟩ <;>
    simp only [Csc.lookup, entry_split split own others, state, hit]

end

end Sys2Proof.Machine
end

section
namespace Sys2Proof.Machine

/-! ## A command whose reply is deferred -/

/-- R200: a taken command that its block has yet to end reserves a place. -/
theorem takeCommand_later {s t : State} (h : s.takesCommands) (seq : BitVec 4) (code : Byte) {body : Body}
    {owner : ReplyOwner} (deferred : body s = (t, .later owner)) :
    (s.takeCommand seq code body).done = .next (t.addReply seq (.reserved owner code)).settle := by
  rw [takeCommand_taken h, deferred]; rfl

/-- R48, R61: 0 and 0xFFFFFF are no credential numbers. -/
theorem enrollable_iff (n : Nat) : enrollable n = true ↔ n ≠ 0 ∧ n ≠ 16777215 := by simp [enrollable]

theorem toNat_enrollable (n : BitVec 24) : enrollable n.toNat = true ↔ n ≠ 0 ∧ n ≠ 0xFFFFFF := by
  rw [enrollable_iff, ← BitVec.toNat_ne_iff_ne, ← BitVec.toNat_ne_iff_ne]; rfl

/-! ## CRED LOOK -/

section
variable {s : State} {n : Nat}

theorem cmdCredLook_bad (bad : ¬ enrollable n = true) : cmdCredLook n s = s.no .badValue := if_pos bad

theorem cmdCredLook_second (good : enrollable n = true) (look : s.csc.look.isSome = true) :
    cmdCredLook n s = s.no .busy := by
  simp only [cmdCredLook, good, look, not_true_eq_false, if_false, if_true]

/-- R68: a lookup that is to wait. -/
theorem cmdCredLook_wait {c : Csc} (good : enrollable n = true) (look : s.csc.look = none)
    (lookup : s.csc.lookup { requester := .station, number := n } = (c, .wait)) :
    cmdCredLook n s = (s.setCsc { c with look := some n }, .later .look) := by
  simp only [cmdCredLook, good, look, not_true_eq_false, Option.isSome_none, Bool.false_eq_true, if_false, lookup]

/-- R68: a lookup that is answered at once. -/
theorem cmdCredLook_answered {c : Csc} {a : Answer} (good : enrollable n = true) (look : s.csc.look = none)
    (ends : a ≠ .wait) (lookup : s.csc.lookup { requester := .station, number := n } = (c, a)) :
    cmdCredLook n s = (s.setCsc c, .now a.lookReply.1 a.lookReply.2) := by
  simp only [cmdCredLook, good, look, not_true_eq_false, Option.isSome_none, Bool.false_eq_true, if_false, lookup]

end

section
variable {s : State} {seq : BitVec 4} {n : BitVec 24}

theorem exec_credLook_now (taken : s.takesCommands) {t : State} {r : ReplyCode} {data : List Byte}
    (answered : cmdCredLook n.toNat s = (t, .now r data)) :
    exec (.credLook seq n) s = .next (t.addReply seq (.ready (replyPayload codeCredLook r data))).settle :=
  takeCommand_now taken seq codeCredLook answered

/-- R58, R68: a look that waits. -/
theorem exec_credLook_wait (taken : s.takesCommands) {c : Csc} (good : enrollable n.toNat = true) (look : s.csc.look = none)
    (lookup : s.csc.lookup { requester := .station, number := n.toNat } = (c, .wait)) :
    exec (.credLook seq n) s =
      .next ((s.setCsc { c with look := some n.toNat }).addReply seq (.reserved .look codeCredLook)).settle :=
  takeCommand_later taken seq codeCredLook (cmdCredLook_wait good look lookup)

/-- R56, R68: a look that is answered at once. -/
theorem exec_credLook_answered (taken : s.takesCommands) {c : Csc} {a : Answer} (good : enrollable n.toNat = true)
    (look : s.csc.look = none) (ends : a ≠ .wait)
    (lookup : s.csc.lookup { requester := .station, number := n.toNat } = (c, a)) :
    exec (.credLook seq n) s =
      .next ((s.setCsc c).addReply seq (.ready (replyPayload codeCredLook a.lookReply.1 a.lookReply.2))).settle :=
  exec_credLook_now taken (cmdCredLook_answered good look ends lookup)

end

end Sys2Proof.Machine

section
open Sys2Proof Sys2Proof.Machine

/-- Settles O19: a look is its lookup, answered at once or left waiting. -/
theorem credLookResult : Obligations.CredLookResult := by
  intro s seq n taken
  have good : n ≠ 0 → n ≠ 0xFFFFFF → enrollable n.toNat = true := fun h0 hf => (toNat_enrollable n).2 ⟨h0, hf⟩
  refine ⟨fun bad => ?_, fun h0 hf look => ?_, fun h0 hf look => ⟨fun l e r split own others => ?_, fun absent => ?_⟩⟩
  · refine exec_credLook_now taken (cmdCredLook_bad fun h => ?_)
    obtain ⟨h0, hf⟩ := (toNat_enrollable n).1 h
    exact bad.elim h0 hf
  · exact exec_credLook_now taken (cmdCredLook_second (good h0 hf) look)
  · obtain ⟨valid, negative, fetching⟩ := lookup_split (w := { requester := .station, number := n.toNat }) split own others
    refine ⟨fun slot state => ?_, fun state => ?_, fun state => ?_⟩
    · exact exec_credLook_answered taken (good h0 hf) look (by simp) (valid slot state)
    · exact exec_credLook_answered taken (good h0 hf) look (by simp) (negative state)
    · exact exec_credLook_wait taken (good h0 hf) look (fetching state)
  · have miss := lookup_absent (c := s.csc) (w := { requester := .station, number := n.toNat }) absent
    have place := noPlace_iff s.csc (homeBucket n.toNat)
    have queued := queued_iff s.csc (homeBucket n.toNat)
    have cache := installFetching_cache absent
    refine ⟨fun waiting => ?_, fun new full => ?_, fun new free bucket => ?_, fun new free bucket => ?_⟩
    · exact exec_credLook_wait taken (good h0 hf) look (miss.trans (miss_waiting waiting))
    · exact exec_credLook_answered taken (good h0 hf) look (by simp) (miss.trans (miss_noPlace new (place.2 full)))
    · exact ⟨_, exec_credLook_wait taken (good h0 hf) look
        (miss.trans (miss_queued new (mt place.1 free) (queued.2 bucket))), cache⟩
    · have alone := mt queued.1 bucket
      refine ⟨fun busy => ?_, fun idle queue write => ?_⟩
      · exact ⟨_, exec_credLook_wait taken (good h0 hf) look
          (miss.trans (miss_new_busy new (mt place.1 free) alone busy)), cache⟩
      · exact ⟨_, exec_credLook_wait taken (good h0 hf) look
          (miss.trans (miss_new_idle new (mt place.1 free) alone idle queue write)), cache⟩

end
end

section
namespace Sys2Proof.Machine

/-! ## The stages of a credential write -/

section
variable {s : State} {w : WriteRecord} {k : Nat}

theorem cycle_slotWrite (port : s.csc.port = .write) (write : s.csc.write = some w) (stage : w.stage = .slotWrite k) :
    s.csc.cycle = some (.slotWrite (slotAddress (homeBucket w.number) k) w.bytes) := by
  rw [cycle_write port write, WriteRecord.cycle, stage]

theorem cycle_readBack (port : s.csc.port = .write) (write : s.csc.write = some w) (stage : w.stage = .readBack k) :
    s.csc.cycle = some (.slotRead (slotAddress (homeBucket w.number) k)) := by
  rw [cycle_write port write, WriteRecord.cycle, stage]

theorem cycle_writeRead {attempt : Nat} (port : s.csc.port = .write) (write : s.csc.write = some w)
    (stage : w.stage = .read attempt) : s.csc.cycle = some (.bucketRead (bucketAddresses (homeBucket w.number))) := by
  rw [cycle_write port write, WriteRecord.cycle, stage]

/-- R64: a slot write in time is read back. -/
theorem slotWritten_slotWrite (write : s.csc.write = some w) (stage : w.stage = .slotWrite k) :
    s.slotWritten = s.setStage w (.readBack k) := by
  simp only [State.slotWritten, write, stage]

theorem slotWriteFails_slotWrite (write : s.csc.write = some w) (stage : w.stage = .slotWrite k) :
    s.slotWriteFails = s.endWrite w (.fault .writeTimeout) := by
  simp only [State.slotWriteFails, write, stage]

/-- R65: the read-back succeeds exactly when it gives the bytes that were written. -/
theorem readBackEnds_readBack (equal : WriteRecord → Bool) (write : s.csc.write = some w) (stage : w.stage = .readBack k) :
    s.readBackEnds equal = s.endWrite w (if equal w then .success else .fault .readBack) := by
  simp only [State.readBackEnds, write, stage]

/-- R66: a credential write that no RESTART waits for ends as a store fault. -/
theorem endWrite_fault (free : s.sp.restartWaiting = false) (r : StoreReason) :
    s.endWrite w (.fault r) =
      (s.writeOver 0x09).tells
        (s.event .storeFault (subject := some (.credential w.number)) (reason := some r.code)) := endWrite_eq w _ free

end

end Sys2Proof.Machine

section
open Sys2Proof Sys2Proof.Machine

/-- Settles O22: each ending moves the write record to its next stage or ends the write as Table 3-2 has it. -/
theorem writeStagesResult : Obligations.WriteStagesResult := by
  intro s w k write free
  refine ⟨fun port inside => ⟨cycle_slotWrite port write, cycle_readBack port write, ?_⟩, fun stage => ⟨?_, ?_⟩,
    fun stage => ⟨?_, fun slot differs => ?_, ?_⟩⟩
  · exact slotAddress_bound (Nat.mod_lt _ (by decide)) inside
  · exact congrArg State.done (slotWritten_slotWrite write stage)
  · exact congrArg State.done ((slotWriteFails_slotWrite write stage).trans (endWrite_fault free .writeTimeout))
  · have equal := readBackEnds_readBack (fun x => w.bytes == x.bytes) write stage
    rw [if_pos (by simp), endWrite_eq w .success free] at equal
    refine (congrArg State.done equal).trans ?_
    cases op : w.op <;> rfl
  · have unequal := readBackEnds_readBack (fun x => slot == x.bytes) write stage
    rw [if_neg (by simpa using differs), endWrite_fault free] at unequal
    exact congrArg State.done unequal
  · exact congrArg State.done ((readBackEnds_readBack (fun _ => false) write stage).trans (endWrite_fault free .readBack))

end
end

section
namespace Sys2Proof.Machine

/-! ## The answer to a waiting CRED LOOK -/

/-- R68, R200: the place reserved for a CRED LOOK holds its reply; the others stay. -/
def ReplyPlace.lookAnswered (data : List Byte) (p : ReplyPlace) : ReplyPlace :=
  match p.body with
  | .reserved .look code => { p with body := .ready (code :: data) }
  | .reserved .write _ | .reserved .restart _ | .ready _ | .sending _ => p

theorem complete_look (r : ReplyCode) (data : List Byte) (p : ReplyPlace) :
    p.complete .look r data = p.lookAnswered (BitVec.ofNat 8 r.code :: data) := by
  obtain ⟨seq, body⟩ := p
  cases body with
  | reserved owner code => cases owner <;> rfl
  | ready payload => rfl
  | sending payload => rfl

/-- R68: what follows the command code in the reply of a CRED LOOK. -/
def Answer.lookData (a : Answer) : List Byte := BitVec.ofNat 8 a.lookReply.1.code :: a.lookReply.2

theorem answerLook_eq (s : State) (a : Answer) :
    s.answerLook a =
      { s with
        csc := { s.csc with look := none }
        sp := { s.sp with replies := s.sp.replies.map (ReplyPlace.lookAnswered a.lookData) } } := by
  have places : s.sp.replies.map (ReplyPlace.complete .look a.lookReply.1 a.lookReply.2) =
      s.sp.replies.map (ReplyPlace.lookAnswered a.lookData) :=
    List.map_congr_left fun p _ => complete_look a.lookReply.1 a.lookReply.2 p
  rw [← places]; rfl

/-! ## The answer to a waiting presentation -/

/-- R73, R75: the one presentation of a reader leaves the list and is decided. -/
theorem resume_split {s : State} {d : DevIx} {p : Presentation} {k m : List Presentation} (a : Answer)
    (split : s.pe.waiting = k ++ p :: m) (own : p.reader = d) (others : ∀ y ∈ k ++ m, y.reader ≠ d) :
    s.resume d a = State.decidePresentation { s with pe := { waiting := k ++ m } } p a := by
  have before : k.find? (fun q => q.reader == d) = none :=
    List.find?_eq_none.2 fun y hy => by simpa using others y (List.mem_append_left _ hy)
  have left : (k ++ p :: m).filter (fun q => q.reader != d) = k ++ m := by
    rw [List.filter_append, List.filter_cons_of_neg (by simpa using own), ← List.filter_append]
    exact List.filter_eq_self.2 fun y hy => by simpa using others y hy
  rw [State.resume, split, List.find?_append, before, Option.none_or, List.find?_cons_of_pos (by simpa using own), left]

/-- R75, R76: no presentation of the reader waits any longer. -/
theorem resume_waiting (s : State) (d : DevIx) (a : Answer) :
    (s.resume d a).pe.waiting = s.pe.waiting.filter (fun p => p.reader != d) := by
  unfold State.resume
  split
  · rw [decidePresentation_pe]
  · next nobody =>
    exact (List.filter_eq_self.2 fun p hp => by simpa using List.find?_eq_none.1 nobody p hp).symm

/-! ## The port is handed on -/

/-- R51: what the port is handed to follows from the write record; the CRED LOOK that waits is kept. -/
theorem freed_look (c : Csc) (look : Option Nat) (cache : List CacheEntry) (queue : List FetchRequest) :
    Csc.freed { c with look } cache queue = { c.freed cache queue with look } := by
  obtain ⟨_, _, write, _, _⟩ := c
  cases write <;> rfl

theorem freed_none {c : Csc} (write : c.write = none) (cache : List CacheEntry) (queue : List FetchRequest) :
    c.freed cache queue =
      { cache, queue := (match queue with | x :: l => { x with inCycle := true } :: l | [] => []), write := none
        port := if queue = [] then .idle else .fetch, look := c.look } := by
  obtain ⟨_, _, _, _, _⟩ := c
  subst write
  rfl

theorem freed_some {c : Csc} {w : WriteRecord} (write : c.write = some w) (cache : List CacheEntry)
    (queue : List FetchRequest) :
    c.freed cache queue =
      { cache := cache.filter (fun e => e.number % 2048 != w.number % 2048), queue, write := some { w with stage := .read 1 }
        port := .write, look := c.look } := by
  obtain ⟨_, _, _, _, _⟩ := c
  subst write
  rfl

/-- R62: no credential write has started. -/
def Csc.noWriteStarted (c : Csc) : Prop := ∀ w, c.write = some w → w.stage = .waiting

/-- R59: the head request leaves the queue. -/
theorem leaveQueue_eq {s : State} {r : FetchRequest} {q : List FetchRequest} (h : s.csc.noWriteStarted)
    (queue : s.csc.queue = r :: q) : s.leaveQueue = s.setCsc (s.csc.freed s.csc.cache q) := by
  have handed := handOn_eq (c := { s.csc with queue := s.csc.queue.drop 1 }) h
  rw [queue] at handed
  rw [State.leaveQueue, queue]
  exact congrArg s.setCsc handed

/-! ## The end of a fetch -/

/-- R53, R59: the waiters of the head request get their answers, the request leaves the queue and the port is handed on. -/
def State.endFetch (s : State) (l : List Waiter) (a : Waiter → Answer) : State :=
  (l.foldl (State.answerWaiter · a) s).leaveQueue

section
variable (s : State) (l : List Waiter) (a : Waiter → Answer)

theorem answerWaiter_reader (d : DevIx) (n : Nat) :
    s.answerWaiter a { requester := .reader d, number := n } = s.resume d (a { requester := .reader d, number := n }) := rfl

theorem answerWaiter_station (n : Nat) :
    s.answerWaiter a { requester := .station, number := n } = s.answerLook (a { requester := .station, number := n }) := rfl

/-- R68: of CSC an answer ends at most the waiting CRED LOOK. -/
theorem answerWaiter_csc (w : Waiter) :
    (s.answerWaiter a w).csc = { s.csc with look := (s.answerWaiter a w).csc.look } := by
  obtain ⟨requester, n⟩ := w
  cases requester with
  | reader d => rw [answerWaiter_reader, resume_csc]
  | station => rfl

theorem answerWaiters_csc : (l.foldl (State.answerWaiter · a) s).csc =
    { s.csc with look := (l.foldl (State.answerWaiter · a) s).csc.look } := by
  induction l generalizing s with
  | nil => rfl
  | cons w l ih => rw [List.foldl_cons, ih, answerWaiter_csc]

theorem answerWaiter_waiting (w : Waiter) :
    (s.answerWaiter a w).pe.waiting = s.pe.waiting.filter (fun p => !(w.requester == .reader p.reader)) := by
  obtain ⟨requester, n⟩ := w
  cases requester with
  | reader d => rw [answerWaiter_reader, resume_waiting]; refine List.filter_congr fun p _ => ?_; simp [bne, eq_comm]
  | station => rw [answerWaiter_station, answerLook_pe]; exact (List.filter_eq_self.2 fun _ _ => rfl).symm

/-- R75: the presentations of the waiters' readers leave the pending list. -/
theorem answerWaiters_waiting : (l.foldl (State.answerWaiter · a) s).pe.waiting =
    s.pe.waiting.filter (fun p => !l.any (fun w => w.requester == .reader p.reader)) := by
  induction l generalizing s with
  | nil => simp
  | cons w l ih =>
    rw [List.foldl_cons, ih, answerWaiter_waiting, List.filter_filter]
    simp only [List.any_cons, Bool.not_or, Bool.and_comm]

theorem endFetch_waiting : (s.endFetch l a).pe.waiting =
    s.pe.waiting.filter (fun p => !l.any (fun w => w.requester == .reader p.reader)) := by
  rw [State.endFetch, leaveQueue_pe, answerWaiters_waiting]

variable {s} {r : FetchRequest} {q : List FetchRequest}

theorem endFetch_csc (h : s.csc.noWriteStarted) (queue : s.csc.queue = r :: q) :
    (s.endFetch l a).csc =
      { s.csc.freed s.csc.cache q with look := (s.endFetch l a).csc.look } := by
  have answered := answerWaiters_csc s l a
  have started : (l.foldl (State.answerWaiter · a) s).csc.noWriteStarted := by rw [answered]; exact h
  rw [State.endFetch, leaveQueue_eq started (by rw [answered]; exact queue), setCsc_csc, answered, freed_look]

theorem endFetch_nil (h : s.csc.noWriteStarted) (queue : s.csc.queue = r :: q) :
    s.endFetch [] a = s.setCsc (s.csc.freed s.csc.cache q) := leaveQueue_eq h queue

/-- R68: a CRED LOOK that waits alone is replied to. -/
theorem endFetch_station {n : Nat} {data : List Byte} (h : s.csc.noWriteStarted) (queue : s.csc.queue = r :: q)
    (reply : (a { requester := .station, number := n }).lookData = data) :
    s.endFetch [{ requester := .station, number := n }] a =
      { s with
        csc := { s.csc.freed s.csc.cache q with look := none }
        sp := { s.sp with replies := s.sp.replies.map (ReplyPlace.lookAnswered data) } } := by
  rw [State.endFetch, List.foldl_cons, List.foldl_nil, answerWaiter_station, answerLook_eq,
    leaveQueue_eq (by exact h) (by exact queue), reply]
  exact congrArg (State.setCsc _) (freed_look s.csc none _ _)

/-- R75: the presentation of a lone reader is decided, in the state `t` that the list has been left in. -/
theorem endFetch_reader {t : State} {d : DevIx} {n : Nat} {x : Answer} {p : Presentation} {k m : List Presentation}
    (h : s.csc.noWriteStarted) (queue : s.csc.queue = r :: q) (answer : a { requester := .reader d, number := n } = x)
    (split : s.pe.waiting = k ++ p :: m) (own : p.reader = d) (others : ∀ y ∈ k ++ m, y.reader ≠ d)
    (left : t = { s with pe := { waiting := k ++ m } }) :
    s.endFetch [{ requester := .reader d, number := n }] a =
      { t.decidePresentation p x with csc := s.csc.freed s.csc.cache q } := by
  subst left
  have kept := decidePresentation_csc { s with pe := { waiting := k ++ m } } p x
  rw [State.endFetch, List.foldl_cons, List.foldl_nil, answerWaiter_reader, answer, resume_split _ split own others,
    leaveQueue_eq (by rw [kept]; exact h) (by rw [kept]; exact queue), kept]
  rfl

end

/-! ## A bucket read ends -/

theorem readFaulted_iff (slots : List (List Byte)) :
    readFaulted slots = true ↔ ∃ b ∈ slots, classifySlot b = .faulted := by
  have faulted (c : SlotClass) : c.isFaulted = true ↔ c = .faulted := by cases c <;> simp [SlotClass.isFaulted]
  simp only [readFaulted, List.any_eq_true, faulted]

/-- R52: a read that completes with a faulted slot ends as one that does not complete. -/
theorem exec_read_faulted {s : State} {slots : List (List Byte)} (faulted : ∃ b ∈ slots, classifySlot b = .faulted) :
    exec (.bucketReadComplete slots) s = exec .bucketReadTimeout s :=
  congrArg State.done (if_pos ((readFaulted_iff slots).2 faulted))

theorem exec_read_good {s t : State} {slots : List (List Byte)} (good : ∀ b ∈ slots, classifySlot b ≠ .faulted)
    (ends : s.readEndsGood slots = t) : exec (.bucketReadComplete slots) s = .next t.settle := by
  rw [← ends]
  refine congrArg State.done (if_neg fun h => ?_)
  obtain ⟨b, mem, faulted⟩ := (readFaulted_iff slots).1 h
  exact good b mem faulted

theorem exec_read_timeout {s t : State} (ends : s.readEndsFaulted = t) : exec .bucketReadTimeout s = .next t.settle :=
  congrArg State.done ends

section
variable {s : State} {r : FetchRequest} {q : List FetchRequest} {slots : List (List Byte)}

theorem readEndsFaulted_repeat (port : s.csc.port = .fetch) (queue : s.csc.queue = r :: q) (first : r.attempt = 1) :
    s.readEndsFaulted = s.repeatFetch r := by
  simp only [State.readEndsFaulted, port, queue, first]
  rfl

theorem readEndsFaulted_fetch (port : s.csc.port = .fetch) (queue : s.csc.queue = r :: q) (second : r.attempt = 2) :
    s.readEndsFaulted = s.fetchFault r := by
  simp only [State.readEndsFaulted, port, queue, second]
  rfl

theorem readEndsGood_fetch (port : s.csc.port = .fetch) (queue : s.csc.queue = r :: q) :
    s.readEndsGood slots = s.fetchGood r slots := by
  simp only [State.readEndsGood, port, queue]

end

/-! ## What a good read gives -/

section
variable {r : FetchRequest} {n : Nat} {slots : List (List Byte)}

theorem mem_numbers (r : FetchRequest) (n : Nat) : n ∈ r.numbers ↔ n ∈ r.waiters.map Waiter.number := by
  simp [FetchRequest.numbers, waitingNumbers]

theorem numbers_lone {w : Waiter} (alone : r.waiters = [w]) : r.numbers = [w.number] := by
  simp [FetchRequest.numbers, waitingNumbers, alone, List.eraseDups_cons]

/-- R50, R52: the first slot occupied by a number of the bucket is its record. -/
theorem result_occupied {k m : List (List Byte)} {b : List Byte} (home : n % 2048 = r.bucket) (split : slots = k ++ b :: m)
    (own : classifySlot b = .occupied n) (first : ∀ y ∈ k, classifySlot y ≠ .occupied n) :
    r.result slots n = .valid b := by
  have before : k.find? (fun y => classifySlot y == .occupied n) = none :=
    List.find?_eq_none.2 fun y hy => by simpa using first y hy
  have found : slotOf slots r.bucket n = some b := by
    rw [slotOf, if_pos (show homeBucket n = r.bucket from home), split, List.find?_append, before, Option.none_or,
      List.find?_cons_of_pos (by simpa using own)]
  simp only [FetchRequest.result, found]

theorem result_absent (absent : ∀ y ∈ slots, classifySlot y ≠ .occupied n) : r.result slots n = .negative := by
  have missing : slotOf slots r.bucket n = none := by
    rw [slotOf, List.find?_eq_none.2 fun y hy => by simpa using absent y hy, ite_self]
  simp only [FetchRequest.result, missing]

/-- R52, R68: what a good read makes of a number: its cache state, its answer, and the data of a CRED LOOK's reply. -/
theorem result_cases {c : CacheState} {a : Answer} {data : List Byte} (home : n % 2048 = r.bucket)
    (answered : (∃ k b m, slots = k ++ b :: m ∧ classifySlot b = .occupied n ∧ (∀ y ∈ k, classifySlot y ≠ .occupied n)
          ∧ c = .valid b ∧ a = .found b ∧ data = 0x00 :: b)
        ∨ ((∀ y ∈ slots, classifySlot y ≠ .occupied n) ∧ c = .negative ∧ a = .notEnrolled ∧ data = [0x06])) :
    r.result slots n = c ∧ (r.result slots n).answer = a ∧ (r.result slots n).answer.lookData = data := by
  rcases answered with ⟨k, b, m, split, own, first, rfl, rfl, rfl⟩ | ⟨absent, rfl, rfl, rfl⟩
  · rw [result_occupied home split own first]; exact ⟨rfl, rfl, rfl⟩
  · rw [result_absent absent]; exact ⟨rfl, rfl, rfl⟩

end

section
variable (c : Csc) (n : Nat) (state : CacheState)

theorem installs_eq (l : List Nat) (f : Nat → CacheState) :
    l.foldl (fun c n => c.install n (f n)) c = { c with cache := (l.foldl (fun c n => c.install n (f n)) c).cache } := by
  induction l generalizing c with
  | nil => rfl
  | cons n l ih => rw [List.foldl_cons, ih]; rfl

variable {c n state}

/-- R55, R59: the cache in which the number has its entry at the most recent place. -/
theorem install_cases {cache : List CacheEntry}
    (cached : (∃ l x k, c.cache = l ++ { number := n, state := x } :: k ∧ (∀ e ∈ l ++ k, e.number ≠ n) ∧ c.cache.length ≤ 48
          ∧ cache = { number := n, state } :: (l ++ k))
        ∨ ((∀ e ∈ c.cache, e.number ≠ n) ∧ c.cache.length < 48 ∧ cache = { number := n, state } :: c.cache)
        ∨ ((∀ e ∈ c.cache, e.number ≠ n) ∧ 48 ≤ c.cache.length
          ∧ ∃ l x k, c.cache = l ++ x :: k ∧ x.state ≠ .fetching ∧ (∀ e ∈ k, e.state = .fetching)
            ∧ cache = { number := n, state } :: (l ++ k))) :
    c.install n state = { c with cache } := by
  rcases cached with ⟨l, x, k, split, others, bound, rfl⟩ | ⟨absent, room, rfl⟩
    | ⟨absent, full, l, x, k, split, gone, behind, rfl⟩
  · exact install_split state split rfl others bound
  · exact install_room state absent room
  · exact install_full state absent full split gone behind

end

/-! ## The end of a fetch, good or faulted -/

section
variable (s : State) (r : FetchRequest) (slots : List (List Byte))

/-- R59: the results are cached, then the waiters are answered. -/
theorem fetchGood_eq :
    s.fetchGood r slots =
      (s.setCsc (r.numbers.foldl (fun c n => c.install n (r.result slots n)) s.csc)).endFetch r.waiters
        (fun w => (r.result slots w.number).answer) := rfl

variable {s r slots}

theorem fetchGood_csc {q : List FetchRequest} (h : s.csc.noWriteStarted) (queue : s.csc.queue = r :: q) :
    ∃ cache, (s.fetchGood r slots).csc = { s.csc.freed cache q with look := (s.fetchGood r slots).csc.look } := by
  rw [fetchGood_eq, installs_eq s.csc r.numbers (r.result slots)]
  exact ⟨_, endFetch_csc _ _ (by exact h) (by exact queue)⟩

theorem fetchGood_waiting : (s.fetchGood r slots).pe.waiting =
    s.pe.waiting.filter (fun p => !r.waiters.any (fun x => x.requester == .reader p.reader)) := by
  rw [fetchGood_eq, endFetch_waiting]; rfl

/-- R59: the one number that waits is cached, then its waiter is answered. -/
theorem fetchGood_lone {w : Waiter} {c : CacheState} {cache : List CacheEntry} (alone : r.waiters = [w])
    (result : r.result slots w.number = c) (cached : s.csc.install w.number c = { s.csc with cache }) :
    s.fetchGood r slots = (s.setCsc { s.csc with cache }).endFetch [w] (fun w => (r.result slots w.number).answer) := by
  rw [fetchGood_eq, numbers_lone alone, alone, List.foldl_cons, List.foldl_nil, result, cached]

/-- R53: the cache without the FETCHING entries of the request's waiters. -/
def Csc.withoutFetching (c : Csc) (r : FetchRequest) : List CacheEntry :=
  c.cache.filter (fun e => !(e.state.isFetching && (r.waiters.map Waiter.number).contains e.number))

theorem dropFetching_eq (c : Csc) : c.dropFetching r = { c with cache := c.withoutFetching r } := by
  have same (e : CacheEntry) : r.numbers.contains e.number = (r.waiters.map Waiter.number).contains e.number := by
    rw [Bool.eq_iff_iff, List.contains_iff_mem, List.contains_iff_mem, mem_numbers]
  simp only [Csc.dropFetching, Csc.withoutFetching, same]

/-- R53: STORE_FAULT is posted and the FETCHING entries of the request's waiters are gone. -/
def State.faultPosted (s : State) (r : FetchRequest) : State :=
  { s.tells (s.event .storeFault (subject := some (.credential r.firstNumber)) (reason := some 1)) with
    csc := { s.csc with cache := s.csc.withoutFetching r } }

theorem faultPosted_replies (s : State) (r : FetchRequest) : (s.faultPosted r).sp.replies = s.sp.replies :=
  enqueue_replies s.sp _

/-- R53: then the waiters are answered. -/
theorem fetchFault_eq : s.fetchFault r = (s.faultPosted r).endFetch r.waiters (fun _ => .storeFault) := by
  rw [State.faultPosted, ← dropFetching_eq]; rfl

end

end Sys2Proof.Machine
end

section
open Sys2Proof Sys2Proof.Machine

/-- Settles O21: a fetch that ends good caches its results, answers its waiters and hands the port on. -/
theorem fetchEndsGood : Obligations.FetchEndsGood := by
  intro s r q slots port queue good
  have ends {t : State} (h : s.fetchGood r slots = t) : exec (.bucketReadComplete slots) s = .next t.settle :=
    exec_read_good good ((readEndsGood_fetch port queue).trans h)
  refine ⟨fun write => ⟨_, ends rfl, ?_⟩, fun n c a data cache waits alone home gives kept => ?_,
    fun n c a data cache d k p m waits alone home gives kept split own others => ?_,
    fun w write stage => ⟨_, ends rfl, ?_⟩⟩
  · have waits : s.csc.noWriteStarted := fun w h => nomatch write.symm.trans h
    obtain ⟨cache, csc⟩ := fetchGood_csc (slots := slots) waits queue
    rw [csc, freed_none write]
    exact ⟨rfl, rfl, rfl, fetchGood_waiting, fetchGood_pending s r slots, fetchGood_fc s r slots, fetchGood_csu s r slots⟩
  · obtain ⟨result, _, reply⟩ := result_cases home gives
    have lone := fetchGood_lone alone result (install_cases kept)
    exact ends (lone.trans (endFetch_station _ waits queue reply))
  · obtain ⟨result, answer, _⟩ := result_cases home gives
    have lone := fetchGood_lone alone result (install_cases kept)
    exact ends (lone.trans (endFetch_reader _ waits queue answer split own others rfl))
  · have waits : s.csc.noWriteStarted := fun x h => Option.some.inj (write.symm.trans h) ▸ stage
    obtain ⟨cache, csc⟩ := fetchGood_csc (slots := slots) waits queue
    rw [csc, freed_some write]
    exact ⟨rfl, rfl, rfl, fun e he => by simpa using (List.mem_filter.1 he).2⟩

end

section
namespace Sys2Proof.Machine

/-! ## The read of a credential write ends -/

section
variable {s : State} {w : WriteRecord} {attempt : Nat} {slots : List (List Byte)}

theorem readEndsFaulted_writeRepeat (port : s.csc.port = .write) (write : s.csc.write = some w) (first : w.stage = .read 1) :
    s.readEndsFaulted = s.setStage w (.read 2) := by
  simp only [State.readEndsFaulted, port, write, first]
  rfl

theorem readEndsFaulted_write (port : s.csc.port = .write) (write : s.csc.write = some w) (second : w.stage = .read 2) :
    s.readEndsFaulted = s.endWrite w (.fault .fetch) := by
  simp only [State.readEndsFaulted, port, write, second]
  rfl

/-- R63: a good read finds the target slot of the write. -/
theorem readEndsGood_target {k : Nat} (port : s.csc.port = .write) (write : s.csc.write = some w)
    (stage : w.stage = .read attempt) (target : targetSlot w.op w.number slots = some k) :
    s.readEndsGood slots = s.setStage w (.slotWrite k) := by
  simp only [State.readEndsGood, port, write, stage, target]

theorem readEndsGood_noSlot (port : s.csc.port = .write) (write : s.csc.write = some w) (stage : w.stage = .read attempt)
    (target : targetSlot w.op w.number slots = none) : s.readEndsGood slots = s.endWrite w .noSlot := by
  simp only [State.readEndsGood, port, write, stage, target]

end

/-! ## The target slot -/

section
variable {p : SlotClass → Bool} {slots l r : List (List Byte)} {b : List Byte} {n : Nat} {op : WriteOp}

theorem slotIndex_split (split : slots = l ++ b :: r) (own : p (classifySlot b) = true)
    (first : ∀ x ∈ l, p (classifySlot x) = false) : slotIndex p slots = some l.length := by
  have before : l.findIdx? (fun x => p (classifySlot x)) = none := List.findIdx?_eq_none_iff.2 first
  rw [slotIndex, split, List.findIdx?_append, before, List.findIdx?_cons, own]
  simp

theorem slotIndex_none (fails : ∀ x ∈ slots, p (classifySlot x) = false) : slotIndex p slots = none :=
  List.findIdx?_eq_none_iff.2 fails

theorem slotIndex_unoccupied (absent : ∀ x ∈ slots, classifySlot x ≠ .occupied n) :
    slotIndex (fun c => c == .occupied n) slots = none :=
  slotIndex_none fun x hx => by simpa using absent x hx

/-- R63: the first slot occupied by the number, or for a CRED PUT of an absent number the first that counts as empty. -/
theorem targetSlot_split (split : slots = l ++ b :: r)
    (found : (classifySlot b = .occupied n ∧ ∀ x ∈ l, classifySlot x ≠ .occupied n)
      ∨ (op = .put ∧ (∀ x ∈ slots, classifySlot x ≠ .occupied n) ∧ (classifySlot b).isEmpty = true
        ∧ ∀ x ∈ l, (classifySlot x).isEmpty = false)) :
    targetSlot op n slots = some l.length := by
  rcases found with ⟨own, first⟩ | ⟨rfl, absent, empty, first⟩
  · have index := slotIndex_split (p := fun c => c == .occupied n) split (by simpa using own)
      fun x hx => by simpa using first x hx
    simp only [targetSlot, index]
  · simp only [targetSlot, slotIndex_unoccupied absent, slotIndex_split split empty first]

theorem targetSlot_none (absent : ∀ x ∈ slots, classifySlot x ≠ .occupied n)
    (noPlace : op = .drop ∨ ∀ x ∈ slots, (classifySlot x).isEmpty = false) : targetSlot op n slots = none := by
  cases op with
  | drop => simp only [targetSlot, slotIndex_unoccupied absent]
  | put =>
    have full := slotIndex_none (noPlace.resolve_left (by decide))
    simp only [targetSlot, slotIndex_unoccupied absent, full]

end

/-! ## The read that a RESTART left running ends -/

section
variable {s : State} {attempt n : Nat} {slots : List (List Byte)}

theorem readEndsFaulted_idle (port : s.csc.port = .idle) : s.readEndsFaulted = s := by
  simp only [State.readEndsFaulted, port]

theorem readEndsFaulted_orphanRepeat (port : s.csc.port = .orphan 1 n) :
    s.readEndsFaulted = s.setCsc { s.csc with port := .orphan 2 n } := by
  simp only [State.readEndsFaulted, port]
  rfl

/-- R70: it answers no one; the port is handed on. -/
theorem readEndsFaulted_orphan (h : s.csc.noWriteStarted) (port : s.csc.port = .orphan 2 n) :
    s.readEndsFaulted = (s.postStoreFault n .fetch).setCsc (s.csc.freed s.csc.cache s.csc.queue) := by
  rw [← handOn_eq h]
  simp only [State.readEndsFaulted, port]
  rfl

theorem readEndsGood_orphan (h : s.csc.noWriteStarted) (port : s.csc.port = .orphan attempt n) :
    s.readEndsGood slots = s.setCsc (s.csc.freed s.csc.cache s.csc.queue) := by
  rw [← handOn_eq h]
  simp only [State.readEndsGood, port]

end

end Sys2Proof.Machine

section
open Sys2Proof Sys2Proof.Machine

/-- Settles O20: a bucket read that ends is repeated, or ends what holds the port: a fetch, a credential write or the read
left over from before a RESTART. -/
theorem bucketReadResult : Obligations.BucketReadResult := by
  intro s
  refine ⟨fun r q port queue => cycle_fetch port queue, fun w a port write stage => cycle_writeRead port write stage,
    fun slots faulted => exec_read_faulted faulted, fun port => exec_read_timeout (readEndsFaulted_idle port),
    fun r q port queue first => ?_, fun r q port queue second waits => ?_, fun w port write first => ?_,
    fun w port write second free => ?_,
    fun w a slots port write stage good => ⟨fun l b r split found => ?_, fun absent full free => ?_⟩,
    fun n port => exec_read_timeout (readEndsFaulted_orphanRepeat port), fun a n port waits => ⟨?_, fun slots good => ?_⟩⟩
  · refine exec_read_timeout ((readEndsFaulted_repeat port queue first).trans ?_)
    rw [State.repeatFetch, queue]; rfl
  · have fault := (readEndsFaulted_fetch port queue second).trans fetchFault_eq
    refine ⟨⟨_, exec_read_timeout fault, endFetch_csc _ _ waits queue, endFetch_waiting _ _ _⟩, fun nobody => ?_,
      fun n lone => ?_, fun n d k p m lone split own others => ?_⟩
    · rw [nobody] at fault
      exact exec_read_timeout (fault.trans (endFetch_nil _ waits queue))
    · have answered := endFetch_station (s := s.faultPosted r) (n := n) (fun _ => .storeFault) waits queue rfl
      rw [faultPosted_replies] at answered
      rw [lone, answered] at fault
      exact exec_read_timeout fault
    · rw [lone] at fault
      exact exec_read_timeout (fault.trans (endFetch_reader _ waits queue rfl split own others rfl))
  · exact exec_read_timeout (readEndsFaulted_writeRepeat port write first)
  · exact exec_read_timeout ((readEndsFaulted_write port write second).trans (endWrite_fault free .fetch))
  · exact exec_read_good good (readEndsGood_target port write stage (targetSlot_split split found))
  · exact exec_read_good good
      ((readEndsGood_noSlot port write stage (targetSlot_none absent full)).trans (endWrite_eq w .noSlot free))
  · rintro rfl
    exact exec_read_timeout (readEndsFaulted_orphan waits port)
  · exact exec_read_good good (readEndsGood_orphan waits port)

end
end

section
namespace Sys2Proof.Machine

/-! ## Bytes and fields -/

section
variable {l : List Byte} {i : Nat}

theorem byteAt_getElem (h : i < l.length) : byteAt l i = l[i] := by simp [byteAt, h]

theorem byteAt_drop (l : List Byte) (k i : Nat) : byteAt (l.drop k) i = byteAt l (k + i) := by simp [byteAt]

theorem byteAt_mem (h : i < l.length) : byteAt l i ∈ l := by rw [byteAt_getElem h]; exact List.getElem_mem h

theorem slice_succ (count : Nat) (h : i < l.length) : slice l i (count + 1) = byteAt l i :: slice l (i + 1) count := by
  rw [slice, List.drop_eq_getElem_cons h, List.take_succ_cons, byteAt_getElem h, slice]

/-- 00_scope.md 3.1: the bytes of a field, most significant first. -/
theorem field_two (h : i + 1 < l.length) : field l i 2 = (byteAt l i).toNat * 256 + (byteAt l (i + 1)).toNat := by
  rw [field, slice_succ 1 (by omega), slice_succ 0 h]
  simp [numberOf, slice]

theorem field_three (h : i + 2 < l.length) :
    field l i 3 = (byteAt l i).toNat * 65536 + (byteAt l (i + 1)).toNat * 256 + (byteAt l (i + 2)).toNat := by
  rw [field, slice_succ 2 (by omega), slice_succ 1 (by omega), slice_succ 0 h]
  simp only [slice, List.take_zero, numberOf, List.foldl_cons, List.foldl_nil]
  omega

/-- A field of one byte is that byte, and 0 past the end. -/
theorem field_one (l : List Byte) (i : Nat) : field l i 1 = (byteAt l i).toNat := by
  by_cases h : i < l.length
  · rw [field, slice_succ 0 h]; simp [numberOf, slice]
  · have past : l.length ≤ i := Nat.le_of_not_lt h
    simp [field, slice, byteAt, List.drop_eq_nil_of_le past, past, numberOf]

theorem slice_take {k count : Nat} (h : i + count ≤ k) : slice (l.take k) i count = slice l i count := by
  rw [slice, slice, List.drop_take, List.take_take, Nat.min_eq_left (by omega)]

/-- A field that lies in the common beginning of two byte strings. -/
theorem field_congr {m : List Byte} {k count : Nat} (same : l.take k = m.take k) (h : i + count ≤ k) :
    field l i count = field m i count := by
  rw [field, field, ← slice_take h, same, slice_take h]

end

/-! ## The slot test -/

theorem pinFieldGood_iff (pin : Nat) : pinFieldGood pin = true ↔ ¬ (9999 < pin ∧ pin ≠ 0xFFFF) := by
  simp only [pinFieldGood, Bool.or_eq_true, decide_eq_true_eq, beq_iff_eq]
  omega

section
variable {b : List Byte}

/-- R49, test 4: a field outside its set. -/
theorem slotFieldsGood_iff (b : List Byte) :
    slotFieldsGood b = true ↔
      ¬ (2 < (byteAt b 3).toNat ∨ 3 < (byteAt b 4).toNat ∨ 31 < (byteAt b 7).toNat
        ∨ (9999 < field b 8 2 ∧ field b 8 2 ≠ 0xFFFF) ∨ 120 < (byteAt b 14).toNat) := by
  simp only [slotFieldsGood, Bool.and_eq_true, decide_eq_true_eq, pinFieldGood_iff, field_one]
  omega

theorem classifySlot_erased (erased : ∀ x ∈ b, x = 0xFF) : classifySlot b = .erased :=
  if_pos (by simpa using erased)

/-- R49: past the erased test, the check decides, then the contents. -/
theorem classifySlot_written (written : ∃ x ∈ b, x ≠ 0xFF) :
    classifySlot b =
      if crc8 (b.take 15) ≠ byteAt b 15 then .faulted
      else if field b 0 3 = 0 then .empty
      else if field b 0 3 = 16777215 ∨ ¬ slotFieldsGood b then .faulted
      else .occupied (field b 0 3) := if_neg (by simpa using written)

/-- R49, test 4: contents that no slot may have. -/
def slotBad (b : List Byte) : Prop :=
  field b 0 3 = 0xFFFFFF ∨ 2 < (byteAt b 3).toNat ∨ 3 < (byteAt b 4).toNat ∨ 31 < (byteAt b 7).toNat
    ∨ (9999 < field b 8 2 ∧ field b 8 2 ≠ 0xFFFF) ∨ 120 < (byteAt b 14).toNat

theorem slotBad_iff (b : List Byte) : slotBad b ↔ field b 0 3 = 16777215 ∨ ¬ slotFieldsGood b = true := by
  rw [slotFieldsGood_iff, not_not, slotBad]

theorem classifySlot_unchecked (written : ∃ x ∈ b, x ≠ 0xFF) (unchecked : crc8 (b.take 15) ≠ byteAt b 15) :
    classifySlot b = .faulted := by
  rw [classifySlot_written written, if_pos unchecked]

section
variable (written : ∃ x ∈ b, x ≠ 0xFF) (check : crc8 (b.take 15) = byteAt b 15)
include written check

theorem classifySlot_empty (zero : field b 0 3 = 0) : classifySlot b = .empty := by
  rw [classifySlot_written written, if_neg (not_not.2 check), if_pos zero]

theorem classifySlot_bad (nonzero : field b 0 3 ≠ 0) (bad : slotBad b) : classifySlot b = .faulted := by
  rw [classifySlot_written written, if_neg (not_not.2 check), if_neg nonzero, if_pos ((slotBad_iff b).1 bad)]

theorem classifySlot_occupied (nonzero : field b 0 3 ≠ 0) (good : ¬ slotBad b) :
    classifySlot b = .occupied (field b 0 3) := by
  rw [classifySlot_written written, if_neg (not_not.2 check), if_neg nonzero, if_neg (mt (slotBad_iff b).2 good)]

end

/-! ## The record of an occupied slot -/

theorem statusOf_eq (n : Nat) : statusOf n = if n = 0 then .active else if n = 1 then .suspended else .lost :=
  match n with
  | 0 | 1 | _ + 2 => rfl

theorem classOf_eq (n : Nat) :
    classOf n = if n = 0 then .staff else if n = 1 then .custodian else if n = 2 then .contractor else .visitor :=
  match n with
  | 0 | 1 | 2 | _ + 3 => rfl

theorem ofNat_append (a b : Byte) : BitVec.ofNat 16 (a.toNat * 256 + b.toNat) = a ++ b := by
  apply BitVec.eq_of_toNat_eq
  have high := a.isLt
  have low := b.isLt
  rw [BitVec.toNat_append, ← Nat.shiftLeft_add_eq_or_of_lt low, Nat.shiftLeft_eq, BitVec.toNat_ofNat,
    Nat.mod_eq_of_lt (by omega)]

theorem getLsbD_eq (a : Byte) (i : Nat) : a.getLsbD i = decide (a.toNat / 2 ^ i % 2 = 1) := by
  rw [BitVec.getLsbD, Nat.testBit_eq_decide_div_mod_eq]

/-- R48, Table 11-5: the fields of the record, by its bytes. -/
theorem recordOf_eq (length : b.length = 16) :
    recordOf b =
      { number := field b 0 3
        status := if (byteAt b 3).toNat = 0 then .active else if (byteAt b 3).toNat = 1 then .suspended else .lost
        cls := if (byteAt b 4).toNat = 0 then .staff else if (byteAt b 4).toNat = 1 then .custodian
          else if (byteAt b 4).toNat = 2 then .contractor else .visitor
        doorMask := byteAt b 5 ++ byteAt b 6, schedule := Fin.ofNat 32 (byteAt b 7).toNat
        pin := if field b 8 2 = 0xFFFF then none else some (field b 8 2)
        expiry := (byteAt b 10).toNat * 256 + (byteAt b 11).toNat
        escortRequired := decide ((byteAt b 12).toNat % 2 = 1), passbackExempt := decide ((byteAt b 12).toNat / 2 % 2 = 1)
        duressEnabled := decide ((byteAt b 12).toNat / 4 % 2 = 1), issue := (byteAt b 13).toNat
        checkIn := (byteAt b 14).toNat } := by
  have mask : field b 5 2 = (byteAt b 5).toNat * 256 + (byteAt b 6).toNat := field_two (by omega)
  have expiry : field b 10 2 = (byteAt b 10).toNat * 256 + (byteAt b 11).toNat := field_two (by omega)
  simp only [recordOf, field_one, statusOf_eq, classOf_eq, mask, ofNat_append, expiry, getLsbD_eq, pow_zero, pow_one,
    Nat.div_one, Nat.reducePow]

end

/-! ## What a CRED PUT prepares -/

section
variable {l : List Byte}

/-- R61: the prepared bytes 0 to 14. -/
def putFirst (l : List Byte) : List Byte :=
  l.take 12 ++ [byteAt l 12 &&& 0x07, byteAt l 13] ++ bytes1 (min (field l 14 1) 120)

theorem putBytes_eq (l : List Byte) : putBytes l = putFirst l ++ [crc8 (putFirst l)] := rfl

theorem putGood_iff (l : List Byte) :
    putGood l = true ↔
      ¬ (2 < (byteAt l 3).toNat ∨ 3 < (byteAt l 4).toNat ∨ 31 < (byteAt l 7).toNat
        ∨ (9999 < field l 8 2 ∧ field l 8 2 ≠ 0xFFFF)) := by
  simp only [putGood, Bool.and_eq_true, decide_eq_true_eq, pinFieldGood_iff, field_one]
  omega

section
variable (length : l.length = 15)
include length

theorem putFirst_length : (putFirst l).length = 15 := by simp [putFirst, bytes1, length]

theorem putBytes_length : (putBytes l).length = 16 := by simp [putBytes_eq, putFirst_length length]

theorem putBytes_take_first : (putBytes l).take 15 = putFirst l := by
  rw [putBytes_eq, List.take_left' (putFirst_length length)]

theorem putBytes_check : byteAt (putBytes l) 15 = crc8 ((putBytes l).take 15) := by
  rw [putBytes_take_first length, putBytes_eq, byteAt_getElem (by simp [putFirst_length length])]
  simp [putFirst_length length]

theorem putBytes_take : (putBytes l).take 12 = l.take 12 := by
  simp [putBytes_eq, putFirst, length]

theorem putFirst_drop :
    (putFirst l).drop 12 = [byteAt l 12 &&& 0x07, byteAt l 13, BitVec.ofNat 8 (min (byteAt l 14).toNat 120)] := by
  simp [putFirst, bytes1, field_one, length]

/-- R61: the prepared flag byte, issue number and check-in interval, and the check. -/
theorem putBytes_drop :
    (putBytes l).drop 12 =
      [byteAt l 12 &&& 0x07, byteAt l 13, BitVec.ofNat 8 (min (byteAt l 14).toNat 120), crc8 (putFirst l)] := by
  rw [putBytes_eq, List.drop_append_of_le_length (by rw [putFirst_length length]; decide), putFirst_drop length]
  rfl

theorem putBytes_flags : byteAt (putBytes l) 12 = byteAt l 12 &&& 0x07 := by
  rw [← byteAt_drop (putBytes l) 12 0, putBytes_drop length]; rfl

theorem putBytes_issue : byteAt (putBytes l) 13 = byteAt l 13 := by
  rw [← byteAt_drop (putBytes l) 12 1, putBytes_drop length]; rfl

theorem putBytes_checkIn : (byteAt (putBytes l) 14).toNat = min (byteAt l 14).toNat 120 := by
  rw [← byteAt_drop (putBytes l) 12 2, putBytes_drop length]
  exact Nat.mod_eq_of_lt (by omega)

/-- A field that lies before the flag byte is as it was given. -/
theorem putBytes_field {i count : Nat} (h : i + count ≤ 12) : field (putBytes l) i count = field l i count :=
  field_congr (putBytes_take length) h

theorem putBytes_byteAt {i : Nat} (h : i < 12) : (byteAt (putBytes l) i).toNat = (byteAt l i).toNat := by
  rw [← field_one, ← field_one, putBytes_field length h]

/-- R61: what is prepared is no erased slot: its check-in interval is at most 120. -/
theorem putBytes_written : ∃ x ∈ putBytes l, x ≠ 0xFF := by
  refine ⟨byteAt (putBytes l) 14, byteAt_mem (by rw [putBytes_length length]; decide), fun erased => ?_⟩
  have interval := putBytes_checkIn length
  rw [erased] at interval
  have bound := Nat.min_le_right (byteAt l 14).toNat 120
  rw [← interval] at bound
  exact absurd bound (by decide)

theorem putBytes_notBad (number : enrollable (field l 0 3) = true) (good : putGood l = true) : ¬ slotBad (putBytes l) := by
  obtain ⟨_, last⟩ := (enrollable_iff _).1 number
  rw [putGood_iff] at good
  have interval := putBytes_checkIn length
  rw [slotBad, putBytes_byteAt length (by decide : 3 < 12), putBytes_byteAt length (by decide : 4 < 12),
    putBytes_byteAt length (by decide : 7 < 12), putBytes_field length (by decide : 8 + 2 ≤ 12),
    putBytes_field length (by decide : 0 + 3 ≤ 12)]
  omega

/-- R49, R61: what a CRED PUT prepares is a slot occupied by its number. -/
theorem classifySlot_putBytes (number : enrollable (field l 0 3) = true) (good : putGood l = true) :
    classifySlot (putBytes l) = .occupied (field l 0 3) := by
  have same : field (putBytes l) 0 3 = field l 0 3 := putBytes_field length (by decide)
  obtain ⟨nonzero, _⟩ := (enrollable_iff _).1 number
  rw [classifySlot_occupied (putBytes_written length) (putBytes_check length).symm (by rwa [same])
    (putBytes_notBad length number good), same]

end
end

/-! ## A credential write is taken -/

section
variable {s : State} {w : WriteRecord}

theorem takeWrite_second (second : s.csc.write.isSome = true) : s.takeWrite w = s.no .busy := if_pos second

/-- R51, R61: a write waits for a port that is taken. -/
theorem takeWrite_waits (free : s.csc.write = none) (busy : s.csc.port ≠ .idle) :
    s.takeWrite w = (s.setCsc { s.csc with write := some w }, .later .write) := by
  rw [State.takeWrite, if_neg (by simp [free]), Csc.takeWrite, startIfIdle_busy (by exact busy)]

/-- R62: an idle port starts it: its bucket leaves the cache and is read. -/
theorem takeWrite_starts (free : s.csc.write = none) (idle : s.csc.port = .idle) (waiting : w.stage = .waiting) :
    s.takeWrite w =
      (s.setCsc { s.csc with
        cache := s.csc.cache.filter (fun e => e.number % 2048 != w.number % 2048)
        write := some { w with stage := .read 1 }, port := .write }, .later .write) := by
  have started := handOn_eq (c := { s.csc with write := some w }) fun x h => Option.some.inj h ▸ waiting
  rw [State.takeWrite, if_neg (by simp [free]), Csc.takeWrite, Csc.startIfIdle, if_pos idle, started]
  rfl

/-- R61, R62: what a checked CRED PUT or CRED DROP does: BUSY, wait or start. -/
theorem exec_write_taken {c : Instr} {seq : BitVec 4} {code : Byte} {body : Body} (taken : s.takesCommands)
    (runs : exec c s = (s.takeCommand seq code body).done) (checked : body s = s.takeWrite w)
    (waiting : w.stage = .waiting) :
    (s.csc.write.isSome = true → exec c s = .next (s.addReply seq (.ready [code, 0x02])).settle)
      ∧ (s.csc.write = none → s.csc.port ≠ .idle →
        exec c s = .next ((s.setCsc { s.csc with write := some w }).addReply seq (.reserved .write code)).settle)
      ∧ (s.csc.write = none → s.csc.port = .idle →
        exec c s =
          .next ((s.setCsc { s.csc with
            cache := s.csc.cache.filter (fun e => e.number % 2048 != w.number % 2048)
            write := some { w with stage := .read 1 }, port := .write }).addReply seq (.reserved .write code)).settle) := by
  rw [runs]
  refine ⟨fun second => ?_, fun free busy => ?_, fun free idle => ?_⟩
  · exact takeCommand_now taken seq code (checked.trans (takeWrite_second second))
  · exact takeCommand_later taken seq code (checked.trans (takeWrite_waits free busy))
  · exact takeCommand_later taken seq code (checked.trans (takeWrite_starts free idle waiting))

end

/-! ## CRED PUT and CRED DROP -/

/-- R61: the parameters of a CRED PUT that are refused. -/
def putBad (l : List Byte) : Prop :=
  numberOf (l.take 3) = 0 ∨ numberOf (l.take 3) = 0xFFFFFF ∨ 2 < (byteAt l 3).toNat ∨ 3 < (byteAt l 4).toNat
    ∨ 31 < (byteAt l 7).toNat ∨ (9999 < field l 8 2 ∧ field l 8 2 ≠ 0xFFFF)

section
variable {s : State} {l : List Byte} {n : BitVec 24}

theorem putBad_iff (l : List Byte) : (enrollable (field l 0 3) && putGood l) = true ↔ ¬ putBad l := by
  have number : field l 0 3 = numberOf (l.take 3) := rfl
  rw [Bool.and_eq_true, enrollable_iff, putGood_iff, number, putBad]
  tauto

theorem cmdCredPut_bad (bad : putBad l) : cmdCredPut l s = s.no .badValue := if_neg fun h => (putBad_iff l).1 h bad

theorem cmdCredPut_good (good : ¬ putBad l) :
    cmdCredPut l s =
      s.takeWrite
        { op := .put, number := numberOf (l.take 3), bytes := putBytes l, clamped := decide (120 < (byteAt l 14).toNat)
          stage := .waiting } := by
  rw [cmdCredPut, if_pos ((putBad_iff l).2 good), putClamped, field_one]
  rfl

theorem cmdCredDrop_bad (bad : n = 0 ∨ n = 0xFFFFFF) : cmdCredDrop n.toNat s = s.no .badValue := by
  refine if_neg fun h => ?_
  obtain ⟨zero, last⟩ := (toNat_enrollable n).1 h
  exact bad.elim zero last

theorem cmdCredDrop_good (zero : n ≠ 0) (last : n ≠ 0xFFFFFF) :
    cmdCredDrop n.toNat s =
      s.takeWrite { op := .drop, number := n.toNat, bytes := List.replicate 16 0, clamped := false, stage := .waiting } :=
  if_pos ((toNat_enrollable n).2 ⟨zero, last⟩)

end

end Sys2Proof.Machine

section
open Sys2Proof Sys2Proof.Machine

/-- Settles O18: a checked write is taken as the port allows; the slot test and the record are read off the sixteen bytes. -/
theorem credWriteCommandResult : Obligations.CredWriteCommandResult := by
  refine ⟨fun s seq taken => ⟨fun l length => ⟨fun bad => ?_, fun good => ?_⟩,
      fun n => ⟨fun bad => ?_, fun zero last => ?_⟩⟩,
    fun b length => ?_, fun l length number good => ?_⟩
  · exact takeCommand_now taken seq codeCredPut (cmdCredPut_bad bad)
  · exact exec_write_taken taken rfl (cmdCredPut_good good) rfl
  · exact takeCommand_now taken seq codeCredDrop (cmdCredDrop_bad bad)
  · exact exec_write_taken taken rfl (cmdCredDrop_good zero last) rfl
  · intro f n pin
    have number : n = field b 0 3 := (field_three (by omega)).symm
    have pins : pin = field b 8 2 := (field_two (by omega)).symm
    clear_value n pin
    subst number pins
    refine ⟨classifySlot_erased, classifySlot_unchecked, fun written check => ⟨classifySlot_empty written check,
      classifySlot_bad written check, fun nonzero good => ?_⟩⟩
    refine ⟨classifySlot_occupied written check nonzero good, _, ?_, recordOf_eq length⟩
    have schedule : (byteAt b 7).toNat ≤ 31 := Nat.le_of_not_lt fun past => good (.inr (.inr (.inr (.inl past))))
    exact Nat.mod_eq_of_lt (by omega)
  · exact ⟨putBytes_length length, classifySlot_putBytes length number good, putBytes_take length, putBytes_flags length,
      putBytes_issue length, putBytes_checkIn length, putBytes_check length⟩

end
end

section
namespace Sys2Proof.Machine

/-! ## The records that a door posts -/

section
variable (s : State) (kind : EventKind) (door : Option DoorId) (zone : Option ZoneId) (channel : Option ChannelId)
  (subject : Option Subject) (reason : Option Nat)

/-- R32: an update that leaves the clock alone leaves the record of a posting. -/
@[simp] theorem event_setDoor (d : DoorId) (x : Door) :
    (s.setDoor d x).event kind door zone channel subject reason = s.event kind door zone channel subject reason := rfl
@[simp] theorem event_setDoorView (d : DoorId) (v : Option DoorView) :
    (s.setDoorView d v).event kind door zone channel subject reason = s.event kind door zone channel subject reason := rfl
@[simp] theorem event_tells (r : EventRecord) :
    (s.tells r).event kind door zone channel subject reason = s.event kind door zone channel subject reason := rfl
@[simp] theorem event_drive (d : DevIx) (o : Output) :
    (s.drive d o).event kind door zone channel subject reason = s.event kind door zone channel subject reason :=
  event_congr (drive_csu s d o) ..
@[simp] theorem event_driveOpt (d : Option DevIx) (o : Output) :
    (s.driveOpt d o).event kind door zone channel subject reason = s.event kind door zone channel subject reason :=
  event_congr (driveOpt_csu s d o) ..

/-- Table 5-3: the zone that PASSAGE and GRANT_UNUSED name. -/
theorem eventZone_eq (p : Passage) : p.eventZone = if p.direction = .exit then p.outer else p.inner := by
  unfold Passage.eventZone Passage.destination
  cases p.direction <;> rfl

/-- R98, R103: GRANT_UNUSED. -/
theorem postUnused_eq (d : DoorId) (p : Passage) (r : UnusedReason) :
    s.postUnused d p r =
      s.tells (s.event .grantUnused (door := some d) (zone := some (if p.direction = .exit then p.outer else p.inner))
        (subject := p.list.head?.map (fun c => Subject.credential c.number)) (reason := some r.code)) := by
  rw [← eventZone_eq]; rfl

end

/-! ## Locking and bolting -/

/-- R104: a door as it is locked. -/
def Door.locked (x : Door) : Door := { x with state := .locked, held := none, unlock := none, passage := none }

/-- R117: a strongroom as it is SECURED at tick `now`. -/
def Door.secured (x : Door) (now : Nat) : Door :=
  { x with
    state := .secured, unlock := none, held := none, passage := none, pairing := none, custodyA := none
    custodyB := none, budget := none, delay := none, display := none, confirm := none, boltCommand := .thrown
    mismatch := false, settle := some (now + 5) }

section
variable (s : State) (d : DoorId)

theorem lockDoor_eq : s.lockDoor d = (s.setDoor d (s.door d).locked).driveOpt (s.door d).entry.unit .lock := rfl

/-- R117: DC bolts the door. -/
theorem driveBolt_eq (b : Bolt) :
    s.driveBolt d b =
      (s.setDoor d { s.door d with boltCommand := b, mismatch := false, settle := some (s.csu.ticks + 5) }).driveOpt
        (s.door d).entry.unit b.output := rfl

theorem secure_eq :
    s.secure d = (s.setDoor d ((s.door d).secured s.csu.ticks)).driveOpt (s.door d).entry.unit .boltThrow := by
  rw [State.secure, driveBolt_eq, door_setDoor_self, setDoor_setDoor]
  rfl

/-- R130, R131: an UNBOLTED entry is bolted again. -/
theorem rebolt_eq (r : CancelReason) :
    s.rebolt d r =
      (((s.setDoor d
          { s.door d with
            unlock := none, passage := none, state := .secured, boltCommand := .thrown, mismatch := false
            settle := some (s.csu.ticks + 5) }).driveOpt (s.door d).entry.unit .boltThrow).driveOpt
          (s.door d).entry.entryReader (.display r.message)).tells
        (s.event .strongroomCancelled (door := some d) (zone := some (s.door d).entry.inner)
          (subject := (s.door d).passage.bind Passage.first) (reason := some r.code)) := by
  simp [State.rebolt, driveBolt_eq, post_tells, Bolt.output]

end

theorem inSequence_iff (t : DoorState) : t.inSequence = true ↔ t = .custodyWait ∨ t = .delay ∨ t = .confirmWait := by
  cases t <;> simp [DoorState.inSequence]

theorem unboltedForEntry_iff (x : Door) :
    x.unboltedForEntry = true ↔ x.state = .unbolted ∧ ∃ p, x.passage = some p ∧ p.direction = .entry := by
  unfold Door.unboltedForEntry
  cases x.passage <;> simp

/-! ## The ends of the door timers -/

section
variable {s : State} {d : DoorId} {n : Nat} {x : Timer}

/-- R29: a timer acts once its tick has come. -/
theorem due_of_le (h : n ≤ s.csu.ticks) (hx : x = some n) : s.due x = true := by simp [State.due, hx, h]

/-- An expiry whose condition holds acts. -/
theorem done_of_pos {p : Prop} [Decidable p] {t u v : State} (h : p) (acts : u = v) :
    (if p then u else t).done = .next v.settle := by rw [if_pos h, acts]; rfl

theorem setHeldOpen_eq :
    s.setHeldOpen d =
      (s.setDoor d { s.door d with state := .heldOpen, held := none }).tells
        (s.event .doorHeldOpen (door := some d) (zone := some (s.door d).entry.inner)) := by
  simp [State.setHeldOpen, postDoor_eq]

/-- R103: the door is locked, and a held passage is discarded. -/
theorem unlockExpired_none (h : (s.door d).passage = none) :
    s.unlockExpired d = (s.setDoor d (s.door d).locked).driveOpt (s.door d).entry.unit .lock := by
  simp [State.unlockExpired, h, lockDoor_eq]

theorem unlockExpired_unused {p : Passage} (h : (s.door d).passage = some p) :
    s.unlockExpired d =
      ((s.setDoor d (s.door d).locked).driveOpt (s.door d).entry.unit .lock).tells
        (s.event .grantUnused (door := some d) (zone := some (if p.direction = .exit then p.outer else p.inner))
          (subject := p.list.head?.map (fun c => Subject.credential c.number)) (reason := some 1)) := by
  simp [State.unlockExpired, h, lockDoor_eq, postUnused_eq, UnusedReason.code]

/-- R125: the strongroom is bolted, and the held passage discarded. -/
theorem unboltExpired_unused {p : Passage} (h : (s.door d).passage = some p) :
    s.unboltExpired d =
      ((s.setDoor d ((s.door d).secured s.csu.ticks)).driveOpt (s.door d).entry.unit .boltThrow).tells
        (s.event .grantUnused (door := some d) (zone := some (if p.direction = .exit then p.outer else p.inner))
          (subject := p.list.head?.map (fun c => Subject.credential c.number)) (reason := some 1)) := by
  simp [State.unboltExpired, h, secure_eq, postUnused_eq, UnusedReason.code]

theorem refuseEscort_waiting {e : Escort} (h : (s.door d).slot = some e) (m : Message) (r : DenyReason) :
    s.refuseEscort d m r =
      ((s.setDoor d { s.door d with slot := none, pairing := none }).drive e.reader (.display m)).tells
        (s.event .deny (door := some d) (zone := some (s.door d).entry.inner) (subject := some (.credential e.number))
          (reason := some r.code)) := by
  simp [State.refuseEscort, h, State.refuseAt, postDoor_eq, State.driveOpt]

/-- R123: a window of a second or more opens. -/
theorem delayExpired_opens {b : Budget} (h : (s.door d).budget = some b) (window : 1 ≤ b.window) :
    s.delayExpired d =
      ((s.setDoor d
          { s.door d with
            delay := none, display := none, confirm := some (s.csu.ticks + b.window.toNat)
            confirmOpening := some s.uptime, state := .confirmWait }).driveOpt (s.door d).entry.entryReader
        (.display .confirm)).tells (s.event .confirmOpen (door := some d) (zone := some (s.door d).entry.inner)) := by
  simp [State.delayExpired, h, window, State.showEntry, postDoor_eq, State.after]

theorem delayExpired_closed {b : Budget} (h : (s.door d).budget = some b) (window : b.window ≤ 0) :
    s.delayExpired d = s.cancelSequence d .windowClosed := by
  have : ¬ 1 ≤ b.window := by omega
  simp [State.delayExpired, h, this]

/-- R122: the display shows what is left of the delay. -/
theorem displayExpired_eq :
    s.displayExpired d =
      (s.setDoor d { s.door d with display := some (s.csu.ticks + 60) }).driveOpt (s.door d).entry.entryReader
        (.display (.delay ((s.door d).delay.getD 0 - s.csu.ticks))) := by
  have left : s.left (s.door d).delay = (s.door d).delay.getD 0 - s.csu.ticks := by
    cases (s.door d).delay <;> simp [State.left]
  simp [State.displayExpired, State.showEntry, left, State.after]

end

end Sys2Proof.Machine

section
open Sys2Proof Sys2Proof.Machine

/-- Settles O32: each expiry acts in the state whose timer it is, and each act is stated once above. -/
theorem doorTimersResult : Obligations.DoorTimersResult := by
  refine ⟨fun s k n due => ⟨fun state unlock => ⟨fun none => ?_, ?_⟩, fun state held => ?_, fun e slot pairing => ?_⟩,
    fun s k n due => ⟨fun state pairing => ?_, fun state display => ?_, fun b state delay budget => ⟨fun w => ?_, fun w => ?_⟩,
      fun state confirm => ?_, ?_, fun settle => ?_⟩⟩
  · exact done_of_pos ⟨state, due_of_le due unlock⟩ (unlockExpired_none none)
  · rintro p _ passage rfl
    exact done_of_pos ⟨state, due_of_le due unlock⟩ (unlockExpired_unused passage)
  · exact done_of_pos ⟨state, due_of_le due held⟩ setHeldOpen_eq
  · exact done_of_pos ⟨by rw [slot]; rfl, due_of_le due pairing⟩ (refuseEscort_waiting slot _ _)
  · exact done_of_pos ⟨state, due_of_le due pairing⟩ (cancelSequence_eq s k (by decide))
  · exact done_of_pos ⟨state, due_of_le due display⟩ displayExpired_eq
  · exact done_of_pos ⟨state, due_of_le due delay⟩ (delayExpired_opens budget w)
  · exact done_of_pos ⟨state, due_of_le due delay⟩
      ((delayExpired_closed budget w).trans (cancelSequence_eq s k (by decide)))
  · exact done_of_pos ⟨state, due_of_le due confirm⟩ (cancelSequence_eq s k (by decide))
  · rintro p _ state unlock passage rfl
    exact done_of_pos ⟨state, due_of_le due unlock⟩ (unboltExpired_unused passage)
  · exact done_of_pos (due_of_le due settle) rfl

end
end

section
namespace Sys2Proof.Machine

/-! ## A list of records -/

/-- R206: records posted one after another move only the event queue. -/
theorem foldl_tells (l : List EventRecord) (s : State) : l.foldl State.tells s = { s with sp := l.foldl Sp.enqueue s.sp } := by
  induction l generalizing s with
  | nil => rfl
  | cons r l ih => exact ih (s.tells r)

/-! ## Zones that become UNKNOWN -/

/-- R142: RU once a zone, if it is tracked, is UNKNOWN. -/
def Ru.unknownAt (r : Ru) (z : ZoneId) : Ru := if z = 0 then r else { r with status := r.status.set z .unknown z.isLt }

theorem bothUnknown_eq (r : Ru) (outer inner : ZoneId) :
    r.bothUnknown outer inner = (r.unknownAt outer).unknownAt inner := rfl

theorem unknownAt_status (r : Ru) (z j : ZoneId) :
    (r.unknownAt z).status.get j = if j = z ∧ z ≠ 0 then .unknown else r.status.get j := by
  unfold Ru.unknownAt
  by_cases zero : z = 0 <;> simp [zero]

/-- A zone that is UNKNOWN stays as it is. -/
theorem unknownAt_same {r : Ru} {z : ZoneId} (h : r.status.get z = .unknown) : r.unknownAt z = r := by
  have same : r.status.set z .unknown z.isLt = r.status := by
    rw [← h]
    apply Vector.ext
    intro i hi
    simp [Vector.get_eq_getElem]
  unfold Ru.unknownAt
  rw [same]
  split <;> rfl

theorem bothUnknown_zoneStatus (r : Ru) (outer inner z : ZoneId) :
    (r.bothUnknown outer inner).status.get z =
      if z ≠ 0 ∧ (z = outer ∨ z = inner) then .unknown else r.status.get z := by
  rw [bothUnknown_eq, unknownAt_status, unknownAt_status]
  grind

theorem bothUnknown_rosters (r : Ru) (outer inner : ZoneId) : (r.bothUnknown outer inner).rosters = r.rosters := by
  simp only [bothUnknown_eq, Ru.unknownAt]
  split <;> split <;> rfl

/-- R142, R206: the event queue after the ZONE_UNKNOWN of a tracked zone, by this reason, if the zone is KNOWN. -/
def State.unknownSp (s : State) (z : ZoneId) (reason : Nat) (p : Sp) : Sp :=
  if z ≠ 0 ∧ s.zoneStatus z = .known then p.enqueue (s.event .zoneUnknown (zone := some z) (reason := some reason)) else p

section
variable (s : State) (z : ZoneId) (r : UnknownReason)

theorem makeUnknown_ru : (s.makeUnknown z r).ru = s.ru.unknownAt z := by
  rw [makeUnknown_eq]
  by_cases known : z ≠ 0 ∧ s.zoneStatus z = .known
  · rw [if_pos known]
    simp [Ru.unknownAt, known.1, State.setZoneStatus]
  · rw [if_neg known]
    by_cases zero : z = 0
    · simp [Ru.unknownAt, zero]
    · have unknown : s.zoneStatus z = .unknown := by
        cases h : s.zoneStatus z with
        | known => exact absurd ⟨zero, h⟩ known
        | unknown => rfl
      exact (unknownAt_same unknown).symm

theorem makeUnknown_sp : (s.makeUnknown z r).sp = s.unknownSp z r.code s.sp := by
  rw [makeUnknown_eq, State.unknownSp]
  split <;> rfl

theorem makeBothUnknown_ru (outer inner : ZoneId) :
    (s.makeBothUnknown outer inner).ru = s.ru.bothUnknown outer inner := by
  rw [State.makeBothUnknown, makeUnknown_ru, makeUnknown_ru, bothUnknown_eq]

/-- R142, log 15: the outer zone is told first, and a zone that is both is told once. -/
theorem makeBothUnknown_sp (outer inner : ZoneId) :
    (s.makeBothUnknown outer inner).sp = s.unknownTold outer inner [] := by
  have told : s.unknownTold outer inner [] =
      if outer = inner then s.unknownSp outer 1 s.sp else s.unknownSp inner 1 (s.unknownSp outer 1 s.sp) := rfl
  have status : (s.makeUnknown outer .unattributed).zoneStatus inner =
      if inner = outer ∧ outer ≠ 0 then .unknown else s.zoneStatus inner := makeUnknown_status ..
  rw [State.makeBothUnknown, makeUnknown_sp, makeUnknown_sp, told, State.unknownSp, status]
  have event : (s.makeUnknown outer .unattributed).event .zoneUnknown (zone := some inner) (reason := some 1) =
      s.event .zoneUnknown (zone := some inner) (reason := some 1) := event_congr (by simp) ..
  by_cases same : outer = inner
  · subst same
    rw [if_pos rfl, if_neg]
    · rfl
    · rintro ⟨tracked, known⟩
      simp [tracked] at known
  · simp only [if_neg same, State.unknownSp, UnknownReason.code, event]
    have : ¬ (inner = outer ∧ outer ≠ 0) := fun h => same h.1.symm
    simp only [if_neg this]

end

end Sys2Proof.Machine
end

section
namespace Sys2Proof.Machine

/-! ## An opening that names no one -/

section
variable {s : State} {outer inner : ZoneId}

theorem makeBothUnknown_rosters : (s.makeBothUnknown outer inner).ru.rosters = s.ru.rosters := by
  rw [makeBothUnknown_ru, bothUnknown_rosters]

theorem makeBothUnknown_zoneStatus (z : ZoneId) :
    (s.makeBothUnknown outer inner).zoneStatus z =
      if z ≠ 0 ∧ (z = outer ∨ z = inner) then .unknown else s.zoneStatus z :=
  (congrArg (fun r : Ru => r.status.get z) (makeBothUnknown_ru s outer inner)).trans (bothUnknown_zoneStatus ..)

@[simp] theorem openingNotice_ru : (s.openingNotice outer inner).ru = s.ru.bothUnknown outer inner := by
  rw [State.openingNotice, zoneNotices_ru, makeBothUnknown_ru]

/-- R146, R152: with no channel at the two zones and SAU's copies current, an opening notice reaches the event queue alone. -/
theorem openingNotice_quiet (atOuter : s.channelOf outer = none) (atInner : s.channelOf inner = none)
    (lone : s.loneCopiesCurrent) :
    (s.openingNotice outer inner).rm = s.rm ∧ (s.openingNotice outer inner).sau = s.sau
      ∧ (s.openingNotice outer inner).sp = s.unknownTold outer inner [] := by
  obtain ⟨rm, sp, sau, -⟩ := zoneNotices_quiet s (s.makeBothUnknown outer inner) fun z tracked changed => by
    have roster : (s.makeBothUnknown outer inner).roster z = s.roster z :=
      congrArg (fun v => v.get z) makeBothUnknown_rosters
    have concerned : z = outer ∨ z = inner := by
      by_contra other
      have status := makeBothUnknown_zoneStatus (s := s) (outer := outer) (inner := inner) z
      rw [if_neg fun h => other h.2] at status
      exact changed (by simp only [State.zoneNow, status, roster])
    obtain ⟨count, sole, -⟩ := lone z tracked
    have timer : (s.makeBothUnknown outer inner).lone z = s.lone z := by simp [State.lone]
    refine ⟨?_, by rw [timer, roster, count], by rw [timer, roster, sole]⟩
    rw [channelOf_congr (t := s) (by simp)]
    rcases concerned with rfl | rfl <;> assumption
  exact ⟨rm.trans (by simp), sau.trans (by simp), sp.trans (makeBothUnknown_sp s outer inner)⟩

end

theorem setDoor_self (s : State) (k : DoorId) : s.setDoor k (s.door k) = s := by
  have same : s.dc.doors.set k (s.dc.doors.get k) k.isLt = s.dc.doors := by
    apply Vector.ext
    intro i hi
    simp [Vector.get_eq_getElem]
  simp only [State.setDoor, State.door, same]

section
variable {s t : State} {k : DoorId} {x y : Door} {first : List EventRecord}

/-- R106, R146: the door is written, its records are posted, and RU is told of the opening. -/
theorem openedUnattributed_doorOpening (atOuter : s.channelOf x.entry.outer = none)
    (atInner : s.channelOf x.entry.inner = none) (lone : s.loneCopiesCurrent) :
    s.openedUnattributed ((first.foldl State.tells (s.setDoor k x)).doorOpening k) k x first := by
  generalize written : first.foldl State.tells (s.setDoor k x) = u
  have told : u = { s.setDoor k x with sp := first.foldl Sp.enqueue s.sp } := by rw [← written, foldl_tells]; rfl
  clear written
  subst told
  have door : (State.door { s.setDoor k x with sp := first.foldl Sp.enqueue s.sp } k) = x := door_setDoor_self s k x
  rw [State.doorOpening, door]
  obtain ⟨rm, sau, sp⟩ := openingNotice_quiet
    (s := { s.setDoor k x with sp := first.foldl Sp.enqueue s.sp }) atOuter atInner lone
  refine ⟨?_, fun j other => ?_, openingNotice_ru, sp, rm, sau, ?_⟩
  · simp [State.door]
  · simp [State.door, other]
  · simp [State.keepsFront]

/-- What DC and SC hold of the door before does not show. -/
theorem openedUnattributed_of_toldDoor (h : (s.toldDoor k y).openedUnattributed t k x first) :
    s.openedUnattributed t k x first := by
  obtain ⟨door, others, rest⟩ := h
  refine ⟨door, fun j other => (others j other).trans ?_, rest⟩
  exact (door_setDoor s k j y).trans (if_neg other)

end

end Sys2Proof.Machine
end

section
namespace Sys2Proof.Machine

/-! ## A DOOR_STATUS frame -/

section
variable {s : State} {k : DoorId} {c : Contact} {b : Bolt} {handle : Bool}

theorem door_toldDoor (s : State) (k : DoorId) (y : Door) : (s.toldDoor k y).door k = y := door_setDoor_self s k y

/-- R161: SC knows of a door no more than its zones and its contact. -/
theorem setDoor_toldDoor {y z : Door} (entry : z.entry = y.entry) (contact : z.contact = y.contact) :
    (s.toldDoor k y).setDoor k z = s.toldDoor k z := by
  have h : (s.toldDoor k y).setDoor k z =
      ((s.setDoor k y).setDoor k z).setDoorView k (some { outer := y.entry.outer, inner := y.entry.inner, contact := y.contact }) :=
    rfl
  rw [h, setDoor_setDoor, ← entry, ← contact]
  rfl

/-- R97: the contact and the bolt are recorded, and SC is told, where no channel stands at the door. -/
theorem setContact_told (kind : (s.door k).entry.kind ≠ .noDoor) (quiet : s.noChannelAt k) :
    (s.setDoor k { s.door k with bolt := some b }).setContact k c = s.toldDoor k ((s.door k).reported c b) := by
  obtain ⟨view, outer, inner⟩ := quiet
  have door : (s.setDoor k { s.door k with bolt := some b }).door k = { s.door k with bolt := some b } := door_setDoor_self ..
  rw [setContact_plain _ k c (by rw [door]; exact kind) (by rw [door]; exact view) (by rw [door]; exact outer)
    (by rw [door]; exact inner), door, setDoor_setDoor]
  rfl

/-- R97: a contact that differs from the one held is a contact change; the bolt is compared after it. -/
theorem doorStatusReport_change (change : (s.door k).contact ≠ c) :
    s.doorStatusReport k c b handle =
      ((s.setDoor k { s.door k with bolt := some b }).contactChange k c handle).compareBolt k b := by
  simp [State.doorStatusReport, change]

theorem doorStatusReport_same (same : (s.door k).contact = c) :
    s.doorStatusReport k c b handle = (s.setDoor k { s.door k with bolt := some b }).compareBolt k b := by
  simp [State.doorStatusReport, same]

theorem route_doorStatus_plain (plain : (s.door k).entry.kind = .plain) (quiet : s.noChannelAt k)
    (change : (s.door k).contact ≠ c) (u : DevIx) :
    s.route u (.doorStatus k c b handle) =
      ((s.toldDoor k ((s.door k).reported c b)).plainContact k (s.door k).contact (c == .opened) handle).compareBolt k b := by
  rw [State.route, doorStatusReport_change change]
  simp only [State.contactChange, setContact_told (by simp [plain]) quiet]
  simp [door_toldDoor, Door.reported, plain]

theorem route_doorStatus_strongroom (strongroom : (s.door k).entry.kind = .strongroom) (quiet : s.noChannelAt k)
    (change : (s.door k).contact ≠ c) (u : DevIx) :
    s.route u (.doorStatus k c b handle) =
      ((s.toldDoor k ((s.door k).reported c b)).strongroomContact k (s.door k).contact (c == .opened) handle).compareBolt
        k b := by
  rw [State.route, doorStatusReport_change change]
  simp only [State.contactChange, setContact_told (by simp [strongroom]) quiet]
  simp [door_toldDoor, Door.reported, strongroom]

/-! ## The bolt comparison -/

/-- R132: the bolt is compared only at a strongroom out of FAULT that is CLOSED and whose settle timer is stopped. -/
def Door.boltCompared (x : Door) : Prop :=
  x.entry.kind = .strongroom ∧ x.contact = .closed ∧ x.settle = none ∧ x.state ≠ .fault

theorem compareBolt_idle (h : ¬ (s.door k).boltCompared) : s.compareBolt k b = s := if_neg h

theorem compareBolt_plain (plain : (s.door k).entry.kind = .plain) : s.compareBolt k b = s :=
  compareBolt_idle fun ⟨h, _⟩ => by simp [plain] at h

theorem compareBolt_opened (opened : (s.door k).contact = .opened) : s.compareBolt k b = s :=
  compareBolt_idle fun ⟨_, h, _⟩ => by simp [opened] at h

theorem compareBolt_settling (settling : (s.door k).settle ≠ none) : s.compareBolt k b = s :=
  compareBolt_idle fun ⟨_, _, h, _⟩ => settling h

end

/-! ## An opening is judged -/

/-- The door as an opening leaves it OPEN. -/
def Door.openedAt (x : Door) (now : Nat) : Door :=
  { x with state := .opened, unlock := none, passage := none, held := some (now + x.entry.heldLimit) }

theorem setOpen_eq (s : State) (k : DoorId) : s.setOpen k = s.setDoor k ((s.door k).openedAt s.csu.ticks) := rfl

section
variable {s : State} {k : DoorId} {c : Contact} {b : Bolt} {handle : Bool}

/-- R105, R128: the judgement is a door and its record, whereupon RU is told of the opening. -/
theorem judgeOpening_eq (held : c ≠ .opened) (reported : (s.door k).reported .opened b = s.door k) :
    s.judgeOpening k c handle =
      ((s.setDoor k (s.judged k { s.door k with contact := c } b handle).1).tells
        (s.judged k { s.door k with contact := c } b handle).2).doorOpening k := by
  have door : Door.reported { s.door k with contact := c } .opened b = s.door k := reported
  have unattributed (r : EgressReason) :
      (s.setOpen k).unattributed k r =
        ((s.setDoor k ((s.door k).openedAt s.csu.ticks)).tells (s.event .unattributedEgress (door := some k)
          (zone := some (s.door k).entry.inner) (reason := some r.code))).doorOpening k := by
    simp [State.unattributed, setOpen_eq, postDoor_eq, Door.openedAt]
  simp only [State.judged, door]
  cases c with
  | opened => exact absurd rfl held
  | unknown => exact (unattributed .contact).trans (by simp [Door.openedAt, EgressReason.code])
  | closed =>
    cases handle with
    | true => exact (unattributed .handle).trans (by simp [Door.openedAt, EgressReason.code])
    | false => simp [State.judgeOpening, postDoor_eq]

theorem judged_forced {x : Door} (forced : x.contact = .closed ∧ handle = false) :
    s.judged k x b handle =
      ({ x.reported .opened b with state := .forced },
        s.event .doorForced (door := some k) (zone := some x.entry.inner)) :=
  if_neg (by simp [forced.1, forced.2])

theorem judged_opened {x : Door} (shown : x.contact = .unknown ∨ handle = true) :
    s.judged k x b handle =
      ((x.reported .opened b).openedAt s.csu.ticks,
        s.event .unattributedEgress (door := some k) (zone := some x.entry.inner)
          (reason := some (if x.contact = .unknown then 2 else 1))) :=
  if_pos shown

theorem judged_entry (x : Door) : (s.judged k x b handle).1.entry = x.entry := by
  unfold State.judged
  dsimp only
  split <;> rfl

theorem judged_contact (x : Door) : (s.judged k x b handle).1.contact = .opened := by
  unfold State.judged
  dsimp only
  split <;> rfl

/-- R105, R128: what an opening of a LOCKED or SECURED door does. -/
theorem judgeOpening_spec (held : c ≠ .opened) (reported : (s.door k).reported .opened b = s.door k)
    (atOuter : s.channelOf (s.door k).entry.outer = none) (atInner : s.channelOf (s.door k).entry.inner = none)
    (lone : s.loneCopiesCurrent) :
    s.openedUnattributed (s.judgeOpening k c handle) k (s.judged k { s.door k with contact := c } b handle).1
      [(s.judged k { s.door k with contact := c } b handle).2] := by
  rw [judgeOpening_eq held reported]
  exact openedUnattributed_doorOpening (first := [_]) (by rw [judged_entry]; exact atOuter)
    (by rw [judged_entry]; exact atInner) lone

/-- R97: an opening that no one was permitted, from the door as it stood before the frame. -/
theorem judgeOpening_toldDoor (quiet : s.noChannelAt k) (held : (s.door k).contact ≠ .opened) (lone : s.loneCopiesCurrent) :
    s.openedUnattributed
      ((s.toldDoor k ((s.door k).reported .opened b)).judgeOpening k (s.door k).contact handle) k
      (s.judged k (s.door k) b handle).1 [(s.judged k (s.door k) b handle).2] := by
  obtain ⟨-, outer, inner⟩ := quiet
  have door := door_toldDoor s k ((s.door k).reported .opened b)
  have spec := judgeOpening_spec (s := s.toldDoor k ((s.door k).reported .opened b)) (b := b) (handle := handle) held
    (by rw [door]; rfl) (by rw [door]; exact outer) (by rw [door]; exact inner) lone
  rw [door] at spec
  exact openedUnattributed_of_toldDoor spec

theorem compareBolt_judged {t : State} {first : List EventRecord} {x : Door} (h : s.openedUnattributed t k x first)
    (opened : x.contact = .opened) : t.compareBolt k b = t :=
  compareBolt_opened (by rw [h.1]; exact opened)

end

/-! ## A door that stands open is closed -/

section
variable {s : State} {k : DoorId} {b : Bolt} {handle : Bool}

theorem standsOpen_iff (t : DoorState) : t.standsOpen = true ↔ t = .opened ∨ t = .heldOpen ∨ t = .forced := by
  cases t <;> simp [DoorState.standsOpen]

/-- The events of closing in the states that stand open. -/
theorem closingEvent_of {t : DoorState} {r : Option EventKind}
    (h : (t = .opened ∧ r = none) ∨ (t = .heldOpen ∧ r = some .doorClosedAfterHeld)
      ∨ (t = .forced ∧ r = some .doorClosedAfterForced)) : t.standsOpen = true ∧ t.closingEvent = r := by
  rcases h with ⟨rfl, rfl⟩ | ⟨rfl, rfl⟩ | ⟨rfl, rfl⟩ <;> exact ⟨rfl, rfl⟩

/-- R104: the event of closing, if there is one. -/
def State.closingTold (s : State) (k : DoorId) (zone : ZoneId) : Option EventKind → State
  | some e => s.tells (s.event e (door := some k) (zone := some zone))
  | none => s

theorem door_closingTold (s : State) (k j : DoorId) (zone : ZoneId) (r : Option EventKind) :
    (s.closingTold k zone r).door j = s.door j := by cases r <;> rfl

theorem plainContact_closing (stands : (s.door k).state.standsOpen = true) :
    s.plainContact k .opened false handle =
      (s.lockDoor k).closingTold k (s.door k).entry.inner (s.door k).state.closingEvent := by
  have door : (s.lockDoor k).door k = (s.door k).locked := by simp [lockDoor_eq]
  rcases (standsOpen_iff _).1 stands with state | state | state <;>
    simp [State.plainContact, state, DoorState.closingEvent, State.closingTold, postDoor_eq, door, Door.locked]

theorem strongroomContact_closing (stands : (s.door k).state.standsOpen = true) :
    s.strongroomContact k .opened false handle =
      (s.secure k).closingTold k (s.door k).entry.inner (s.door k).state.closingEvent := by
  have door : (s.secure k).door k = (s.door k).secured s.csu.ticks := by simp [secure_eq]
  rcases (standsOpen_iff _).1 stands with state | state | state <;>
    simp [State.strongroomContact, state, DoorState.closingEvent, State.closingTold, postDoor_eq, door, Door.secured]

theorem lockDoor_toldDoor (y : Door) :
    (s.toldDoor k y).lockDoor k = (s.toldDoor k y.locked).driveOpt y.entry.unit .lock := by
  rw [lockDoor_eq, door_toldDoor, setDoor_toldDoor (y := y) (z := y.locked) rfl rfl]

theorem secure_toldDoor (y : Door) :
    (s.toldDoor k y).secure k = (s.toldDoor k (y.secured s.csu.ticks)).driveOpt y.entry.unit .boltThrow := by
  rw [secure_eq, door_toldDoor, setDoor_toldDoor (y := y) (z := y.secured _) rfl rfl]
  rfl

/-- R104: a PLAIN door that stands open is locked as it closes. -/
theorem route_plain_closing (plain : (s.door k).entry.kind = .plain) (quiet : s.noChannelAt k)
    (opened : (s.door k).contact = .opened) (stands : (s.door k).state.standsOpen = true) (u : DevIx) :
    s.route u (.doorStatus k .closed b handle) =
      ((s.toldDoor k ((s.door k).reported .closed b).locked).driveOpt (s.door k).entry.unit .lock).closingTold k
        (s.door k).entry.inner (s.door k).state.closingEvent := by
  have closing := plainContact_closing (s := s.toldDoor k ((s.door k).reported .closed b)) (k := k) (handle := handle)
    (by rw [door_toldDoor]; exact stands)
  rw [door_toldDoor, lockDoor_toldDoor] at closing
  rw [route_doorStatus_plain plain quiet (by simp [opened]), opened, show (Contact.closed == .opened) = false from rfl, closing]
  exact compareBolt_plain (by rw [door_closingTold, door_driveOpt, door_toldDoor]; exact plain)

/-- R126: a STRONGROOM that stands open is bolted as it closes; its bolt is not compared yet (log 16). -/
theorem route_strongroom_closing (strongroom : (s.door k).entry.kind = .strongroom) (quiet : s.noChannelAt k)
    (opened : (s.door k).contact = .opened) (stands : (s.door k).state.standsOpen = true) (u : DevIx) :
    s.route u (.doorStatus k .closed b handle) =
      ((s.toldDoor k (((s.door k).reported .closed b).secured s.csu.ticks)).driveOpt (s.door k).entry.unit
        .boltThrow).closingTold k (s.door k).entry.inner (s.door k).state.closingEvent := by
  have closing := strongroomContact_closing (s := s.toldDoor k ((s.door k).reported .closed b)) (k := k) (handle := handle)
    (by rw [door_toldDoor]; exact stands)
  rw [door_toldDoor, secure_toldDoor] at closing
  rw [route_doorStatus_strongroom strongroom quiet (by simp [opened]), opened,
    show (Contact.closed == .opened) = false from rfl, closing]
  exact compareBolt_settling (by rw [door_closingTold, door_driveOpt, door_toldDoor]; simp [Door.secured])

/-- R104: the record of closing is the one that the door's state had before. -/
theorem closingTold_driveOpt (d : Option DevIx) (o : Output) (zone : ZoneId) (r : Option EventKind) :
    (s.driveOpt d o).closingTold k zone r =
      match r with
      | some e => (s.driveOpt d o).tells (s.event e (door := some k) (zone := some zone))
      | none => s.driveOpt d o := by
  cases r <;> simp [State.closingTold]

/-! ## A door in LOCKED -/

/-- R105: an opening of a LOCKED door is judged. -/
theorem route_plain_opening (plain : (s.door k).entry.kind = .plain) (quiet : s.noChannelAt k)
    (lone : s.loneCopiesCurrent) (held : (s.door k).contact ≠ .opened) (locked : (s.door k).state = .locked) (u : DevIx) :
    s.openedUnattributed (s.route u (.doorStatus k .opened b handle)) k (s.judged k (s.door k) b handle).1
      [(s.judged k (s.door k) b handle).2] := by
  have judged := judgeOpening_toldDoor (b := b) (handle := handle) quiet held lone
  have contact : (s.toldDoor k ((s.door k).reported .opened b)).plainContact k (s.door k).contact true handle =
      (s.toldDoor k ((s.door k).reported .opened b)).judgeOpening k (s.door k).contact handle := by
    simp [State.plainContact, door_toldDoor, Door.reported, locked]
  rw [route_doorStatus_plain plain quiet held, show (Contact.opened == .opened) = true from rfl, contact,
    compareBolt_judged judged (judged_contact _)]
  exact judged

/-- R97: a first report that a LOCKED door is CLOSED is recorded. -/
theorem route_plain_firstClosed (plain : (s.door k).entry.kind = .plain) (quiet : s.noChannelAt k)
    (unknown : (s.door k).contact = .unknown) (locked : (s.door k).state = .locked) (u : DevIx) :
    s.route u (.doorStatus k .closed b handle) = s.toldDoor k ((s.door k).reported .closed b) := by
  have contact : (s.toldDoor k ((s.door k).reported .closed b)).plainContact k (s.door k).contact false handle =
      s.toldDoor k ((s.door k).reported .closed b) := by
    simp [State.plainContact, door_toldDoor, Door.reported, locked]
  rw [route_doorStatus_plain plain quiet (by simp [unknown]), show (Contact.closed == .opened) = false from rfl, contact]
  exact compareBolt_plain (by rw [door_toldDoor]; exact plain)

end

end Sys2Proof.Machine

section
open Sys2Proof Sys2Proof.Machine

/-- Settles O28: closing locks the door; an opening from LOCKED is judged. -/
theorem plainContactResult : Obligations.PlainContactResult := by
  intro s u k b handle x t plain view atOuter atInner lone
  have quiet : s.noChannelAt k := ⟨view, atOuter, atInner⟩
  refine ⟨fun opened r state => ?_, fun locked contact => ?_, fun locked unknown => ?_⟩
  · obtain ⟨stands, event⟩ := closingEvent_of state
    have closing := route_plain_closing (b := b) (handle := handle) plain quiet opened stands u
    rw [event, closingTold_driveOpt] at closing
    exact closing
  · have held : x.contact ≠ .opened := by rcases contact with h | h <;> simp [h]
    obtain ⟨door, others, ru, sp, rm, sau, pending, fc, csu, csc, pe⟩ :=
      route_plain_opening (b := b) (handle := handle) plain quiet lone held locked u
    rw [judged_entry] at ru sp
    by_cases forced : x.contact = .closed ∧ handle = false
    · rw [judged_forced forced] at door sp
      refine ⟨?_, others, ru, ?_, rm, sau, fc, csu, csc, pe, pending⟩
      · rw [door, if_pos forced]; rfl
      · rw [sp, if_pos forced]; rfl
    · have shown : x.contact = .unknown ∨ handle = true := by
        rcases contact with h | h <;> simp_all
      rw [judged_opened shown] at door sp
      refine ⟨?_, others, ru, ?_, rm, sau, fc, csu, csc, pe, pending⟩
      · rw [door, if_neg forced]; rfl
      · rw [sp, if_neg forced]; rfl
  · have now : t .closed = _ := route_plain_firstClosed plain quiet unknown locked u
    rw [now]
    exact ⟨door_toldDoor .., rfl, rfl, rfl⟩

end
end

section
namespace Sys2Proof.Machine

/-! ## What the notices between the blocks leave of the alarm records and the replies -/

/-- R186, R200: the alarm records, and the replies that wait for the station. -/
def State.alarmsAndReplies (s : State) : List AlarmRecord × List ReplyPlace := (s.sau.alarms, s.sp.replies)

section
variable (s : State)

theorem alarmsAndReplies_congr {t : State} (alarms : t.sau.alarms = s.sau.alarms) (replies : t.sp.replies = s.sp.replies) :
    t.alarmsAndReplies = s.alarmsAndReplies := Prod.ext alarms replies

@[simp] theorem post_alarmsAndReplies (kind : EventKind) (door : Option DoorId) (zone : Option ZoneId)
    (channel : Option ChannelId) (subject : Option Subject) (reason : Option Nat) :
    (s.post kind door zone channel subject reason).alarmsAndReplies = s.alarmsAndReplies :=
  alarmsAndReplies_congr s rfl (post_sp_replies ..)
@[simp] theorem postSc_alarmsAndReplies (kind : EventKind) (c : ChannelId) (reason : Option Nat) :
    (s.postSc kind c reason).alarmsAndReplies = s.alarmsAndReplies := post_alarmsAndReplies ..
@[simp] theorem drive_alarmsAndReplies (d : DevIx) (o : Output) : (s.drive d o).alarmsAndReplies = s.alarmsAndReplies :=
  alarmsAndReplies_congr s (by simp) (by simp)
@[simp] theorem toneTo_alarmsAndReplies (p : DevRole → Bool) (t : Tone) :
    (s.toneTo p t).alarmsAndReplies = s.alarmsAndReplies :=
  foldl_keeps State.alarmsAndReplies _ (fun u d => by split <;> simp) _ _

@[simp] theorem setChannel_alarmsAndReplies (c : ChannelId) (x : Channel) :
    (s.setChannel c x).alarmsAndReplies = s.alarmsAndReplies := rfl
@[simp] theorem setZoneView_alarmsAndReplies (z : ZoneId) (v : ZoneView) :
    (s.setZoneView z v).alarmsAndReplies = s.alarmsAndReplies := rfl
@[simp] theorem setDoorView_alarmsAndReplies (d : DoorId) (v : Option DoorView) :
    (s.setDoorView d v).alarmsAndReplies = s.alarmsAndReplies := rfl
@[simp] theorem setDoor_alarmsAndReplies (d : DoorId) (x : Door) : (s.setDoor d x).alarmsAndReplies = s.alarmsAndReplies := rfl
@[simp] theorem setLone_alarmsAndReplies (z : ZoneId) (l : Lone) : (s.setLone z l).alarmsAndReplies = s.alarmsAndReplies := rfl
@[simp] theorem setZoneTone_alarmsAndReplies (z : ZoneId) (t : Tone) :
    (s.setZoneTone z t).alarmsAndReplies = s.alarmsAndReplies := rfl
@[simp] theorem setRoster_alarmsAndReplies (z : ZoneId) (l : List RosterEntry) :
    (s.setRoster z l).alarmsAndReplies = s.alarmsAndReplies := rfl
@[simp] theorem setZoneStatus_alarmsAndReplies (z : ZoneId) (x : ZoneStatus) :
    (s.setZoneStatus z x).alarmsAndReplies = s.alarmsAndReplies := rfl

@[simp] theorem sauTone_alarmsAndReplies (z : ZoneId) (t : Tone) : (s.sauTone z t).alarmsAndReplies = s.alarmsAndReplies := by
  unfold State.sauTone; split <;> simp
@[simp] theorem toneNotice_alarmsAndReplies (z : ZoneId) (t : Tone) :
    (s.toneNotice z t).alarmsAndReplies = s.alarmsAndReplies := by
  unfold State.toneNotice; dsimp only; split <;> simp
@[simp] theorem notifyTone_alarmsAndReplies (c : ChannelId) (t : Tone) :
    (s.notifyTone c t).alarmsAndReplies = s.alarmsAndReplies := by
  unfold State.notifyTone; split <;> simp
@[simp] theorem changeTone_alarmsAndReplies (c : ChannelId) (t : Tone) :
    (s.changeTone c t).alarmsAndReplies = s.alarmsAndReplies := by
  unfold State.changeTone State.restartRefresh State.sendTone; dsimp only; split <;> simp
@[simp] theorem postJoining_alarmsAndReplies (c : ChannelId) (new old : HoldSet) :
    (s.postJoining c new old).alarmsAndReplies = s.alarmsAndReplies :=
  foldl_keeps State.alarmsAndReplies _ (fun u h => by simp) _ _
@[simp] theorem recompute_alarmsAndReplies (c : ChannelId) : (s.recompute c).alarmsAndReplies = s.alarmsAndReplies := by
  unfold State.recompute State.holdCountdown State.resumeCountdown; dsimp only; (repeat' split) <;> simp
@[simp] theorem recomputeZone_alarmsAndReplies (z : ZoneId) : (s.recomputeZone z).alarmsAndReplies = s.alarmsAndReplies := by
  unfold State.recomputeZone; split <;> simp
@[simp] theorem recomputeZones_alarmsAndReplies (p : ZoneId → Bool) :
    (s.recomputeZones p).alarmsAndReplies = s.alarmsAndReplies :=
  foldl_keeps State.alarmsAndReplies _ (fun u z => by split <;> simp) _ _
@[simp] theorem scDoorNotice_alarmsAndReplies (d : DoorId) (v : Option DoorView) :
    (s.scDoorNotice d v).alarmsAndReplies = s.alarmsAndReplies := by
  unfold State.scDoorNotice; simp
@[simp] theorem setContact_alarmsAndReplies (d : DoorId) (c : Contact) :
    (s.setContact d c).alarmsAndReplies = s.alarmsAndReplies := by
  unfold State.setContact; dsimp only; split <;> simp
@[simp] theorem goIdle_alarmsAndReplies (z : ZoneId) : (s.goIdle z).alarmsAndReplies = s.alarmsAndReplies := by
  unfold State.goIdle; dsimp only; split <;> simp
@[simp] theorem loneChanged_alarmsAndReplies (z : ZoneId) (old : Option Nat) :
    (s.loneChanged z old).alarmsAndReplies = s.alarmsAndReplies := by
  unfold State.loneChanged State.startRunning; dsimp only; (repeat' split) <;> simp
@[simp] theorem giveZoneNotice_alarmsAndReplies (z : ZoneId) (n : ZoneNotice) :
    (s.giveZoneNotice z n).alarmsAndReplies = s.alarmsAndReplies := by
  unfold State.giveZoneNotice State.loneZoneNotice State.scZoneNotice; simp
@[simp] theorem zoneNotices_alarmsAndReplies (before : State) :
    (before.zoneNotices s).alarmsAndReplies = s.alarmsAndReplies :=
  foldl_keeps State.alarmsAndReplies _ (fun u z => by split <;> simp) _ _
@[simp] theorem makeUnknown_alarmsAndReplies (z : ZoneId) (r : UnknownReason) :
    (s.makeUnknown z r).alarmsAndReplies = s.alarmsAndReplies := by
  unfold State.makeUnknown; split <;> simp
@[simp] theorem openingNotice_alarmsAndReplies (outer inner : ZoneId) :
    (s.openingNotice outer inner).alarmsAndReplies = s.alarmsAndReplies := by
  unfold State.openingNotice State.makeBothUnknown; simp

end

/-! ## Zone notices that nobody hears -/

section
variable {s : State} {z : ZoneId}

/-- R195: SAU's tone, with no SOUNDER for the zone. -/
theorem sauTone_unheard (silent : ∀ d, (s.device d).role ≠ .sounderZone z) (t : Tone) : s.sauTone z t = s := by
  unfold State.sauTone
  split
  · exact toneTo_none (fun d => by simpa using silent d) t
  · rfl

theorem goIdle_unheard (silent : ∀ d, (s.device d).role ≠ .sounderZone z) : s.goIdle z = s.setLone z (s.lone z).toIdle := by
  unfold State.goIdle
  dsimp only
  rw [sauTone_unheard (s := s.setLone z (s.lone z).toIdle) silent]
  split <;> rfl

/-- R190: the timer moves, and nothing is sent or posted. -/
theorem loneChanged_unheard (silent : ∀ d, (s.device d).role ≠ .sounderZone z) (old : Option Nat) :
    (s.loneChanged z old).rm = s.rm ∧ (s.loneChanged z old).sp = s.sp := by
  unfold State.loneChanged
  dsimp only
  split
  · exact ⟨rfl, rfl⟩
  · rw [goIdle_unheard silent]
    split <;> exact ⟨rfl, rfl⟩

theorem loneZoneNotice_unheard (silent : ∀ d, (s.device d).role ≠ .sounderZone z) (count : Nat) (sole : Option Nat) :
    (s.loneZoneNotice z count sole).rm = s.rm ∧ (s.loneZoneNotice z count sole).sp = s.sp :=
  loneChanged_unheard (s := s.setLone z { s.lone z with count, sole }) silent _

theorem giveZoneNotice_unheard (noChannel : s.channelOf z = none) (silent : ∀ d, (s.device d).role ≠ .sounderZone z)
    (n : ZoneNotice) :
    (s.giveZoneNotice z n).rm = s.rm ∧ (s.giveZoneNotice z n).sp = s.sp
      ∧ (s.giveZoneNotice z n).sc.channels = s.sc.channels := by
  have view : s.scZoneNotice z n.status n.count = s.setZoneView z { s.zoneView z with status := n.status, count := n.count } := by
    have same (v : ZoneView) : (s.setZoneView z v).channelOf z = none := noChannel
    simp only [State.scZoneNotice, State.recomputeZone, same]
  obtain ⟨rm, sp⟩ := loneZoneNotice_unheard
    (s := s.setZoneView z { s.zoneView z with status := n.status, count := n.count }) silent n.count n.sole
  rw [State.giveZoneNotice, view]
  exact ⟨rm, sp, by simp⟩

/-- R152: with no channel bound to a zone and no SOUNDER for one, zone notices send and post nothing. -/
theorem zoneNotices_unheard (before : State) (quiet : s.noListeners) :
    (before.zoneNotices s).rm = s.rm ∧ (before.zoneNotices s).sp = s.sp := by
  obtain ⟨noChannel, silent⟩ := quiet
  have key (l : List ZoneId) : ∀ t : State, t.rm = s.rm → t.sp = s.sp → t.fc = s.fc → t.sc.channels = s.sc.channels →
      let u := l.foldl (fun t z => if s.zoneNow z = before.zoneNow z then t else t.giveZoneNotice z (s.zoneNow z)) t
      u.rm = s.rm ∧ u.sp = s.sp := by
    induction l with
    | nil => exact fun t rm sp _ _ => ⟨rm, sp⟩
    | cons z l ih =>
      intro t rm sp fc channels
      simp only [List.foldl_cons]
      split
      · exact ih t rm sp fc channels
      · obtain ⟨rm', sp', channels'⟩ := giveZoneNotice_unheard (s := t) (z := z)
          (by rw [channelOf_congr channels]; exact noChannel z)
          (fun d => by rw [State.device, fc]; exact silent d z) (s.zoneNow z)
        exact ih _ (rm'.trans rm) (sp'.trans sp) (by simp [fc]) (channels'.trans channels)
  exact key _ s rfl rfl rfl rfl

theorem noListeners_congr {t : State} (quiet : s.noListeners) (fc : t.fc = s.fc) (channels : t.sc.channels = s.sc.channels) :
    t.noListeners :=
  ⟨fun z => by rw [channelOf_congr channels]; exact quiet.1 z, fun d z => by rw [State.device, fc]; exact quiet.2 d z⟩

end

end Sys2Proof.Machine
end

section
namespace Sys2Proof.Machine

/-! ## RU as a credential moves -/

/-- R143 step 1: RU without the entries of a credential. -/
def Ru.without (r : Ru) (number : Nat) : Ru :=
  { r with rosters := Vector.ofFn fun z => (r.rosters.get z).filter (fun e => e.number != number) }

/-- R144: the zone and the pool have room for one entry more. -/
def Ru.room (r : Ru) (z : ZoneId) : Prop :=
  (r.rosters.get z).length < (r.zones.get z).limit ∧ (allZones.map (fun z => (r.rosters.get z).length)).sum < 240

@[simp] theorem without_get (r : Ru) (number : Nat) (z : ZoneId) :
    (r.without number).rosters.get z = (r.rosters.get z).filter (fun e => e.number != number) := by
  simp [Ru.without, Vector.get_eq_getElem]

theorem without_room_iff (r : Ru) (number : Nat) (z : ZoneId) :
    (r.without number).room z ↔
      ((r.rosters.get z).filter (fun e => e.number != number)).length < (r.zones.get z).limit
        ∧ (allZones.map (fun z => ((r.rosters.get z).filter (fun e => e.number != number)).length)).sum < 240 := by
  simp only [Ru.room, without_get]
  rfl

section
variable (r : Ru) (z : ZoneId) (custodian : Bool) (now : Nat) (c : PassageCred)

theorem moved_zero : r.moved 0 custodian now c = r.without c.number := rfl

theorem moved_room (tracked : z ≠ 0) (room : (r.without c.number).room z) :
    r.moved z custodian now c =
      { r.without c.number with
        rosters := (r.without c.number).rosters.set z
          ((r.without c.number).rosters.get z ++ [{ number := c.number, cls := c.cls, entered := now, custodian }]) z.isLt } := by
  rw [without_get]
  exact (if_neg tracked).trans (if_pos ((without_room_iff ..).1 room))

theorem moved_noRoom (tracked : z ≠ 0) (full : ¬ (r.without c.number).room z) :
    r.moved z custodian now c = (r.without c.number).unknownAt z := by
  refine ((if_neg tracked).trans (if_neg (mt (without_room_iff ..).2 full))).trans ?_
  rw [Ru.unknownAt, if_neg tracked]
  rfl

end

section
variable (s : State)

/-- R143 step 1: the entry is taken out of every list. -/
theorem removeEntry_ru (number : Nat) : (s.removeEntry number).ru = s.ru.without number := by
  have list (l : List ZoneId) : ∀ (t : State) (z : ZoneId),
      (l.foldl (fun s z => s.setRoster z ((s.roster z).filter (fun e => e.number != number))) t).roster z =
        if z ∈ l then (t.roster z).filter (fun e => e.number != number) else t.roster z := by
    induction l with
    | nil => simp
    | cons x l ih =>
      intro t z
      rw [List.foldl_cons, ih, roster_setRoster]
      by_cases own : z = x <;> by_cases later : z ∈ l <;> simp [own, later]
  have rosters (z : ZoneId) : (s.removeEntry number).ru.rosters.get z = (s.ru.without number).rosters.get z := by
    have here := list allZones s z
    rw [if_pos (show z ∈ allZones from List.mem_finRange z)] at here
    rw [without_get]
    exact here
  have status : (s.removeEntry number).ru.status = s.ru.status := by
    unfold State.removeEntry
    exact foldl_keeps (fun t => t.ru.status) _ (by intros; rfl) _ s
  have zones : (s.removeEntry number).ru.zones = s.ru.zones := by
    unfold State.removeEntry
    exact foldl_keeps (fun t => t.ru.zones) _ (by intros; rfl) _ s
  have same : (s.removeEntry number).ru.rosters = (s.ru.without number).rosters := by
    apply Vector.ext
    intro i hi
    simpa [Vector.get_eq_getElem] using rosters ⟨i, hi⟩
  calc (s.removeEntry number).ru
      = ⟨(s.removeEntry number).ru.rosters, (s.removeEntry number).ru.status, (s.removeEntry number).ru.zones⟩ := rfl
    _ = s.ru.without number := by rw [same, status, zones]; rfl

theorem noRoom_none (z : ZoneId) (room : s.ru.room z) : s.noRoom z = none := by
  obtain ⟨zone, pool⟩ := room
  have h1 : ¬ (s.zone z).limit ≤ (s.roster z).length := Nat.not_le.2 zone
  have h2 : ¬ 240 ≤ s.poolCount := Nat.not_le.2 pool
  simp [State.noRoom, h1, h2]

/-- R144: the zone's own limit is looked at first. -/
theorem noRoom_some (z : ZoneId) (full : ¬ s.ru.room z) :
    ∃ r, s.noRoom z = some r ∧ r.code = if (s.ru.rosters.get z).length < (s.ru.zones.get z).limit then 2 else 1 := by
  by_cases zone : (s.ru.rosters.get z).length < (s.ru.zones.get z).limit
  · have pool : 240 ≤ s.poolCount := Nat.not_lt.1 fun h => full ⟨zone, h⟩
    have h1 : ¬ (s.zone z).limit ≤ (s.roster z).length := Nat.not_le.2 zone
    exact ⟨.pool, by simp [State.noRoom, h1, pool], (if_pos zone).symm⟩
  · have h1 : (s.zone z).limit ≤ (s.roster z).length := Nat.not_lt.1 zone
    exact ⟨.zone, by simp [State.noRoom, h1], (if_neg zone).symm⟩

end

section
variable {s : State} {k : DoorId} {dest : ZoneId} {custodian : Bool} {c : PassageCred}

theorem moveCredential_zero (zero : dest = 0) : s.moveCredential k dest custodian c = s.removeEntry c.number := if_pos zero

theorem moveCredential_room (tracked : dest ≠ 0) (room : (s.ru.without c.number).room dest) :
    s.moveCredential k dest custodian c =
      (s.removeEntry c.number).setRoster dest ((s.removeEntry c.number).roster dest ++
        [{ number := c.number, cls := c.cls, entered := (s.removeEntry c.number).uptime, custodian }]) := by
  rw [← removeEntry_ru] at room
  simp only [State.moveCredential, if_neg tracked, noRoom_none _ _ room]

theorem moveCredential_noRoom (tracked : dest ≠ 0) (full : ¬ (s.ru.without c.number).room dest) :
    s.moveCredential k dest custodian c =
      ((s.removeEntry c.number).tells (s.event .rosterOverflow (door := some k) (zone := some dest)
        (subject := some (.credential c.number))
        (reason := some (if ((s.ru.without c.number).rosters.get dest).length < (s.ru.zones.get dest).limit then 2
          else 1)))).makeUnknown dest .capacity := by
  obtain ⟨r, none, code⟩ := noRoom_some (s.removeEntry c.number) dest (by rw [removeEntry_ru]; exact full)
  rw [removeEntry_ru] at code
  simp only [State.moveCredential, if_neg tracked, none, post_tells, event_congr (removeEntry_csu s c.number), code]
  rfl

end

/-! ## The credentials of a passage -/

/-- R143, R144: RU and the event queue after one credential of passage `p` through door `k` has moved; `movesTold` runs it over
the list. -/
def State.moveOne (s : State) (k : DoorId) (p : Passage) (a : Ru × Sp) (c : PassageCred) : Ru × Sp :=
  let dest : ZoneId := if p.direction = .exit then p.outer else p.inner
  let left (z : ZoneId) : List RosterEntry := (a.1.rosters.get z).filter (fun e => e.number != c.number)
  let inZone : Bool := decide ((left dest).length < (a.1.zones.get dest).limit)
  let inPool : Bool := decide ((allZones.map (fun z => (left z).length)).sum < 240)
  let told : Sp := a.2.enqueue (s.event .rosterOverflow (door := some k) (zone := some dest)
    (subject := some (.credential c.number)) (reason := some (if inZone = true then 2 else 1)))
  (a.1.moved dest p.custodian s.uptime c,
    if dest = 0 ∨ (inZone = true ∧ inPool = true) then a.2
    else if a.1.status.get dest = .known then
      told.enqueue (s.event .zoneUnknown (zone := some dest) (reason := some 2))
    else told)

theorem movesTold_eq (s : State) (k : DoorId) (p : Passage) :
    s.movesTold k p = (p.list.foldl (s.moveOne k p) (s.ru, s.sp)).2 := rfl

section
variable (s : State) (k : DoorId) (p : Passage)

theorem moveOne_fst (a : Ru × Sp) (c : PassageCred) :
    (s.moveOne k p a c).1 = a.1.moved p.eventZone p.custodian s.uptime c := by rw [eventZone_eq]; rfl

/-- R144: nothing is told of a credential that finds room. -/
theorem moveOne_room (a : Ru × Sp) (c : PassageCred) (h : p.eventZone = 0 ∨ (a.1.without c.number).room p.eventZone) :
    (s.moveOne k p a c).2 = a.2 := by
  rw [without_room_iff, eventZone_eq] at h
  exact if_pos (by simpa using h)

theorem moveOne_noRoom (a : Ru × Sp) (c : PassageCred) (tracked : p.eventZone ≠ 0)
    (full : ¬ (a.1.without c.number).room p.eventZone) :
    (s.moveOne k p a c).2 =
      (let told : Sp := a.2.enqueue (s.event .rosterOverflow (door := some k) (zone := some p.eventZone)
          (subject := some (.credential c.number))
          (reason := some (if ((a.1.without c.number).rosters.get p.eventZone).length < (a.1.zones.get p.eventZone).limit
            then 2 else 1)))
        if a.1.status.get p.eventZone = .known then
          told.enqueue (s.event .zoneUnknown (zone := some p.eventZone) (reason := some 2))
        else told) := by
  rw [without_room_iff, eventZone_eq] at full
  rw [eventZone_eq] at tracked
  rw [without_get, eventZone_eq]
  refine (if_neg ?_).trans ?_
  · simpa [tracked] using full
  · simp

variable {s} {t : State}

theorem moveCredential_ru (clock : t.csu = s.csu) (c : PassageCred) :
    (t.moveCredential k p.eventZone p.custodian c).ru = (s.moveOne k p (t.ru, t.sp) c).1 := by
  have uptime : (t.removeEntry c.number).uptime = s.uptime := by simp [State.uptime, clock]
  have ru := removeEntry_ru t c.number
  rw [moveOne_fst]
  by_cases tracked : p.eventZone = 0
  · rw [moveCredential_zero tracked, tracked, moved_zero, ru]
  by_cases room : (t.ru.without c.number).room p.eventZone
  · rw [moveCredential_room tracked room, moved_room _ _ _ _ _ tracked room, uptime, ← ru]
    rfl
  · rw [moveCredential_noRoom tracked room, moved_noRoom _ _ _ _ _ tracked room, makeUnknown_ru, tells_ru, ru]

theorem moveCredential_sp (clock : t.csu = s.csu) (c : PassageCred) :
    (t.moveCredential k p.eventZone p.custodian c).sp = (s.moveOne k p (t.ru, t.sp) c).2 := by
  by_cases tracked : p.eventZone = 0
  · rw [moveCredential_zero tracked, moveOne_room s k p (t.ru, t.sp) c (.inl tracked), removeEntry_sp]
  by_cases room : (t.ru.without c.number).room p.eventZone
  · rw [moveCredential_room tracked room, moveOne_room s k p (t.ru, t.sp) c (.inr room), setRoster_sp, removeEntry_sp]
  · have told (r : EventRecord) : ((t.removeEntry c.number).tells r).event .zoneUnknown (zone := some p.eventZone)
        (reason := some 2) = s.event .zoneUnknown (zone := some p.eventZone) (reason := some 2) :=
      event_congr (by simp [clock]) ..
    have status (r : EventRecord) : ((t.removeEntry c.number).tells r).zoneStatus p.eventZone = t.ru.status.get p.eventZone :=
      (congrArg (fun v : Ru => v.status.get p.eventZone) (removeEntry_ru t c.number)).trans rfl
    rw [moveCredential_noRoom tracked room, moveOne_noRoom s k p (t.ru, t.sp) c tracked room, makeUnknown_sp, State.unknownSp, status,
      UnknownReason.code, told, tells_sp, removeEntry_sp, event_congr clock]
    simp [tracked]

theorem moveCredentials_eq (l : List PassageCred) (clock : t.csu = s.csu) :
    (l.foldl (fun t c => t.moveCredential k p.eventZone p.custodian c) t).ru = (l.foldl (s.moveOne k p) (t.ru, t.sp)).1
      ∧ (l.foldl (fun t c => t.moveCredential k p.eventZone p.custodian c) t).sp =
        (l.foldl (s.moveOne k p) (t.ru, t.sp)).2 := by
  induction l generalizing t with
  | nil => exact ⟨rfl, rfl⟩
  | cons c l ih =>
    have pair : ((t.moveCredential k p.eventZone p.custodian c).ru, (t.moveCredential k p.eventZone p.custodian c).sp) =
        s.moveOne k p (t.ru, t.sp) c := Prod.ext (moveCredential_ru k p clock c) (moveCredential_sp k p clock c)
    simpa only [List.foldl_cons, pair] using ih (t := t.moveCredential k p.eventZone p.custodian c) (by simp [clock])

theorem foldl_moveOne_fst (l : List PassageCred) (a : Ru × Sp) :
    (l.foldl (s.moveOne k p) a).1 = l.foldl (fun r c => r.moved p.eventZone p.custodian s.uptime c) a.1 := by
  induction l generalizing a with
  | nil => rfl
  | cons c l ih => rw [List.foldl_cons, List.foldl_cons, ih, moveOne_fst]

end

/-! ## A passage is applied -/

section
variable (s : State) (k : DoorId) (p : Passage)

/-- R143: the credentials go to the zone that the passage leads to, in the order of the list. -/
theorem applyPassage_named (list : p.list ≠ []) (way : p.direction ≠ .station) :
    s.applyPassage k p = p.list.foldl (fun t c => t.moveCredential k p.eventZone p.custodian c) s := by
  obtain ⟨c, l, split⟩ := List.exists_cons_of_ne_nil list
  cases direction : p.direction with
  | station => exact absurd direction way
  | entry | exit => simp only [State.applyPassage, Passage.destination, Passage.eventZone, direction, split, Option.getD_some]

/-- R145: a passage that names no one. -/
theorem applyPassage_unnamed (h : p.list = [] ∨ p.direction = .station) :
    s.applyPassage k p = s.makeBothUnknown p.outer p.inner := by
  rcases h with h | h
  · unfold State.applyPassage
    rw [h]
    cases p.destination <;> rfl
  · simp only [State.applyPassage, Passage.destination, h]

theorem passageMoved_named (list : p.list ≠ []) (way : p.direction ≠ .station) :
    s.passageMoved p = p.list.foldl (fun r c => r.moved p.eventZone p.custodian s.uptime c) s.ru := by
  obtain ⟨c, l, split⟩ := List.exists_cons_of_ne_nil list
  cases direction : p.direction with
  | station => exact absurd direction way
  | entry | exit => simp only [State.passageMoved, Passage.destination, Passage.eventZone, direction, split, Option.getD_some]

theorem passageMoved_unnamed (h : p.list = [] ∨ p.direction = .station) :
    s.passageMoved p = s.ru.bothUnknown p.outer p.inner := by
  rcases h with h | h
  · simp only [State.passageMoved, h]
  · cases list : p.list <;> simp only [State.passageMoved, h, list]

theorem applyPassage_ru : (s.applyPassage k p).ru = s.passageMoved p := by
  by_cases h : p.list = [] ∨ p.direction = .station
  · rw [applyPassage_unnamed s k p h, passageMoved_unnamed s p h, makeBothUnknown_ru]
  · obtain ⟨list, way⟩ := not_or.1 h
    rw [applyPassage_named s k p list way, passageMoved_named s p list way, (moveCredentials_eq k p p.list rfl).1,
      foldl_moveOne_fst]

theorem applyPassage_sp_named (list : p.list ≠ []) (way : p.direction ≠ .station) :
    (s.applyPassage k p).sp = s.movesTold k p := by
  rw [applyPassage_named s k p list way, (moveCredentials_eq k p p.list rfl).2, movesTold_eq]

theorem applyPassage_sp_unnamed (h : p.list = [] ∨ p.direction = .station) :
    (s.applyPassage k p).sp = s.unknownTold p.outer p.inner [] := by
  rw [applyPassage_unnamed s k p h, makeBothUnknown_sp]

/-- R99: PASSAGE. -/
theorem postPassage_eq : s.postPassage k p = s.tells (s.passageEvent k p) := by
  have direction : p.direction.code = match p.direction with | .entry => 1 | .exit => 2 | .station => 3 := by
    cases p.direction <;> rfl
  rw [State.postPassage, eventZone_eq, direction]
  rfl

theorem passageEvent_congr {s t : State} (clock : t.csu = s.csu) (k : DoorId) (p : Passage) :
    t.passageEvent k p = s.passageEvent k p := event_congr clock ..

@[simp] theorem confirmPassage_ru : (s.confirmPassage k p).ru = s.passageMoved p := by
  rw [State.confirmPassage, postPassage_ru, zoneNotices_ru, applyPassage_ru]

theorem confirmPassage_alarms : (s.confirmPassage k p).sau.alarms = s.sau.alarms := by
  rw [State.confirmPassage, postPassage_sau]
  exact (congrArg Prod.fst (zoneNotices_alarmsAndReplies (s.applyPassage k p) s)).trans (by simp [State.alarmsAndReplies])

/-- R99, R143 to R145: a passage is confirmed. -/
theorem confirmPassage_spec : s.passageConfirmed (s.confirmPassage k p) k p := by
  refine ⟨confirmPassage_ru s k p, by simp, confirmPassage_alarms s k p, by simp [State.keepsFront], fun quiet => ?_⟩
  obtain ⟨rm, sp⟩ := zoneNotices_unheard (s := s.applyPassage k p) s (noListeners_congr quiet (by simp) (by simp))
  have told : (s.confirmPassage k p).sp = (s.applyPassage k p).sp.enqueue (s.passageEvent k p) := by
    rw [State.confirmPassage, postPassage_eq, tells_sp, sp, passageEvent_congr (s := s) (by simp)]
  refine ⟨?_, fun unnamed => ?_, fun list way => ?_⟩
  · rw [State.confirmPassage, postPassage_rm, rm, applyPassage_rm]
  · rw [told, applyPassage_sp_unnamed s k p unnamed]
  · rw [told, applyPassage_sp_named s k p list way]

end

end Sys2Proof.Machine
end

section
namespace Sys2Proof.Machine

/-! ## A passage confirmed by an opening from inside -/

section
variable {s t : State} {outer inner : ZoneId}

theorem unknownTold_eq (s : State) (outer inner : ZoneId) (first : List EventRecord) :
    s.unknownTold outer inner first =
      if outer = inner then s.unknownSp outer 1 (first.foldl Sp.enqueue s.sp)
      else s.unknownSp inner 1 (s.unknownSp outer 1 (first.foldl Sp.enqueue s.sp)) := rfl

theorem unknownSp_congr (ru : t.ru = s.ru) (clock : t.csu = s.csu) (z : ZoneId) (reason : Nat) (p : Sp) :
    t.unknownSp z reason p = s.unknownSp z reason p := by
  have event := event_congr clock .zoneUnknown none (some z) none none (some reason)
  have status : t.zoneStatus z = s.zoneStatus z := congrArg (fun r : Ru => r.status.get z) ru
  simp only [State.unknownSp, event, status]

/-- R142, R206: what is told of zones that become UNKNOWN rests on RU, the clock and the queue. -/
theorem unknownTold_congr {first last : List EventRecord} (ru : t.ru = s.ru) (clock : t.csu = s.csu)
    (sp : first.foldl Sp.enqueue t.sp = last.foldl Sp.enqueue s.sp) :
    t.unknownTold outer inner first = s.unknownTold outer inner last := by
  simp only [unknownTold_eq, sp, unknownSp_congr ru clock]

/-- R142: of zones that are UNKNOWN nothing is told. -/
theorem unknownTold_silent (h : ∀ z, z ≠ 0 → z = outer ∨ z = inner → s.zoneStatus z = .unknown) (first : List EventRecord) :
    s.unknownTold outer inner first = first.foldl Sp.enqueue s.sp := by
  have silent (z : ZoneId) (p : Sp) (here : z = outer ∨ z = inner) : s.unknownSp z 1 p = p :=
    if_neg fun ⟨tracked, known⟩ => by rw [h z tracked here] at known; exact absurd known (by decide)
  rw [unknownTold_eq, silent outer _ (.inl rfl), silent inner _ (.inr rfl), ite_self]

end

/-- R102: the record of an opening by the handle. -/
def State.egressTold (s : State) (k : DoorId) : EventRecord :=
  s.event .unattributedEgress (door := some k) (zone := some (s.door k).entry.inner) (reason := some 1)

section
variable (s : State) (k : DoorId) (p : Passage)

theorem egressTold_openedAt (x : Door) (now : Nat) : (s.toldDoor k (x.openedAt now)).egressTold k =
    s.event .unattributedEgress (door := some k) (zone := some x.entry.inner) (reason := some 1) := by
  rw [State.egressTold, door_toldDoor]
  rfl

theorem confirmWithEgress_eq :
    s.confirmWithEgress k p =
      s.zoneNotices ((((s.applyPassage k p).tells (s.passageEvent k p)).tells (s.egressTold k)).makeBothUnknown
        p.outer p.inner) := by
  have door : ((s.applyPassage k p).postPassage k p).door k = s.door k := by simp [State.door]
  have event : ((s.applyPassage k p).postPassage k p).event .unattributedEgress (some k) (some (s.door k).entry.inner) none
      none (some 1) = s.egressTold k := event_congr (by simp) ..
  rw [State.confirmWithEgress, postDoor_eq, door, EgressReason.code, event, postPassage_eq,
    passageEvent_congr (s := s) (by simp)]

@[simp] theorem confirmWithEgress_ru : (s.confirmWithEgress k p).ru = (s.passageMoved p).bothUnknown p.outer p.inner := by
  rw [confirmWithEgress_eq, zoneNotices_ru, makeBothUnknown_ru, tells_ru, tells_ru, applyPassage_ru]

theorem confirmWithEgress_alarms : (s.confirmWithEgress k p).sau.alarms = s.sau.alarms := by
  rw [confirmWithEgress_eq]
  exact (congrArg Prod.fst (zoneNotices_alarmsAndReplies _ s)).trans (by simp [State.alarmsAndReplies])

variable {s}

/-- R152: with no one to hear the notices, the records of the passage, of the egress and of the zones are all there is. -/
theorem confirmWithEgress_quiet (quiet : s.noListeners) :
    (s.confirmWithEgress k p).rm = s.rm
      ∧ (s.confirmWithEgress k p).sp =
        (((s.applyPassage k p).tells (s.passageEvent k p)).tells (s.egressTold k)).unknownTold p.outer p.inner [] := by
  rw [confirmWithEgress_eq, ← makeBothUnknown_sp]
  obtain ⟨rm, sp⟩ := zoneNotices_unheard
    (s := (((s.applyPassage k p).tells (s.passageEvent k p)).tells (s.egressTold k)).makeBothUnknown p.outer p.inner) s
    (noListeners_congr quiet (by simp) (by simp))
  exact ⟨rm.trans (by simp), sp⟩

theorem confirmWithEgress_sp_named (quiet : s.noListeners) (list : p.list ≠ []) (way : p.direction ≠ .station) :
    (s.confirmWithEgress k p).sp =
      State.unknownTold { s with ru := s.passageMoved p, sp := s.movesTold k p } p.outer p.inner
        [s.passageEvent k p, s.egressTold k] := by
  rw [(confirmWithEgress_quiet k p quiet).2]
  refine unknownTold_congr (applyPassage_ru s k p) (by simp) ?_
  rw [← applyPassage_sp_named s k p list way]
  rfl

/-- R145: both zones are UNKNOWN already. -/
theorem confirmWithEgress_sp_unnamed (quiet : s.noListeners) (unnamed : p.list = [] ∨ p.direction = .station) :
    (s.confirmWithEgress k p).sp =
      ((s.unknownTold p.outer p.inner []).enqueue (s.passageEvent k p)).enqueue (s.egressTold k) := by
  rw [(confirmWithEgress_quiet k p quiet).2, unknownTold_silent, ← applyPassage_sp_unnamed s k p unnamed]
  · rfl
  · intro z tracked here
    rw [applyPassage_unnamed s k p unnamed]
    exact (makeBothUnknown_zoneStatus z).trans (if_pos ⟨tracked, here⟩)

end

/-! ## The opening that confirms a held passage -/

section
variable {s : State} {k : DoorId} {b : Bolt} {handle : Bool} {p : Passage}

/-- R102: DC opens the door and hands the passage on, by the handle with the egress. -/
theorem confirmHeld_eq (passage : (s.door k).passage = some p) :
    s.confirmHeld k handle =
      if handle = true ∧ p.direction ≠ .exit then (s.setOpen k).confirmWithEgress k p
      else (s.setOpen k).confirmPassage k p := by
  simp only [State.confirmHeld, passage]

theorem door_confirmHeld (passage : (s.door k).passage = some p) :
    (s.confirmHeld k handle).door k = (s.door k).openedAt s.csu.ticks := by
  rw [confirmHeld_eq passage]
  split <;> simp [State.door, setOpen_eq]

/-- The state, of either kind, in which an opening confirms the held passage. -/
def Door.passable (x : Door) : Prop :=
  (x.entry.kind = .strongroom ∧ x.state = .unbolted) ∨ (x.entry.kind = .plain ∧ x.state = .unlocked)

/-- R97: of DC only the contact moves. -/
theorem setContact_dc (s : State) (k : DoorId) (c : Contact) :
    (s.setContact k c).dc = (s.setDoor k { s.door k with contact := c }).dc := by
  unfold State.setContact
  dsimp only
  split <;> simp

theorem door_setContact (s : State) (k : DoorId) (c : Contact) :
    (s.setContact k c).door k = { s.door k with contact := c } :=
  (congrArg (fun d : Dc => d.doors.get k) (setContact_dc s k c)).trans (door_setDoor_self ..)

theorem contactChange_passable (passable : (s.door k).passable) :
    s.contactChange k .opened handle = (s.setContact k .opened).confirmHeld k handle := by
  rcases passable with ⟨kind, state⟩ | ⟨kind, state⟩
  · simp only [State.contactChange, door_setContact, kind, State.strongroomContact, state, beq_self_eq_true, if_true]
  · simp only [State.contactChange, door_setContact, kind, State.plainContact, state, beq_self_eq_true, if_true]

/-- R102: an opening in UNLOCKED or UNBOLTED, whatever SC does at the contact. -/
theorem route_passable (passable : (s.door k).passable) (change : (s.door k).contact ≠ .opened)
    (passage : (s.door k).passage = some p) (u : DevIx) :
    s.route u (.doorStatus k .opened b handle) =
      ((s.setDoor k { s.door k with bolt := some b }).setContact k .opened).confirmHeld k handle := by
  have door : ((s.setDoor k { s.door k with bolt := some b }).setContact k .opened).door k =
      (s.door k).reported .opened b := by
    rw [door_setContact, door_setDoor_self]
    rfl
  have same : (s.setDoor k { s.door k with bolt := some b }).door k = { s.door k with bolt := some b } := door_setDoor_self ..
  rw [State.route, doorStatusReport_change change, contactChange_passable (by rw [same]; exact passable)]
  exact compareBolt_opened (by rw [door_confirmHeld (p := p) (by rw [door]; exact passage), door]; rfl)

/-- R102: such an opening where no channel stands at the door. -/
theorem route_passable_told (passable : (s.door k).passable) (change : (s.door k).contact ≠ .opened)
    (passage : (s.door k).passage = some p) (quiet : s.noChannelAt k) (u : DevIx) :
    s.route u (.doorStatus k .opened b handle) =
      (let v := s.toldDoor k (((s.door k).reported .opened b).openedAt s.csu.ticks)
      if handle = true ∧ p.direction ≠ .exit then v.confirmWithEgress k p else v.confirmPassage k p) := by
  have kind : (s.door k).entry.kind ≠ .noDoor := by
    rcases passable with ⟨kind, -⟩ | ⟨kind, -⟩ <;> simp [kind]
  rw [route_passable passable change passage, setContact_told kind quiet,
    confirmHeld_eq (p := p) (by rw [door_toldDoor]; exact passage), setOpen_eq, door_toldDoor,
    setDoor_toldDoor (y := (s.door k).reported .opened b) (z := ((s.door k).reported .opened b).openedAt _) rfl rfl]
  rfl

end

/-! ## The contact of a STRONGROOM -/

theorem loneCopiesCurrent_congr {s t : State} (h : s.loneCopiesCurrent) (lone : t.sau.lone = s.sau.lone)
    (rosters : t.ru.rosters = s.ru.rosters) (hours : t.csu.afterHours = s.csu.afterHours) : t.loneCopiesCurrent := by
  intro z tracked
  obtain ⟨count, sole, flag⟩ := h z tracked
  simp only [State.lone, State.roster, State.afterHours, lone, rosters, hours]
  exact ⟨count, sole, flag⟩

theorem judged_congr {s t : State} (clock : t.csu = s.csu) (k : DoorId) (x : Door) (b : Bolt) (handle : Bool) :
    t.judged k x b handle = s.judged k x b handle := by
  simp only [State.judged, event_congr clock, clock]

section
variable (s : State) (k : DoorId) (m : Message) (reason : Nat)

@[simp] theorem cancelled_csu : (s.cancelled k m reason).csu = s.csu := by simp [State.cancelled]
@[simp] theorem cancelled_ru : (s.cancelled k m reason).ru = s.ru := by simp [State.cancelled]
@[simp] theorem cancelled_sc : (s.cancelled k m reason).sc = s.sc := by simp [State.cancelled]
@[simp] theorem cancelled_sau : (s.cancelled k m reason).sau = s.sau := by simp [State.cancelled]

theorem door_cancelled :
    (s.cancelled k m reason).door k =
      { s.door k with
        pairing := none, delay := none, display := none, confirm := none, custodyA := none, custodyB := none
        budget := none, state := .secured, boltCommand := .thrown, mismatch := false
        settle := some (s.csu.ticks + 5) } := by simp [State.cancelled]

end

section
variable {s : State} {k : DoorId} {b : Bolt} {handle : Bool}

/-- R128: an opening of a SECURED strongroom is judged. -/
theorem route_strongroom_opening (strongroom : (s.door k).entry.kind = .strongroom) (quiet : s.noChannelAt k)
    (lone : s.loneCopiesCurrent) (change : (s.door k).contact ≠ .opened) (secured : (s.door k).state = .secured) (u : DevIx) :
    s.openedUnattributed (s.route u (.doorStatus k .opened b handle)) k (s.judged k (s.door k) b handle).1
      [(s.judged k (s.door k) b handle).2] := by
  have judged := judgeOpening_toldDoor (b := b) (handle := handle) quiet change lone
  have contact : (s.toldDoor k ((s.door k).reported .opened b)).strongroomContact k (s.door k).contact true handle =
      (s.toldDoor k ((s.door k).reported .opened b)).judgeOpening k (s.door k).contact handle := by
    simp [State.strongroomContact, door_toldDoor, Door.reported, secured]
  rw [route_doorStatus_strongroom strongroom quiet change, show (Contact.opened == .opened) = true from rfl, contact,
    compareBolt_judged judged (judged_contact _)]
  exact judged

/-- R128: an opening during a sequence cancels it and is then judged. -/
theorem route_strongroom_cancels (strongroom : (s.door k).entry.kind = .strongroom) (quiet : s.noChannelAt k)
    (lone : s.loneCopiesCurrent) (change : (s.door k).contact ≠ .opened) (sequence : (s.door k).state.inSequence = true)
    (u : DevIx) :
    let v := (s.toldDoor k ((s.door k).reported .opened b)).cancelled k (.denied .door) 5
    let j := s.judged k { v.door k with contact := (s.door k).contact } b handle
    v.openedUnattributed (s.route u (.doorStatus k .opened b handle)) k j.1 [j.2] := by
  intro v j
  have cancelled : (s.toldDoor k ((s.door k).reported .opened b)).cancelSequence k .opened = v := cancelSequence_eq _ _ (by decide)
  have contact : (s.toldDoor k ((s.door k).reported .opened b)).strongroomContact k (s.door k).contact true handle =
      v.judgeOpening k (s.door k).contact handle := by
    rw [← cancelled]
    rcases (inSequence_iff _).1 sequence with state | state | state <;>
      simp [State.strongroomContact, door_toldDoor, Door.reported, state]
  have ⟨_, outer, inner⟩ := quiet
  have door := door_cancelled (s.toldDoor k ((s.door k).reported .opened b)) k (.denied .door) 5
  rw [door_toldDoor] at door
  have judged := judgeOpening_spec (s := v) (k := k) (b := b) (handle := handle) change (by rw [door]; rfl)
    (by rw [channelOf_congr (t := s) (by rw [cancelled_sc]; rfl), door]; exact outer)
    (by rw [channelOf_congr (t := s) (by rw [cancelled_sc]; rfl), door]; exact inner)
    (loneCopiesCurrent_congr lone (by rw [cancelled_sau]; rfl) (by rw [cancelled_ru]; rfl) (by rw [cancelled_csu]; rfl))
  have clock : v.csu = s.csu := cancelled_csu ..
  rw [judged_congr clock] at judged
  rw [route_doorStatus_strongroom strongroom quiet change, show (Contact.opened == .opened) = true from rfl,
    contact, compareBolt_judged judged (judged_contact _)]
  exact judged

/-! ## The bolt that a frame reports -/

section
variable (compared : (s.door k).boltCompared)
include compared

/-- R132: another bolt than the command is told once, and driven again. -/
theorem compareBolt_differs (other : b ≠ (s.door k).boltCommand) (untold : (s.door k).mismatch = false) :
    s.compareBolt k b =
      ((s.setDoor k { s.door k with mismatch := true }).tells
        (s.event .boltMismatch (door := some k) (zone := some (s.door k).entry.inner) (reason := some b.code))).driveOpt
        (s.door k).entry.unit (s.door k).boltCommand.output := by
  refine (if_pos compared).trans ?_
  simp [other, untold, postDoor_eq]

theorem compareBolt_differs_told (other : b ≠ (s.door k).boltCommand) (told : (s.door k).mismatch = true) :
    s.compareBolt k b = s := by
  refine (if_pos compared).trans ?_
  simp [other, told]

theorem compareBolt_agrees_told (same : b = (s.door k).boltCommand) (told : (s.door k).mismatch = true) :
    s.compareBolt k b =
      (s.setDoor k { s.door k with mismatch := false }).tells
        (s.event .boltMismatchCleared (door := some k) (zone := some (s.door k).entry.inner)) := by
  refine (if_pos compared).trans ?_
  simp [same, told, postDoor_eq]

theorem compareBolt_agrees (same : b = (s.door k).boltCommand) (untold : (s.door k).mismatch = false) :
    s.compareBolt k b = s := by
  refine (if_pos compared).trans ?_
  simp [same, untold]

end

end

end Sys2Proof.Machine
end

section
open Sys2Proof Sys2Proof.Machine

/-- Settles O30: openings of a SECURED strongroom are judged, openings in UNBOLTED confirm, closings bolt, and a bolt reported
with the contact CLOSED is compared. -/
theorem strongroomContactResult : Obligations.StrongroomContactResult := by
  refine ⟨?_, ?_, ?_⟩
  · intro s u k b handle x t strongroom quiet
    refine ⟨fun secured change lone => ?_, fun sequence change lone => ?_, fun opened r state => ?_⟩
    · exact route_strongroom_opening strongroom quiet lone change secured u
    · exact route_strongroom_cancels strongroom quiet lone change ((inSequence_iff _).2 sequence) u
    · obtain ⟨stands, event⟩ := closingEvent_of state
      have closing := route_strongroom_closing (b := b) (handle := handle) strongroom quiet opened stands u
      rw [event, closingTold_driveOpt] at closing
      exact closing
  · intro s u k b handle p x t passable change passage view silent v
    have quiet : s.noChannelAt k := ⟨view, silent.1 _, silent.1 _⟩
    have route : t = if handle = true ∧ p.direction ≠ .exit then v.confirmWithEgress k p else v.confirmPassage k p :=
      route_passable_told passable change passage quiet u
    refine ⟨fun way => ?_, fun byHandle way => ?_⟩
    · rw [route, if_neg fun h => by rcases way with w | w <;> simp_all]
      exact confirmPassage_spec v k p
    · have heard : v.noListeners := silent
      have egress : v.egressTold k = s.event .unattributedEgress (door := some k) (zone := some x.entry.inner)
        (reason := some 1) := egressTold_openedAt s k (x.reported .opened b) s.csu.ticks
      rw [route, if_pos ⟨byHandle, way⟩]
      refine ⟨confirmWithEgress_ru v k p, by simp, (confirmWithEgress_quiet k p heard).1, ?_, confirmWithEgress_alarms v k p,
        fun entry list => ?_, fun unnamed => ?_⟩
      · simp only [State.keepsFront, confirmWithEgress_pending, confirmWithEgress_fc, confirmWithEgress_csu,
          confirmWithEgress_csc, confirmWithEgress_pe]
        exact ⟨rfl, rfl, rfl, rfl, rfl⟩
      · rw [confirmWithEgress_sp_named k p heard list (by simp [entry]), egress]
        rfl
      · rw [confirmWithEgress_sp_unnamed k p heard unnamed, egress]
        rfl
  · intro s u k b handle x t y strongroom closed noFault
    have now : t = (s.setDoor k y).compareBolt k b := doorStatusReport_same closed
    have door : (s.setDoor k y).door k = y := door_setDoor_self s k y
    have compared (settled : x.settle = none) : ((s.setDoor k y).door k).boltCompared := by
      rw [door]
      exact ⟨strongroom, closed, settled, noFault⟩
    rw [now]
    refine ⟨fun settling => ?_, fun settled other untold => ?_, fun settled other told => ?_, fun settled same told => ?_,
      fun settled same untold => ?_⟩
    · exact compareBolt_settling (by rw [door]; exact settling)
    · rw [compareBolt_differs (compared settled) (by rw [door]; exact other) (by rw [door]; exact untold), door, setDoor_setDoor]
      have code (c : Bolt) : c.code = match c with | .thrown => 0 | .withdrawn => 1 := by cases c <;> rfl
      have output (c : Bolt) : c.output = match c with | .thrown => .boltThrow | .withdrawn => .boltWithdraw := by cases c <;> rfl
      rw [code, output]
      rfl
    · exact compareBolt_differs_told (compared settled) (by rw [door]; exact other) (by rw [door]; exact told)
    · rw [compareBolt_agrees_told (compared settled) (by rw [door]; exact same) (by rw [door]; exact told), door, setDoor_setDoor]
      rfl
    · exact compareBolt_agrees (compared settled) (by rw [door]; exact same) (by rw [door]; exact untold)

end

section
namespace Sys2Proof.Machine

/-! ## One credential moves -/

section
variable {r : Ru} {z j : ZoneId} {custodian : Bool} {now : Nat} {c : PassageCred}

/-- R143, R144: away from its destination a credential leaves the lists, and no status moves. -/
theorem moved_elsewhere (other : j ≠ z) :
    (r.moved z custodian now c).rosters.get j = (r.rosters.get j).filter (fun e => e.number != c.number)
      ∧ (r.moved z custodian now c).status.get j = r.status.get j := by
  by_cases zero : z = 0
  · subst zero
    exact ⟨without_get .., rfl⟩
  by_cases room : (r.without c.number).room z
  · rw [moved_room _ _ _ _ _ zero room]
    exact ⟨by simp [other], rfl⟩
  · rw [moved_noRoom _ _ _ _ _ zero room, unknownAt_status]
    refine ⟨?_, if_neg fun h => other h.1⟩
    rw [Ru.unknownAt, if_neg zero]
    exact without_get ..

theorem moved_outside :
    (r.moved 0 custodian now c).rosters.get 0 = (r.rosters.get 0).filter (fun e => e.number != c.number)
      ∧ (r.moved 0 custodian now c).status.get 0 = r.status.get 0 := ⟨without_get .., rfl⟩

theorem moved_here_room (tracked : z ≠ 0) (room : (r.without c.number).room z) :
    (r.moved z custodian now c).rosters.get z =
        (r.rosters.get z).filter (fun e => e.number != c.number)
          ++ [{ number := c.number, cls := c.cls, entered := now, custodian }]
      ∧ (r.moved z custodian now c).status.get z = r.status.get z := by
  rw [moved_room _ _ _ _ _ tracked room]
  exact ⟨by simp, rfl⟩

theorem moved_here_noRoom (tracked : z ≠ 0) (full : ¬ (r.without c.number).room z) :
    (r.moved z custodian now c).rosters.get z = (r.rosters.get z).filter (fun e => e.number != c.number)
      ∧ (r.moved z custodian now c).status.get z = .unknown := by
  rw [moved_noRoom _ _ _ _ _ tracked full, unknownAt_status]
  refine ⟨?_, if_pos ⟨rfl, tracked⟩⟩
  rw [Ru.unknownAt, if_neg tracked]
  exact without_get ..

end

/-! ## The opening in UNLOCKED that confirms -/

section
variable {s : State} {k : DoorId} {b : Bolt} {p : Passage} {c : PassageCred}

/-- The state in which RU is handed the passage of an opening from outside. -/
def State.openedFor (s : State) (k : DoorId) (b : Bolt) : State :=
  ((s.setDoor k { s.door k with bolt := some b }).setContact k .opened).setOpen k

theorem openedFor_dc (s : State) (k : DoorId) (b : Bolt) :
    (s.openedFor k b).dc = (s.setDoor k (((s.door k).reported .opened b).openedAt s.csu.ticks)).dc := by
  have recorded := setContact_dc (s.setDoor k { s.door k with bolt := some b }) k .opened
  rw [door_setDoor_self, setDoor_setDoor] at recorded
  have opened (x : Door) : (((s.setDoor k { s.door k with bolt := some b }).setContact k .opened).setDoor k x).dc =
      (s.setDoor k x).dc := by
    rw [← setDoor_setDoor s k ((s.door k).reported .opened b) x]
    exact congrArg (fun d : Dc => ({ d with doors := d.doors.set k x k.isLt } : Dc)) recorded
  rw [State.openedFor, setOpen_eq, opened, door_setContact, door_setDoor_self, setContact_csu]
  rfl

@[simp] theorem openedFor_ru (s : State) (k : DoorId) (b : Bolt) : (s.openedFor k b).ru = s.ru := by simp [State.openedFor]
@[simp] theorem openedFor_csu (s : State) (k : DoorId) (b : Bolt) : (s.openedFor k b).csu = s.csu := by simp [State.openedFor]

theorem passageMoved_congr {t : State} (ru : t.ru = s.ru) (clock : t.csu = s.csu) (p : Passage) :
    t.passageMoved p = s.passageMoved p := by
  simp only [State.passageMoved, ru, State.uptime, clock]

/-- R102: an opening that no handle shows confirms the held passage. -/
theorem route_passable_outside (passable : (s.door k).passable) (change : (s.door k).contact ≠ .opened)
    (passage : (s.door k).passage = some p) (u : DevIx) :
    s.route u (.doorStatus k .opened b false) = (s.openedFor k b).confirmPassage k p := by
  rw [route_passable passable change passage,
    confirmHeld_eq (p := p) (by rw [door_setContact, door_setDoor_self]; exact passage)]
  exact if_neg (by simp)

theorem openedFor_told (quiet : s.noChannelAt k) (kind : (s.door k).entry.kind ≠ .noDoor) :
    s.openedFor k b = s.toldDoor k (((s.door k).reported .opened b).openedAt s.csu.ticks) := by
  rw [State.openedFor, setContact_told kind quiet, setOpen_eq, door_toldDoor]
  exact setDoor_toldDoor rfl rfl

/-- R143: a passage of one credential. -/
theorem passageMoved_single (way : p.direction ≠ .station) (single : p.list = [c]) :
    s.passageMoved p = s.ru.moved p.eventZone p.custodian s.uptime c := by
  rw [passageMoved_named s p (by simp [single]) way, single]
  rfl

theorem movesTold_single (single : p.list = [c]) : s.movesTold k p = (s.moveOne k p (s.ru, s.sp) c).2 := by
  rw [movesTold_eq, single]
  rfl

end

end Sys2Proof.Machine

section
open Sys2Proof Sys2Proof.Machine

/-- Settles O29: the held passage is handed to RU, whose lists and statuses move as one credential or none asks. -/
theorem passageConfirmedByOpening : Obligations.PassageConfirmedByOpening := by
  intro s u k b p x t plain unlocked change passage
  have now : t = (s.openedFor k b).confirmPassage k p := route_passable_outside (.inr ⟨plain, unlocked⟩) change passage u
  have ru : t.ru = s.passageMoved p := by
    rw [now, confirmPassage_ru, passageMoved_congr (s := s) (by simp) (by simp)]
  have dc : t.dc = (s.setDoor k ((x.reported .opened b).openedAt s.csu.ticks)).dc := by
    rw [now, confirmPassage_dc, openedFor_dc]
  have door (j : DoorId) : t.door j = (s.setDoor k ((x.reported .opened b).openedAt s.csu.ticks)).door j :=
    congrArg (fun d : Dc => d.doors.get j) dc
  refine ⟨(door k).trans (door_setDoor_self ..), fun j other => (door j).trans ((door_setDoor ..).trans (if_neg other)),
    ?_, ?_, ?_, ?_, ?_, ?_, fun unnamed => ?_, fun c dest single toward => ?_⟩
  · simp [now, State.openedFor]
  · simp [now, State.openedFor]
  · simp [now]
  · simp [now, State.openedFor]
  · simp [now, State.openedFor]
  · rw [ru, ← applyPassage_ru s k p, applyPassage_ru_zones]
  · rw [passageMoved_unnamed s p unnamed] at ru
    exact ⟨by rw [ru, bothUnknown_rosters], fun z => by rw [State.zoneStatus, ru]; exact bothUnknown_zoneStatus ..⟩
  · have way : p.direction ≠ .station := by rcases toward with ⟨h, -⟩ | ⟨h, -⟩ <;> simp [h]
    have destination : p.eventZone = dest := by
      rw [eventZone_eq]
      rcases toward with ⟨h, rfl⟩ | ⟨h, rfl⟩ <;> simp [h]
    rw [passageMoved_single way single, destination] at ru
    intro left room
    have here (z : ZoneId) : t.roster z = (s.ru.moved dest p.custodian s.uptime c).rosters.get z
        ∧ t.zoneStatus z = (s.ru.moved dest p.custodian s.uptime c).status.get z := by
      rw [State.roster, State.zoneStatus, ru]
      exact ⟨rfl, rfl⟩
    have fits : room ↔ (s.ru.without c.number).room dest := (without_room_iff ..).symm
    refine ⟨fun z other => ?_, ?_, fun tracked free => ?_, fun tracked full => ?_⟩
    · rw [(here z).1, (here z).2]
      exact moved_elsewhere other
    · rintro rfl
      rw [(here 0).1, (here 0).2]
      exact moved_outside
    · rw [(here dest).1, (here dest).2]
      exact moved_here_room tracked (fits.1 free)
    · obtain ⟨roster, status⟩ := moved_here_noRoom (r := s.ru) (custodian := p.custodian) (now := s.uptime) tracked
        (mt fits.2 full)
      refine ⟨(here dest).1.trans roster, (here dest).2.trans status, fun silent view => ?_⟩
      have kind : (s.door k).entry.kind ≠ .noDoor := ne_of_eq_of_ne plain (by decide)
      rw [openedFor_told ⟨view, silent.1 _, silent.1 _⟩ kind] at now
      obtain ⟨-, -, alarms, -, heard⟩ :=
        confirmPassage_spec (s.toldDoor k (((s.door k).reported .opened b).openedAt s.csu.ticks)) k p
      obtain ⟨rm, -, named⟩ := heard silent
      rw [← now] at alarms rm named
      intro overflow passed
      have zone : (if p.direction = .exit then p.outer else p.inner) = dest := (eventZone_eq p).symm.trans destination
      have passes : s.passageEvent k p = passed := by
        rw [State.passageEvent, zone, single]
        rcases toward with ⟨h, -⟩ | ⟨h, -⟩ <;> simp [h, passed]
      have moves : s.movesTold k p = (if s.zoneStatus dest = .known then
          overflow.tells (s.event .zoneUnknown (zone := some dest) (reason := some 2)) else overflow).sp := by
        rw [movesTold_single single, moveOne_noRoom s k p (s.ru, s.sp) c (by rw [destination]; exact tracked)
          (by rw [destination]; exact mt fits.2 full), destination, without_get]
        have reason : (if (s.zone dest).limit ≤ (left dest).length then 1 else 2) =
            if (left dest).length < (s.zone dest).limit then 2 else 1 := by grind
        simp only [overflow, reason, apply_ite State.sp]
        rfl
      have sp : t.sp = (s.movesTold k p).enqueue (s.passageEvent k p) := named (by simp [single]) way
      exact ⟨rm, alarms, by rw [sp, moves, passes]; rfl⟩

end
end

section
namespace Sys2Proof.Machine

/-! ## DOOR_GRANT and STRONGROOM_CANCEL -/

section
variable {s t : State} {seq : BitVec 4} {n : Byte} {k : DoorId} {r : ReplyCode}

theorem exec_doorGrant_taken (taken : s.takesCommands) (answered : cmdDoorGrant n s = (t, .now r [])) :
    exec (.doorGrant seq n) s = .next (t.addReply seq (.ready [0x38, BitVec.ofNat 8 r.code])).settle :=
  takeCommand_now taken seq codeDoorGrant answered

theorem exec_strongroomCancel_taken (taken : s.takesCommands) (answered : cmdStrongroomCancel n s = (t, .now r [])) :
    exec (.strongroomCancel seq n) s = .next (t.addReply seq (.ready [0x39, BitVec.ofNat 8 r.code])).settle :=
  takeCommand_now taken seq codeStrongroomCancel answered

theorem doorOf_none (h : 16 ≤ n.toNat) : doorOf n.toNat = none := dif_neg (Nat.not_lt.2 h)

theorem doorOf_some (h : n.toNat = k.val) : doorOf n.toNat = some k := by
  rw [h]
  exact dif_pos k.isLt

theorem cmdDoorGrant_badIndex (h : 16 ≤ n.toNat) : cmdDoorGrant n s = s.no .badIndex := by
  simp only [cmdDoorGrant, doorOf_none h]

theorem cmdStrongroomCancel_badIndex (h : 16 ≤ n.toNat) : cmdStrongroomCancel n s = s.no .badIndex := by
  simp only [cmdStrongroomCancel, doorOf_none h]

section
variable (number : n.toNat = k.val)
include number

theorem cmdDoorGrant_noDoor (kind : (s.door k).entry.kind = .noDoor) : cmdDoorGrant n s = s.no .notFound := by
  simp only [cmdDoorGrant, doorOf_some number, kind]

theorem cmdDoorGrant_strongroom (kind : (s.door k).entry.kind = .strongroom) : cmdDoorGrant n s = s.no .refusedState := by
  simp only [cmdDoorGrant, doorOf_some number, kind]

/-- R112: no door is released toward a zone whose channel is in the lockout set. -/
theorem cmdDoorGrant_lockedOut (kind : (s.door k).entry.kind = .plain)
    (locked : s.zoneLockedOut (s.door k).entry.inner = true) : cmdDoorGrant n s = s.no .refusedState := by
  simp only [cmdDoorGrant, doorOf_some number, kind, locked, if_true]

theorem cmdDoorGrant_plain (kind : (s.door k).entry.kind = .plain)
    (free : s.zoneLockedOut (s.door k).entry.inner = false) : cmdDoorGrant n s = s.stationGrant k := by
  simp only [cmdDoorGrant, doorOf_some number, kind, free, Bool.false_eq_true, if_false]

theorem cmdStrongroomCancel_other (kind : (s.door k).entry.kind ≠ .strongroom) :
    cmdStrongroomCancel n s = s.no .notFound := by
  simp only [cmdStrongroomCancel, doorOf_some number, if_pos kind]

section
variable (kind : (s.door k).entry.kind = .strongroom)
include kind

theorem cmdStrongroomCancel_sequence (sequence : (s.door k).state.inSequence = true) :
    cmdStrongroomCancel n s = (s.cancelled k (.denied .access) 7).yes := by
  have cancelled := cancelSequence_eq s k (r := .station) (by decide)
  simp [cmdStrongroomCancel, doorOf_some number, kind, sequence, cancelled, CancelReason.message, CancelReason.code]

theorem cmdStrongroomCancel_rebolt (outside : (s.door k).state.inSequence = false)
    (entry : (s.door k).unboltedForEntry = true) : cmdStrongroomCancel n s = (s.rebolt k .station).yes := by
  simp [cmdStrongroomCancel, doorOf_some number, kind, outside, entry]

theorem cmdStrongroomCancel_refused (outside : (s.door k).state.inSequence = false)
    (other : (s.door k).unboltedForEntry = false) : cmdStrongroomCancel n s = s.no .refusedState := by
  simp [cmdStrongroomCancel, doorOf_some number, kind, outside, other]

end

end

/-- R112: the states in which the station cannot release a PLAIN door. -/
theorem stationGrant_refused (locked : (s.door k).state ≠ .locked) (fault : (s.door k).state ≠ .fault) :
    s.stationGrant k = s.no .refusedState := by
  unfold State.stationGrant
  dsimp only
  split
  · exact absurd ‹_› locked
  · exact absurd ‹_› fault
  all_goals rfl

/-- R112: a LOCKED door is unlocked for no one. -/
theorem stationGrant_locked (state : (s.door k).state = .locked) :
    s.stationGrant k =
      (((s.setDoor k
          { s.door k with
            state := .unlocked, unlock := some (s.csu.ticks + (s.door k).entry.unlockWindow)
            passage := some
              { direction := .station, outer := (s.door k).entry.outer, inner := (s.door k).entry.inner, list := []
                custodian := false } }).driveOpt (s.door k).entry.unit (.unlock (s.door k).entry.unlockWindow)).tells
        (s.event .stationGrant (door := some k) (zone := some (s.door k).entry.inner))).yes := by
  simp [State.stationGrant, state, unlockFor_eq, postDoor_eq, Door.passageFor]

/-- R112: the station opens a door in FAULT: UNLOCK goes out, and RU is told. -/
def State.faultReleased (s : State) (k : DoorId) : State :=
  ((s.driveOpt (s.door k).entry.unit (.unlock (s.door k).entry.unlockWindow)).tells
    (s.event .stationGrant (door := some k) (zone := some (s.door k).entry.inner))).doorOpening k

theorem stationGrant_fault (state : (s.door k).state = .fault) : s.stationGrant k = (s.faultReleased k).yes := by
  simp [State.stationGrant, state, postDoor_eq, State.faultReleased]

/-- R112: the answer that releases a door in FAULT. -/
theorem exec_doorGrant_fault (taken : s.takesCommands) (number : n.toNat = k.val)
    (kind : (s.door k).entry.kind = .plain) (free : s.zoneLockedOut (s.door k).entry.inner = false)
    (state : (s.door k).state = .fault) :
    exec (.doorGrant seq n) s = .next ((s.faultReleased k).addReply seq (.ready [0x38, 0x00])).settle :=
  exec_doorGrant_taken (r := .accept) taken ((cmdDoorGrant_plain number kind free).trans (stationGrant_fault state))

theorem faultReleased_ru :
    (s.faultReleased k).ru = s.ru.bothUnknown (s.door k).entry.outer (s.door k).entry.inner := by
  simp [State.faultReleased, State.doorOpening]

theorem faultReleased_replies : (s.faultReleased k).sp.replies = s.sp.replies := by
  have kept := congrArg Prod.snd (openingNotice_alarmsAndReplies
    ((s.driveOpt (s.door k).entry.unit (.unlock (s.door k).entry.unlockWindow)).tells
      (s.event .stationGrant (door := some k) (zone := some (s.door k).entry.inner)))
    (s.door k).entry.outer (s.door k).entry.inner)
  have door : ((s.driveOpt (s.door k).entry.unit (.unlock (s.door k).entry.unlockWindow)).tells
      (s.event .stationGrant (door := some k) (zone := some (s.door k).entry.inner))).door k = s.door k := by simp
  rw [State.faultReleased, State.doorOpening, door]
  refine kept.trans ?_
  cases (s.door k).entry.unit <;> simp [State.alarmsAndReplies, State.driveOpt]

/-- R106, R112: with no channel at the door, the release of a door in FAULT is an opening that names no one. -/
theorem faultReleased_spec (quiet : s.noChannelAt k) (lone : s.loneCopiesCurrent) :
    (s.driveOpt (s.door k).entry.unit (.unlock (s.door k).entry.unlockWindow)).openedUnattributed (s.faultReleased k) k
      (s.door k) [s.event .stationGrant (door := some k) (zone := some (s.door k).entry.inner)] := by
  obtain ⟨-, outer, inner⟩ := quiet
  have opened := openedUnattributed_doorOpening
    (s := s.driveOpt (s.door k).entry.unit (.unlock (s.door k).entry.unlockWindow)) (k := k) (x := s.door k)
    (first := [s.event .stationGrant (door := some k) (zone := some (s.door k).entry.inner)])
    ((channelOf_congr (by simp) _).trans outer) ((channelOf_congr (by simp) _).trans inner)
    (loneCopiesCurrent_congr lone (by simp) (by simp) (by simp))
  have same (u : State) (h : u.door k = s.door k) : u.setDoor k (s.door k) = u := by rw [← h, setDoor_self]
  rw [same _ (door_driveOpt ..)] at opened
  exact opened

end

end Sys2Proof.Machine

section
open Sys2Proof Sys2Proof.Machine

/-- Settles O35: each clause is one answer of the command's body, and its reply takes a place. -/
theorem doorCommandsResult : Obligations.DoorCommandsResult := by
  intro s seq n taken grant cancel
  refine ⟨fun high => ⟨exec_doorGrant_taken taken (cmdDoorGrant_badIndex high),
    exec_strongroomCancel_taken taken (cmdStrongroomCancel_badIndex high)⟩, ?_⟩
  intro k number x lockedOut
  have locked : s.zoneLockedOut x.entry.inner = true ↔ lockedOut := lockedOut_iff ..
  have free (h : ¬ lockedOut) : s.zoneLockedOut x.entry.inner = false := Bool.eq_false_iff.2 (mt locked.1 h)
  refine ⟨fun kind => ⟨?_, ?_⟩, fun kind => ?_, fun kind => ?_, fun kind out => ?_, fun kind notLocked notFault => ?_,
    fun kind out state => ?_, fun kind out state => ?_, fun kind out state quiet lone => ?_, fun kind sequence => ?_,
    fun p kind state passage entry => ?_, fun kind state => ?_, fun p kind state passage exit => ?_⟩
  · exact exec_doorGrant_taken taken (cmdDoorGrant_noDoor number kind)
  · exact exec_strongroomCancel_taken taken (cmdStrongroomCancel_other number (ne_of_eq_of_ne kind (by decide)))
  · exact exec_strongroomCancel_taken taken (cmdStrongroomCancel_other number (ne_of_eq_of_ne kind (by decide)))
  · exact exec_doorGrant_taken taken (cmdDoorGrant_strongroom number kind)
  · exact exec_doorGrant_taken taken (cmdDoorGrant_lockedOut number kind (locked.2 out))
  · cases out : s.zoneLockedOut x.entry.inner with
    | true => exact exec_doorGrant_taken taken (cmdDoorGrant_lockedOut number kind out)
    | false =>
      exact exec_doorGrant_taken taken ((cmdDoorGrant_plain number kind out).trans (stationGrant_refused notLocked notFault))
  · exact exec_doorGrant_taken taken ((cmdDoorGrant_plain number kind (free out)).trans (stationGrant_locked state))
  · refine ⟨_, exec_doorGrant_fault taken number kind (free out) state, ?_, ?_, fun z => ?_, ?_, ?_, ?_, ?_, ?_, ?_⟩
    · simp [State.faultReleased]
    · rw [addReply_ru, faultReleased_ru, bothUnknown_rosters]
    · rw [State.zoneStatus, addReply_ru, faultReleased_ru]
      exact bothUnknown_zoneStatus ..
    · rw [addReply_sp_replies, faultReleased_replies]
      rfl
    all_goals simp [State.faultReleased]
  · exact ⟨s.faultReleased k, faultReleased_spec quiet lone, exec_doorGrant_fault taken number kind (free out) state⟩
  · exact exec_strongroomCancel_taken taken (cmdStrongroomCancel_sequence number kind ((inSequence_iff _).2 sequence))
  · have outside : x.state.inSequence = false := by rw [state]; rfl
    have rebolt := rebolt_eq s k .station
    have first : (s.door k).passage.bind Passage.first = p.list.head?.map (fun c => Subject.credential c.number) := by
      rw [show (s.door k).passage = some p from passage]
      rfl
    rw [first] at rebolt
    exact exec_strongroomCancel_taken (r := .accept) taken ((cmdStrongroomCancel_rebolt number kind outside
      ((unboltedForEntry_iff _).2 ⟨state, p, passage, entry⟩)).trans (congrArg State.yes rebolt))
  · have outside : x.state.inSequence = false := by
      rcases state with state | state | state | state | state <;> rw [state] <;> rfl
    have other : x.unboltedForEntry = false := Bool.eq_false_iff.2 fun entry => by
      obtain ⟨unbolted, -⟩ := (unboltedForEntry_iff x).1 entry
      simp [unbolted] at state
    exact exec_strongroomCancel_taken taken (cmdStrongroomCancel_refused number kind outside other)
  · have outside : x.state.inSequence = false := by rw [state]; rfl
    have other : x.unboltedForEntry = false := Bool.eq_false_iff.2 fun entry => by
      obtain ⟨-, q, held, direction⟩ := (unboltedForEntry_iff x).1 entry
      obtain rfl : p = q := Option.some.inj (passage.symm.trans held)
      rw [exit] at direction
      cases direction
    exact exec_strongroomCancel_taken taken (cmdStrongroomCancel_refused number kind outside other)

end
end

section
namespace Sys2Proof.Machine

/-! ## A channel enters the lockout set -/

/-- R131: a strongroom of this inner zone whose sequence runs, or that was UNBOLTED for an entry. -/
def Door.concernedBy (x : Door) (z : ZoneId) : Prop :=
  x.entry.kind = .strongroom ∧ x.entry.inner = z ∧ (x.state.inSequence = true ∨ x.unboltedForEntry = true)

theorem concernedBy_iff (x : Door) (z : ZoneId) :
    x.concernedBy z ↔ x.entry.kind = .strongroom ∧ x.entry.inner = z
      ∧ (x.state = .custodyWait ∨ x.state = .delay ∨ x.state = .confirmWait
        ∨ (x.state = .unbolted ∧ ∃ p, x.passage = some p ∧ p.direction = .entry)) := by
  rw [Door.concernedBy, inSequence_iff, unboltedForEntry_iff]
  tauto

section
variable {s : State} {z : ZoneId} {k : DoorId}

theorem lockoutDoor_other (h : ¬ (s.door k).concernedBy z) : s.lockoutDoor z k = s := by
  unfold State.lockoutDoor
  dsimp only
  split
  · next here =>
    obtain ⟨strongroom, inner⟩ := here
    rw [if_neg fun sequence => h ⟨strongroom, inner, .inl sequence⟩,
      if_neg fun entry => h ⟨strongroom, inner, .inr entry⟩]
  · rfl

/-- R131: a sequence is cancelled. -/
theorem lockoutDoor_sequence (concerned : (s.door k).concernedBy z) (sequence : (s.door k).state.inSequence = true) :
    s.lockoutDoor z k = s.cancelled k (.denied .zone) 8 := by
  obtain ⟨strongroom, inner, -⟩ := concerned
  rw [State.lockoutDoor, if_pos ⟨strongroom, inner⟩, if_pos sequence]
  exact cancelSequence_eq s k (by decide)

/-- R131: a door UNBOLTED for an entry is bolted again. -/
theorem lockoutDoor_rebolt (concerned : (s.door k).concernedBy z) (outside : (s.door k).state.inSequence = false) :
    s.lockoutDoor z k = s.rebolt k .suppression := by
  obtain ⟨strongroom, inner, running | entry⟩ := concerned
  · rw [outside] at running
    cases running
  · rw [State.lockoutDoor, if_pos ⟨strongroom, inner⟩, if_neg (by simp [outside]), if_pos entry]

theorem door_lockoutDoor {j : DoorId} (other : j ≠ k) : (s.lockoutDoor z k).door j = s.door j := by
  by_cases concerned : (s.door k).concernedBy z
  · cases sequence : (s.door k).state.inSequence with
    | true => rw [lockoutDoor_sequence concerned sequence]; simp [State.cancelled, door_setDoor, other]
    | false => rw [lockoutDoor_rebolt concerned sequence, rebolt_eq]; simp [door_setDoor, other]
  · rw [lockoutDoor_other concerned]

theorem lockoutEntered_none (h : ∀ j, ¬ (s.door j).concernedBy z) : s.lockoutEntered z = s :=
  foldl_unchanged _ _ _ fun j _ => lockoutDoor_other (h j)

/-- R131: where one strongroom is concerned, it alone changes. -/
theorem lockoutEntered_one (h : ∀ j, j ≠ k → ¬ (s.door j).concernedBy z) :
    s.lockoutEntered z = s.lockoutDoor z k := by
  obtain ⟨before, after, doors⟩ := List.append_of_mem (List.mem_finRange k)
  have distinct : (before ++ k :: after).Nodup := doors ▸ List.nodup_finRange 16
  have earlier : ∀ j ∈ before, j ≠ k := fun j at' same => by
    subst same
    exact (List.nodup_append.1 distinct).2.2 j at' j (by simp) rfl
  have later : ∀ j ∈ after, j ≠ k := fun j at' same => by
    subst same
    exact (List.nodup_cons.1 (List.nodup_append.1 distinct).2.1).1 at'
  rw [State.lockoutEntered, allDoors, doors, List.foldl_append, List.foldl_cons,
    foldl_unchanged _ before s fun j at' => lockoutDoor_other (h j (earlier j at'))]
  exact foldl_unchanged _ _ _ fun j at' =>
    lockoutDoor_other (by rw [door_lockoutDoor (later j at')]; exact h j (later j at'))

end

/-! ## What makes a channel enter the lockout set from NORMAL -/

section
variable {s : State} {c : ChannelId} {z : ZoneId} {d : DevIx} {g : Group}

theorem postSc_eq (kind : EventKind) (reason : Option Nat) :
    s.postSc kind c reason = s.tells (s.event kind (zone := (s.channel c).zone) (channel := some c) (reason := reason)) :=
  rfl

theorem lockoutSetEntered_some (zone : (s.channel c).zone = some z) : s.lockoutSetEntered c = s.lockoutEntered z := by
  rw [State.lockoutSetEntered, zone]

theorem countdownStarted_zone : ((s.countdownStarted c).channel c).zone = (s.channel c).zone := by
  rw [State.countdownStarted, patternTold_zone]
  simp [Channel.countingDown]

/-- R165: the countdown of a NORMAL channel starts, and DC is told. -/
theorem startCountdown_normal (normal : (s.channel c).state = .normal) (zone : (s.channel c).zone = some z) :
    s.startCountdown c = (s.countdownStarted c).lockoutEntered z := by
  rw [startCountdown_eq s c (.inl normal), if_pos normal, lockoutSetEntered_some (countdownStarted_zone.trans zone)]

theorem event_setLine (l : InputLine) (x : Line) (kind : EventKind) (door : Option DoorId) (zone : Option ZoneId)
    (channel : Option ChannelId) (subject : Option Subject) (reason : Option Nat) :
    (s.setLine l x).event kind door zone channel subject reason = s.event kind door zone channel subject reason :=
  event_congr (setLine_csu s l x) ..

/-- R163: a manual release of a NORMAL channel. -/
theorem manualRelease_normal (normal : (s.channel c).state = .normal) (zone : (s.channel c).zone = some z)
    (source : Option DevIx) :
    s.manualRelease c source =
      ((s.tells (s.event .manualRelease (zone := some z) (channel := some c)
        (reason := some (manualSource source)))).countdownStarted c).lockoutEntered z := by
  simp only [State.manualRelease, postSc_eq, zone, channel_tells, normal]
  exact startCountdown_normal normal zone

/-- R158: the level of a detector that was not in ALARM is reported, its latch set, and the latch offered to detection. -/
theorem detectorReport_alarm (normal : (s.channel c).state = .normal) (quiet : (s.scDev d).level ≠ some .alarm) :
    s.detectorReport d c g .alarm =
      ((s.setScDev d { s.scDev d with level := some .alarm, latch := true }).tells
        (s.event .detectorAlarm (zone := (s.channel c).zone) (channel := some c) (reason := some (d.val + 1)))).offerLatch
          c g := by
  simp [State.detectorReport, quiet, postSc_eq, normal, ChannelState.latches, DetectorLevel.event, addressOf, setScDev_tells]

/-- R164: without coincidence a latch starts the countdown. -/
theorem offerLatch_single (normal : (s.channel c).state = .normal) (single : (s.channel c).coincidence = false) :
    s.offerLatch c g = s.startCountdown c := by
  simp [State.offerLatch, normal, single]

/-- R162: with coincidence a latch of one group alone makes the channel FIRST_ALARM. -/
theorem offerLatch_first (normal : (s.channel c).state = .normal) (coincidence : (s.channel c).coincidence = true)
    {h : Group} (unlatched : s.groupInAlarm c h = false) : s.offerLatch c g = s.firstAlarm c g := by
  have both : (s.groupInAlarm c .groupA && s.groupInAlarm c .groupB) = false := by
    cases h <;> simp [unlatched]
  simp [State.offerLatch, normal, coincidence, both]

theorem firstAlarm_eq (zone : (s.channel c).zone = some z) :
    s.firstAlarm c g =
      ((s.setChannel c { s.channel c with state := .firstAlarm }).tells
        (s.event .channelFirstAlarm (zone := some z) (channel := some c) (reason := some g.code))).lockoutEntered z := by
  have kept : ((s.setChannel c { s.channel c with state := .firstAlarm }).channel c).zone = some z := by
    rw [channel_setChannel_self]; exact zone
  simp only [State.firstAlarm, postSc_eq, State.notifyLockout, channel_tells, kept]
  rfl

theorem groupInAlarm_false (h : ∀ e, (s.device e).role = .detector c g → (s.scDev e).latch = false) :
    s.groupInAlarm c g = false := by
  simp only [State.groupInAlarm, List.any_eq_false, Bool.and_eq_true, not_and, Bool.not_eq_true, beq_iff_eq]
  exact fun e _ => h e

/-- R162: the latch of one group is no alarm of another whose detectors are unlatched. -/
theorem groupInAlarm_latched {h : Group} {x : ScDevice} (role : (s.device d).role = .detector c g) (other : h ≠ g)
    (unlatched : ∀ e, (s.device e).role = .detector c h → (s.scDev e).latch = false) :
    (s.setScDev d x).groupInAlarm c h = false := by
  refine groupInAlarm_false fun e (of : (s.device e).role = .detector c h) => ?_
  have elsewhere : e ≠ d := by
    rintro rfl
    rw [role] at of
    exact other (DevRole.detector.inj of).2.symm
  rw [scDev_setScDev, if_neg elsewhere]
  exact unlatched e of

/-- R163: a RELEASE_STATION that was not operated is now. -/
theorem route_releaseStation (normal : (s.channel c).state = .normal) (zone : (s.channel c).zone = some z)
    (idle : (s.scDev d).release ≠ some true) :
    s.route d (.releaseStation c true) =
      (((s.setScDev d { s.scDev d with release := some true }).tells (s.event .manualRelease (zone := some z)
        (channel := some c) (reason := some (d.val + 1)))).countdownStarted c).lockoutEntered z := by
  have released := manualRelease_normal (s := s.setScDev d { s.scDev d with release := some true }) normal zone (some d)
  simp only [State.route, State.releaseStationReport, idle, ne_eq, not_false_eq_true, and_self, if_true]
  exact released

/-- R181, R182: a press of the MANUAL RELEASE line that lasts is a manual release. -/
theorem pressExpired_manualRelease (normal : (s.channel c).state = .normal) (zone : (s.channel c).zone = some z)
    {raw : Bool} {recovery : Timer} (pressed : s.line (.manualRelease c) = { raw, qualifier := .pulse .pressed recovery }) :
    s.pressExpired (.manualRelease c) =
      (((s.setLine (.manualRelease c) { raw, qualifier := .pulse .spent none }).tells (s.event .manualRelease
        (zone := some z) (channel := some c) (reason := some 0x0100))).countdownStarted c).lockoutEntered z := by
  have kept : (s.setLine (.manualRelease c) { raw, qualifier := .pulse .spent none }).channel c = s.channel c := by
    simp [State.channel]
  have released := manualRelease_normal (s := s.setLine (.manualRelease c) { raw, qualifier := .pulse .spent none })
    (by rw [kept]; exact normal) (by rw [kept]; exact zone) none
  rw [event_setLine] at released
  simp only [State.pressExpired, pressed]
  exact released

end

/-! ## The end of FAULT -/

section
variable {s : State} {k : DoorId} {b : Bolt} {handle : Bool}

theorem event_toldDoor (x : Door) (kind : EventKind) (door : Option DoorId) (zone : Option ZoneId)
    (channel : Option ChannelId) (subject : Option Subject) (reason : Option Nat) :
    (s.toldDoor k x).event kind door zone channel subject reason = s.event kind door zone channel subject reason := rfl

/-- R98: the first report that a PLAIN door in FAULT is CLOSED locks it. -/
theorem route_plain_faultCleared (plain : (s.door k).entry.kind = .plain) (quiet : s.noChannelAt k)
    (fault : (s.door k).state = .fault) (change : (s.door k).contact ≠ .closed) (u : DevIx) :
    s.route u (.doorStatus k .closed b handle) =
      ((s.toldDoor k ((s.door k).reported .closed b).locked).driveOpt (s.door k).entry.unit .lock).tells
        (s.event .doorFaultCleared (door := some k) (zone := some (s.door k).entry.inner) (reason := some 1)) := by
  rw [route_doorStatus_plain plain quiet change, show (Contact.closed == .opened) = false from rfl]
  refine (compareBolt_plain ?_).trans ?_ <;>
    simp [State.plainContact, door_toldDoor, Door.reported, fault, plain, lockDoor_toldDoor, postDoor_eq, Door.locked,
      faultClearedReason, event_toldDoor]

/-- R129: the first report that a STRONGROOM in FAULT is CLOSED secures it. -/
theorem route_strongroom_faultCleared (strongroom : (s.door k).entry.kind = .strongroom) (quiet : s.noChannelAt k)
    (fault : (s.door k).state = .fault) (change : (s.door k).contact ≠ .closed) (u : DevIx) :
    s.route u (.doorStatus k .closed b handle) =
      ((s.toldDoor k (((s.door k).reported .closed b).secured s.csu.ticks)).driveOpt (s.door k).entry.unit .boltThrow).tells
        (s.event .doorFaultCleared (door := some k) (zone := some (s.door k).entry.inner) (reason := some 1)) := by
  rw [route_doorStatus_strongroom strongroom quiet change, show (Contact.closed == .opened) = false from rfl]
  refine (compareBolt_settling ?_).trans ?_ <;>
    simp [State.strongroomContact, door_toldDoor, Door.reported, fault, secure_toldDoor, postDoor_eq, Door.secured,
      faultClearedReason, event_toldDoor]

/-- R98, R129: DOOR_FAULT_CLEARED, then UNATTRIBUTED_EGRESS, each with the reason of an OPEN door. -/
def State.faultOpenTold (s : State) (k : DoorId) : List EventRecord :=
  [s.event .doorFaultCleared (door := some k) (zone := some (s.door k).entry.inner) (reason := some 2),
    s.event .unattributedEgress (door := some k) (zone := some (s.door k).entry.inner) (reason := some 2)]

theorem faultEndsOpen_eq :
    s.faultEndsOpen k =
      ((s.faultOpenTold k).foldl State.tells (s.setDoor k ((s.door k).openedAt s.csu.ticks))).doorOpening k := by
  simp [State.faultEndsOpen, State.unattributed, setOpen_eq, postDoor_eq, State.faultOpenTold, Door.openedAt,
    faultClearedReason, EgressReason.code]

/-- R98, R129: the first report that a door in FAULT is OPEN is an opening that names no one. -/
theorem route_faultOpen (kind : (s.door k).entry.kind = .plain ∨ (s.door k).entry.kind = .strongroom)
    (quiet : s.noChannelAt k) (fault : (s.door k).state = .fault) (change : (s.door k).contact ≠ .opened)
    (lone : s.loneCopiesCurrent) (u : DevIx) :
    s.openedUnattributed (s.route u (.doorStatus k .opened b handle)) k
      (((s.door k).reported .opened b).openedAt s.csu.ticks) (s.faultOpenTold k) := by
  have ⟨_, outer, inner⟩ := quiet
  generalize told : s.toldDoor k ((s.door k).reported .opened b) = v
  have door : v.door k = (s.door k).reported .opened b := by rw [← told, door_toldDoor]
  have ended : s.openedUnattributed (v.faultEndsOpen k) k (((s.door k).reported .opened b).openedAt s.csu.ticks)
      (s.faultOpenTold k) := by
    have atOuter : v.channelOf (v.door k).entry.outer = none := by
      rw [door]
      exact (channelOf_congr (by subst told; rfl) _).trans outer
    have atInner : v.channelOf (v.door k).entry.inner = none := by
      rw [door]
      exact (channelOf_congr (by subst told; rfl) _).trans inner
    have lone : v.loneCopiesCurrent :=
      loneCopiesCurrent_congr lone (by subst told; rfl) (by subst told; rfl) (by subst told; rfl)
    have opened := openedUnattributed_doorOpening (s := v) (k := k) (x := (v.door k).openedAt v.csu.ticks)
      (first := v.faultOpenTold k) atOuter atInner lone
    have events : v.faultOpenTold k = s.faultOpenTold k := by
      simp only [State.faultOpenTold, door]
      subst told
      rfl
    rw [← faultEndsOpen_eq, events, door, show v.csu = s.csu from by subst told; rfl] at opened
    subst told
    exact openedUnattributed_of_toldDoor opened
  have routed : s.route u (.doorStatus k .opened b handle) = (v.faultEndsOpen k).compareBolt k b := by
    rcases kind with plain | strongroom
    · rw [route_doorStatus_plain plain quiet change, told]
      simp [State.plainContact, door, Door.reported, fault]
    · rw [route_doorStatus_strongroom strongroom quiet change, told]
      simp [State.strongroomContact, door, Door.reported, fault]
  rw [routed, compareBolt_judged ended rfl]
  exact ended

end

end Sys2Proof.Machine

section
open Sys2Proof Sys2Proof.Machine

/-- Settles O31: one strongroom is concerned and changes; each way into the lockout set tells DC; FAULT ends by the contact. -/
theorem lockoutAndFaultEndResult : Obligations.LockoutAndFaultEndResult := by
  refine ⟨?_, ?_, ?_⟩
  · intro s z k x concerned
    have same (j : DoorId) : (s.door j).concernedBy z ↔ concerned j := concernedBy_iff ..
    refine ⟨fun unconcerned => lockoutEntered_none fun j => mt (same j).1 (unconcerned j), fun here others => ?_⟩
    have one : s.lockoutEntered z = s.lockoutDoor z k := lockoutEntered_one fun j other => mt (same j).1 (others j other)
    have chosen := (same k).2 here
    have ⟨_, inner, state⟩ := here
    refine ⟨fun bolted => ?_, fun p unbolted passage => ?_⟩
    · have sequence : (s.door k).state.inSequence = true := by
        rw [inSequence_iff]
        rcases state with h | h | h | ⟨h, -⟩
        · exact .inl h
        · exact .inr (.inl h)
        · exact .inr (.inr h)
        · exact absurd h bolted
      exact one.trans (lockoutDoor_sequence chosen sequence)
    · have outside : (s.door k).state.inSequence = false := by rw [show (s.door k).state = .unbolted from unbolted]; rfl
      have first : (s.door k).passage.bind Passage.first = p.list.head?.map (fun c => Subject.credential c.number) := by
        rw [show (s.door k).passage = some p from passage]
        rfl
      rw [one, lockoutDoor_rebolt chosen outside, rebolt_eq, first, show (s.door k).entry.inner = z from inner]
      rfl
  · intro s c z normal zone ch told
    refine ⟨?_, fun d idle => route_releaseStation normal zone idle, fun raw recovery pressed => ?_⟩
    · intro d g role quiet u
      have latched : s.route d (.detector c g .alarm) = u.offerLatch c g := by
        have reported := detectorReport_alarm (g := g) normal quiet
        rw [zone] at reported
        exact reported
      refine ⟨fun coincidence ⟨h, other, unlatched⟩ => ?_, fun single => ?_⟩
      · have quietOther : u.groupInAlarm c h = false := groupInAlarm_latched role other unlatched
        rw [latched, offerLatch_first (s := u) normal coincidence quietOther, firstAlarm_eq (s := u) zone]
        cases g <;> rfl
      · rw [latched, offerLatch_single (s := u) normal single, startCountdown_normal (s := u) normal zone]
    · exact congrArg State.done (pressExpired_manualRelease normal zone pressed)
  · intro s u k b handle x t cleared fault quiet
    exact ⟨fun plain change => route_plain_faultCleared plain quiet fault change u,
      fun strongroom change => route_strongroom_faultCleared strongroom quiet fault change u,
      fun kind change lone => route_faultOpen kind quiet fault change lone u⟩

end
end

section
namespace Sys2Proof.Machine

/-! ## Law 6 at one door -/

/-- R117: the states in which a bolt command may be WITHDRAWN. -/
def DoorState.mayBeWithdrawn (t : DoorState) : Prop := t = .unbolted ∨ t = .opened ∨ t = .heldOpen

/-- R117: law 6 at one door. -/
def Door.boltLawful (x : Door) : Prop :=
  x.entry.kind = .strongroom → x.boltCommand = .withdrawn → x.state.mayBeWithdrawn

theorem boltOnlyOpen_iff (s : State) : s.boltOnlyOpen ↔ ∀ d : DoorId, (s.door d).boltLawful := Iff.rfl

section
variable {x y : Door}

theorem boltLawful_of_thrown (h : x.boltCommand = .thrown) : x.boltLawful := fun _ out => by rw [h] at out; cases out

theorem boltLawful_of_state (h : x.state.mayBeWithdrawn) : x.boltLawful := fun _ _ => h

theorem boltLawful_of_plain (h : x.entry.kind = .plain) : x.boltLawful := fun strongroom => by
  rw [h] at strongroom
  cases strongroom

/-- Law 6 is read from the entry, the bolt command and the state. -/
theorem Door.boltLawful.congr (h : x.boltLawful) (entry : y.entry = x.entry) (bolt : y.boltCommand = x.boltCommand)
    (state : y.state = x.state) : y.boltLawful := by
  unfold Door.boltLawful
  rw [entry, bolt, state]
  exact h

/-- A bolt that law 6 holds thrown stays so in any state. -/
theorem Door.boltLawful.of_shut (h : x.boltLawful) (shut : ¬ x.state.mayBeWithdrawn) (entry : y.entry = x.entry)
    (bolt : y.boltCommand = x.boltCommand) : y.boltLawful := by
  intro strongroom out
  rw [entry] at strongroom
  rw [bolt] at out
  exact absurd (h strongroom out) shut

end

/-! ## Work that keeps law 6 -/

/-- `t` comes from `s` by work that leaves law 6 at every door where it held. -/
def State.KeepsBolts (s t : State) : Prop := ∀ d : DoorId, (s.door d).boltLawful → (t.door d).boltLawful

namespace State.KeepsBolts

theorem refl (s : State) : s.KeepsBolts s := fun _ => id

theorem trans {r s t : State} (h : r.KeepsBolts s) (k : s.KeepsBolts t) : r.KeepsBolts t := fun d => k d ∘ h d

/-- Work on other blocks than DC. -/
theorem elsewhere {s t : State} (dc : t.dc = s.dc) : s.KeepsBolts t := fun d h => by
  rw [State.door, dc]
  exact h

/-- Such work follows. -/
theorem frame {r s t : State} (h : r.KeepsBolts s) (dc : t.dc = s.dc) : r.KeepsBolts t := h.trans (elsewhere dc)

theorem foldl {β : Type} {f : State → β → State} (h : ∀ (t : State) (x : β), t.KeepsBolts (f t x)) (l : List β)
    (s : State) : s.KeepsBolts (l.foldl f s) := by
  induction l generalizing s with
  | nil => exact refl s
  | cons x l ih => exact (h s x).trans (ih _)

/-- A command that acts only under a condition. -/
theorem ite {p : Prop} [Decidable p] {s t : State} (h : p → s.KeepsBolts t) : s.KeepsBolts (if p then t else s) := by
  split
  · next hp => exact h hp
  · exact refl s

/-- One door is written. -/
theorem setDoor {s : State} {d : DoorId} {x : Door} (h : (s.door d).boltLawful → x.boltLawful) :
    s.KeepsBolts (s.setDoor d x) := by
  intro j lawful
  rw [door_setDoor]
  split
  · next here => exact h (here ▸ lawful)
  · exact lawful

/-- One door is written, and other blocks after it. -/
theorem of_setDoor {s t : State} {d : DoorId} {x : Door} (dc : t.dc = (s.setDoor d x).dc)
    (h : (s.door d).boltLawful → x.boltLawful) : s.KeepsBolts t := (setDoor h).frame dc

/-! ## The bolt -/

section
variable (s : State) (d : DoorId)

theorem setThrown : s.KeepsBolts (s.setBolt d .thrown) := setDoor fun _ => boltLawful_of_thrown rfl

/-- R117: whatever a door is written, its bolt is then THROWN. -/
theorem setDoorThrown (x : Door) : s.KeepsBolts ((s.setDoor d x).setBolt d .thrown) := by
  rw [State.setBolt, setDoor_setDoor]
  exact setDoor fun _ => boltLawful_of_thrown rfl

theorem throwBolt : s.KeepsBolts (s.driveBolt d .thrown) :=
  of_setDoor (driveOpt_dc ..) fun _ => boltLawful_of_thrown rfl

theorem secure : s.KeepsBolts (s.secure d) := by
  rw [secure_eq]
  exact of_setDoor (driveOpt_dc ..) fun _ => boltLawful_of_thrown rfl

/-- R118: whatever the reason, the bolt command becomes THROWN. -/
theorem cancelSequence (r : CancelReason) : s.KeepsBolts (s.cancelSequence d r) := by
  by_cases fault : r = .fault
  · subst fault
    exact (setDoorThrown s d (s.door d).endSequence).frame ((post_dc ..).trans (driveOpt_dc ..))
  · rw [cancelSequence_eq s d fault]
    exact of_setDoor ((driveOpt_dc ..).trans (driveOpt_dc ..)) fun _ => boltLawful_of_thrown rfl

theorem rebolt (r : CancelReason) : s.KeepsBolts (s.rebolt d r) := by
  rw [rebolt_eq]
  exact of_setDoor ((driveOpt_dc ..).trans (driveOpt_dc ..)) fun _ => boltLawful_of_thrown rfl

theorem lockoutEntered (z : ZoneId) : s.KeepsBolts (s.lockoutEntered z) := by
  refine foldl (fun t d => ?_) allDoors s
  unfold State.lockoutDoor
  refine ite fun _ => ?_
  split
  · exact cancelSequence t d _
  · exact ite fun _ => rebolt t d _

end

/-! ## Channels that enter the lockout set -/

theorem notifyLockout (s : State) (c : ChannelId) : s.KeepsBolts (s.notifyLockout c) := by
  unfold State.notifyLockout; split
  · exact lockoutEntered s _
  · exact refl s

theorem startCountdown (s : State) (c : ChannelId) : s.KeepsBolts (s.startCountdown c) := by
  unfold State.startCountdown; dsimp only; split
  · refine (elsewhere ?_).trans (notifyLockout _ c)
    split <;> simp
  · refine elsewhere ?_
    split <;> simp

theorem firstAlarm (s : State) (c : ChannelId) (g : Group) : s.KeepsBolts (s.firstAlarm c g) := by
  have told : s.KeepsBolts ((s.setChannel c { s.channel c with state := .firstAlarm }).postSc .channelFirstAlarm c
    (some g.code)) := elsewhere (by simp)
  exact told.trans (notifyLockout _ c)

theorem offerLatch (s : State) (c : ChannelId) (g : Group) : s.KeepsBolts (s.offerLatch c g) := by
  unfold State.offerLatch; dsimp only; split
  · split
    · exact startCountdown s c
    · exact firstAlarm s c g
  · exact ite fun _ => startCountdown s c
  all_goals exact refl s

theorem detectorReport (s : State) (d : DevIx) (c : ChannelId) (g : Group) (level : DetectorLevel) :
    s.KeepsBolts (s.detectorReport d c g level) := by
  have reported : s.KeepsBolts (if (s.scDev d).level = some level then s
      else (s.postSc level.event c (some (addressOf d))).setScDev d { s.scDev d with level := some level }) := by
    split
    · exact refl s
    · exact elsewhere (by simp)
  unfold State.detectorReport; dsimp only
  refine reported.trans (ite fun _ => ?_)
  exact (elsewhere (setScDev_dc ..)).trans (offerLatch _ c g)

theorem manualRelease (s : State) (c : ChannelId) (source : Option DevIx) : s.KeepsBolts (s.manualRelease c source) := by
  have told : s.KeepsBolts (s.postSc .manualRelease c (some (manualSource source))) := elsewhere (by simp)
  unfold State.manualRelease; dsimp only; split
  case h_1 | h_2 => exact told.trans (startCountdown _ c)
  all_goals exact told

theorem releaseStationReport (s : State) (d : DevIx) (c : ChannelId) (operated : Bool) :
    s.KeepsBolts (s.releaseStationReport d c operated) := by
  have recorded : s.KeepsBolts (s.setScDev d { s.scDev d with release := some operated }) := elsewhere (by simp)
  unfold State.releaseStationReport; dsimp only; split
  · exact recorded.trans (manualRelease _ c _)
  · exact recorded

theorem latchNotice (s : State) (l : InputLine) : s.KeepsBolts (s.latchNotice l) := by
  unfold State.latchNotice; split
  · exact manualRelease s _ none
  · split
    · exact elsewhere (by simp)
    all_goals exact refl s
  all_goals exact refl s

theorem pressExpired (s : State) (l : InputLine) : s.KeepsBolts (s.pressExpired l) := by
  have spent (x : Line) : s.KeepsBolts (s.setLine l x) := elsewhere (by simp)
  unfold State.pressExpired; dsimp only; split
  · exact (spent _).trans (latchNotice _ l)
  all_goals exact refl s

/-! ## What doors of both kinds share -/

section
variable (s : State) (d : DoorId)

theorem setContact (c : Contact) : s.KeepsBolts (s.setContact d c) :=
  of_setDoor (setContact_dc s d c) fun lawful => lawful.congr rfl rfl rfl

theorem setOpen : s.KeepsBolts (s.setOpen d) := setDoor fun _ => boltLawful_of_state (.inr (.inl rfl))

theorem setHeldOpen : s.KeepsBolts (s.setHeldOpen d) :=
  of_setDoor (postDoor_dc ..) fun _ => boltLawful_of_state (.inr (.inr rfl))

theorem faultEndsOpen : s.KeepsBolts (s.faultEndsOpen d) :=
  (setOpen s d).frame ((unattributed_dc ..).trans (postDoor_dc ..))

/-- R105, R128: FORCED is entered from a state in which the bolt is thrown. -/
theorem judgeOpening (c : Contact) (handle : Bool) (shut : ¬ (s.door d).state.mayBeWithdrawn) :
    s.KeepsBolts (s.judgeOpening d c handle) := by
  have opened (r : EgressReason) : s.KeepsBolts ((s.setOpen d).unattributed d r) := (setOpen s d).frame (unattributed_dc ..)
  have forced : s.KeepsBolts (((s.setDoor d { s.door d with state := .forced }).postDoor .doorForced d).doorOpening d) :=
    of_setDoor ((doorOpening_dc ..).trans (postDoor_dc ..)) fun lawful => lawful.of_shut shut rfl rfl
  unfold State.judgeOpening; split
  · exact opened .contact
  all_goals
    split
    · exact opened .handle
    · exact forced

theorem confirmHeld (handle : Bool) : s.KeepsBolts (s.confirmHeld d handle) := by
  unfold State.confirmHeld; dsimp only; split
  · exact refl s
  · split
    · exact (setOpen s d).frame (by simp)
    · exact (setOpen s d).frame (by simp)

theorem refuseEscort (m : Message) (r : DenyReason) : s.KeepsBolts (s.refuseEscort d m r) := by
  unfold State.refuseEscort; split
  · exact refl s
  · exact of_setDoor (refuseAt_dc ..) fun lawful => lawful.congr rfl rfl rfl

end

/-! ## PLAIN doors -/

section
variable (s : State) (d : DoorId) (plain : (s.door d).entry.kind = .plain)
include plain

theorem lockPlain : s.KeepsBolts (s.lockDoor d) :=
  of_setDoor (driveOpt_dc ..) fun _ => boltLawful_of_plain plain

theorem unlockFor (p : Passage) : s.KeepsBolts (s.unlockFor d p) :=
  of_setDoor (driveOpt_dc ..) fun _ => boltLawful_of_plain plain

theorem plainContact (c : Contact) (opened handle : Bool) : s.KeepsBolts (s.plainContact d c opened handle) := by
  unfold State.plainContact; dsimp only; split
  case h_1 state =>
    exact ite fun _ => judgeOpening s d c handle (by simp [state, DoorState.mayBeWithdrawn])
  case h_2 => exact ite fun _ => confirmHeld s d handle
  case h_3 | h_4 | h_5 =>
    split
    · exact refl s
    · split
      · exact (lockPlain s d plain).frame (postDoor_dc ..)
      · exact lockPlain s d plain
  case h_6 =>
    split
    · exact faultEndsOpen s d
    · exact (lockPlain s d plain).frame (postDoor_dc ..)
  all_goals exact refl s

end
end State.KeepsBolts
end Sys2Proof.Machine
end

section
namespace Sys2Proof.Machine

theorem refuseEscort_entry (s : State) (d : DoorId) (m : Message) (r : DenyReason) :
    ((s.refuseEscort d m r).door d).entry = (s.door d).entry := by
  unfold State.refuseEscort; split
  · rfl
  · simp [State.refuseAt, postDoor_eq]

namespace State.KeepsBolts

/-! ## Grants, escorts and FAULT at PLAIN doors -/

section
variable (s : State) (d : DoorId) (plain : (s.door d).entry.kind = .plain)
include plain

/-- R98: the held passage and the escort are told, and the door, still a PLAIN one, goes to FAULT. -/
theorem plainFault : s.KeepsBolts (s.plainFault d) := by
  have faulted (u : State) (kept : s.KeepsBolts u) (entry : (u.door d).entry = (s.door d).entry) :
      s.KeepsBolts ((u.setDoor d { u.door d with state := .fault }).postDoor .doorFault d) :=
    kept.trans (of_setDoor (postDoor_dc ..) fun _ => boltLawful_of_plain (by rw [entry]; exact plain))
  have discarded : s.KeepsBolts (s.setDoor d { s.door d with unlock := none, held := none, passage := none }) :=
    setDoor fun _ => boltLawful_of_plain plain
  unfold State.plainFault; dsimp only; split
  · exact refl s
  · refine faulted _ (.trans ?_ (refuseEscort _ d _ _)) ((refuseEscort_entry ..).trans ?_)
    · split
      · exact discarded.frame (postUnused_dc ..)
      · exact discarded
    · split <;> simp [postUnused_eq]

end

theorem completePairing (s : State) (g : Grant) (e : Escort) : s.KeepsBolts (s.completePairing g e) :=
  of_setDoor ((display_dc ..).trans (display_dc ..)) fun lawful => lawful.congr rfl rfl rfl

theorem plainGrant (s : State) (g : Grant) (plain : (s.door g.door).entry.kind = .plain) :
    s.KeepsBolts (s.plainGrant g).1 := by
  have confirmed (list : List PassageCred) : s.KeepsBolts (s.confirmAtOnce g list false) := elsewhere (by simp)
  unfold State.plainGrant; dsimp only; split
  · split
    · exact (unlockFor s g.door plain _).trans (completePairing _ g _)
    · exact (unlockFor s g.door plain _).frame (display_dc ..)
  · split
    · split <;> exact elsewhere (by simp)
    · exact elsewhere (by simp)
  iterate 3
    split
    · exact (confirmed _).trans (completePairing _ g _)
    · exact (confirmed _).frame (display_dc ..)
  all_goals exact elsewhere (by simp)

theorem escortPresented (s : State) (d : DoorId) (e : Escort) : s.KeepsBolts (s.escortPresented d e) := by
  unfold State.escortPresented; dsimp only; split
  · exact of_setDoor ((grantEscort_dc ..).trans (display_dc ..)) fun lawful => lawful.congr rfl rfl rfl
  · split
    · split <;> exact elsewhere (by simp)
    · exact of_setDoor ((postDoor_dc ..).trans (display_dc ..)) fun lawful => lawful.congr rfl rfl rfl

/-- R103: a door in UNLOCKED is locked. -/
theorem unlockExpired (s : State) (d : DoorId) (unlocked : (s.door d).state = .unlocked) :
    s.KeepsBolts (s.unlockExpired d) := by
  have locked : s.KeepsBolts (s.lockDoor d) :=
    of_setDoor (driveOpt_dc ..) fun lawful => lawful.of_shut (by simp [unlocked, DoorState.mayBeWithdrawn]) rfl rfl
  unfold State.unlockExpired; dsimp only; split
  · exact locked.frame (postUnused_dc ..)
  · exact locked

/-! ## Custody presentations -/

section
variable (s : State) (c : Custody)

theorem firstCustodian (secured : (s.door c.door).state = .secured) : s.KeepsBolts (s.firstCustodian c) := by
  unfold State.firstCustodian; split
  · exact of_setDoor ((postDoor_dc ..).trans (showEntry_dc ..)) fun lawful =>
      lawful.of_shut (by simp [secured, DoorState.mayBeWithdrawn]) rfl rfl
  · exact elsewhere (refuseCustody_dc ..)

theorem startDelay (b : Budget) (waiting : (s.door c.door).state = .custodyWait) : s.KeepsBolts (s.startDelay c b) :=
  of_setDoor ((postDoor_dc ..).trans (showEntry_dc ..)) fun lawful =>
    lawful.of_shut (by simp [waiting, DoorState.mayBeWithdrawn]) rfl rfl

theorem secondCustodian (a : Custodian) (waiting : (s.door c.door).state = .custodyWait) :
    s.KeepsBolts (s.secondCustodian c a) := by
  unfold State.secondCustodian; dsimp only; split
  · exact elsewhere (showEntry_dc ..)
  · split
    · exact elsewhere (refuseCustody_dc ..)
    · split
      · exact (secure s c.door).frame (refuseAt_dc ..)
      · exact startDelay s c _ waiting

/-- R124: the bolt is withdrawn as the door becomes UNBOLTED. -/
theorem unboltForEntry : s.KeepsBolts (s.unboltForEntry c) := by
  unfold State.unboltForEntry; dsimp only
  rw [driveBolt_eq, setDoor_setDoor, setDoor_driveOpt, setDoor_setDoor]
  exact of_setDoor ((postDoor_dc ..).trans ((showEntry_dc ..).trans (driveOpt_dc ..))) fun _ => boltLawful_of_state (.inl rfl)

theorem confirmCustody : s.KeepsBolts (s.confirmCustody c) := by
  unfold State.confirmCustody; dsimp only; split
  · exact elsewhere (showEntry_dc ..)
  · split
    · exact unboltForEntry s c
    · exact elsewhere (refuseCustody_dc ..)

theorem custodyPresented : s.KeepsBolts (s.custodyPresented c) := by
  unfold State.custodyPresented; dsimp only; split
  case h_1 secured => exact firstCustodian s c secured
  case h_2 waiting =>
    split
    · exact secondCustodian s c _ waiting
    · exact refl s
  case h_4 => exact confirmCustody s c
  all_goals exact elsewhere (by simp)

end

/-! ## Exit grants -/

section
variable (s : State) (g : Grant)

/-- R127: the bolt is withdrawn as the door becomes UNBOLTED. -/
theorem unboltForExit : s.KeepsBolts (s.unboltForExit g) := by
  unfold State.unboltForExit; dsimp only
  rw [driveBolt_eq, setDoor_driveOpt, setDoor_setDoor]
  exact of_setDoor ((display_dc ..).trans (driveOpt_dc ..)) fun _ => boltLawful_of_state (.inl rfl)

theorem strongroomExit : s.KeepsBolts (s.strongroomExit g).1 := by
  unfold State.strongroomExit; dsimp only; split
  case h_1 => exact unboltForExit s g
  case h_2 | h_3 | h_4 => exact (cancelSequence s g.door .egress).trans (unboltForExit _ g)
  case h_5 =>
    split
    · split <;> exact elsewhere (by simp)
    · exact elsewhere (by simp)
  all_goals exact elsewhere (by simp)

theorem takeGrant : s.KeepsBolts (s.takeGrant g).1 := by
  unfold State.takeGrant; split
  · next plain => exact plainGrant s g plain
  · exact strongroomExit s g
  · exact elsewhere (by simp)

end

/-! ## Contacts, FAULT and the timers of a STRONGROOM -/

section
variable (s : State) (d : DoorId)

theorem strongroomContact (c : Contact) (opened handle : Bool) : s.KeepsBolts (s.strongroomContact d c opened handle) := by
  unfold State.strongroomContact; dsimp only; split
  case h_1 secured =>
    exact ite fun _ => judgeOpening s d c handle (by simp [secured, DoorState.mayBeWithdrawn])
  case h_2 | h_3 | h_4 =>
    refine ite fun _ => (cancelSequence s d .opened).trans (judgeOpening _ d c handle ?_)
    rw [cancelSequence_eq s d (by decide), door_cancelled]
    simp [DoorState.mayBeWithdrawn]
  case h_5 => exact ite fun _ => confirmHeld s d handle
  case h_6 | h_7 | h_8 =>
    split
    · exact refl s
    · split
      · exact (secure s d).frame (postDoor_dc ..)
      · exact secure s d
  case h_9 =>
    split
    · exact faultEndsOpen s d
    · exact (secure s d).frame (postDoor_dc ..)
  all_goals exact refl s

/-- R129: whatever the state was, the bolt command becomes THROWN before FAULT. -/
theorem strongroomFault : s.KeepsBolts (s.strongroomFault d) := by
  have faulted (u : State) (bolt : (u.door d).boltCommand = .thrown) :
      u.KeepsBolts ((u.setDoor d { u.door d with state := .fault }).postDoor .doorFault d) :=
    of_setDoor (postDoor_dc ..) fun _ => boltLawful_of_thrown bolt
  have ended : s.KeepsBolts (if (s.door d).state.inSequence then s.cancelSequence d .fault else s) :=
    ite fun _ => cancelSequence s d .fault
  unfold State.strongroomFault; dsimp only; split
  · exact refl s
  · refine .trans (.trans ?_ (setDoorThrown _ d _)) (faulted _ (by simp [State.setBolt]))
    split
    · exact ended.trans (of_setDoor (postUnused_dc ..) fun lawful => lawful.congr rfl rfl rfl)
    · exact ended

theorem doorUnitMissing : s.KeepsBolts (s.doorUnitMissing d) := by
  have told := setContact s d .unknown
  unfold State.doorUnitMissing; dsimp only; split
  · next plain => exact told.trans (plainFault _ d plain)
  · exact told.trans (strongroomFault _ d)
  · exact told

theorem compareBolt (b : Bolt) : s.KeepsBolts (s.compareBolt d b) := by
  unfold State.compareBolt; dsimp only
  refine ite fun _ => ?_
  split
  · split
    · exact refl s
    · exact of_setDoor ((driveOpt_dc ..).trans (postDoor_dc ..)) fun lawful => lawful.congr rfl rfl rfl
  · exact ite fun _ => of_setDoor (postDoor_dc ..) fun lawful => lawful.congr rfl rfl rfl

theorem contactChange (c : Contact) (handle : Bool) : s.KeepsBolts (s.contactChange d c handle) := by
  have told := setContact s d c
  unfold State.contactChange; dsimp only; split
  · next plain => exact told.trans (plainContact _ d plain _ _ handle)
  · exact told.trans (strongroomContact _ d _ _ handle)
  · exact told

theorem doorStatusReport (c : Contact) (b : Bolt) (handle : Bool) : s.KeepsBolts (s.doorStatusReport d c b handle) := by
  have reported : s.KeepsBolts (s.setDoor d { s.door d with bolt := some b }) :=
    of_setDoor rfl fun lawful => lawful.congr rfl rfl rfl
  unfold State.doorStatusReport; dsimp only; split
  · exact reported.trans (compareBolt _ d b)
  · exact (reported.trans (contactChange _ d c handle)).trans (compareBolt _ d b)

theorem unboltExpired : s.KeepsBolts (s.unboltExpired d) := by
  unfold State.unboltExpired; dsimp only; split
  · exact (secure s d).frame (postUnused_dc ..)
  · exact secure s d

theorem delayExpired (delay : (s.door d).state = .delay) : s.KeepsBolts (s.delayExpired d) := by
  unfold State.delayExpired; dsimp only; split
  · split
    · exact of_setDoor ((postDoor_dc ..).trans (showEntry_dc ..)) fun lawful =>
        lawful.of_shut (by simp [delay, DoorState.mayBeWithdrawn]) rfl rfl
    · exact cancelSequence s d _
  · exact refl s

theorem displayExpired : s.KeepsBolts (s.displayExpired d) :=
  of_setDoor (showEntry_dc ..) fun lawful => lawful.congr rfl rfl rfl

theorem settleEnds : s.KeepsBolts (s.setDoor d { s.door d with settle := none }) :=
  of_setDoor rfl fun lawful => lawful.congr rfl rfl rfl

end

/-! ## Presentations -/

section
variable (s : State) (p : Presentation)

theorem handGrant (list : List PassageCred) : s.KeepsBolts (s.handGrant p list) := by
  have answered := takeGrant s { reader := p.reader, door := p.door, direction := p.direction, list }
  unfold State.handGrant; dsimp only; split
  · next u taken =>
    rw [taken] at answered
    split <;> exact answered.frame (by simp)
  · next u dropped =>
    rw [dropped] at answered
    exact answered.frame (by simp)

theorem handOff (r : CredRecord) (duress : Bool) : s.KeepsBolts (s.handOff p r duress) := by
  unfold State.handOff; dsimp only; split
  · exact escortPresented s p.door _
  · split
    · exact custodyPresented s _
    · exact handGrant s p _

theorem checkZone (r : CredRecord) (duress : Bool) : s.KeepsBolts (s.checkZone p r duress) := by
  unfold State.checkZone; split
  · exact elsewhere (deny_dc ..)
  · split
    · exact elsewhere (denyFull_dc ..)
    · exact handOff s p r duress

theorem checkPassback (r : CredRecord) (duress : Bool) : s.KeepsBolts (s.checkPassback p r duress) := by
  unfold State.checkPassback; split
  · exact checkZone s p r duress
  · split
    · exact elsewhere (deny_dc ..)
    · exact (elsewhere (post_dc ..)).trans (checkZone _ p r duress)
    · exact checkZone s p r duress

theorem checkCredential (r : CredRecord) : s.KeepsBolts (s.checkCredential p r) := by
  unfold State.checkCredential; split
  · split <;> exact elsewhere (by simp)
  · split
    · exact elsewhere (deny_dc ..)
    · exact (elsewhere (duressNotice_dc ..)).trans (checkPassback _ p r true)
    · exact checkPassback s p r false

theorem decideExit (a : Answer) : s.KeepsBolts (s.decideExit p a) := by
  unfold State.decideExit; split
  · exact elsewhere (deny_dc ..)
  · exact handGrant s p _

theorem decidePresentation (a : Answer) : s.KeepsBolts (s.decidePresentation p a) := by
  unfold State.decidePresentation; split
  · unfold State.decideEntry; split
    · exact elsewhere (deny_dc ..)
    · split
      case h_1 => exact checkCredential s p _
      all_goals exact elsewhere (by simp)
  · exact decideExit s p a

theorem listFull : s.KeepsBolts (s.listFull p) := by
  unfold State.listFull; split
  · exact elsewhere (deny_dc ..)
  · exact decideExit s p .busy

theorem waitForStore : s.KeepsBolts (s.waitForStore p) := by
  unfold State.waitForStore; split
  · exact (elsewhere (setCsc_dc ..)).trans (listFull _ p)
  · exact elsewhere rfl

theorem present : s.KeepsBolts (s.present p) := by
  have looked (c : Csc) : s.KeepsBolts (s.setCsc c) := elsewhere (setCsc_dc ..)
  unfold State.present; split
  · exact elsewhere (deny_dc ..)
  · split
    · exact decidePresentation s p .notEnrolled
    · split
      · exact (looked _).trans (waitForStore _ p)
      · exact (looked _).trans (decidePresentation _ p _)

theorem arrive : s.KeepsBolts (s.arrive p) := by
  unfold State.arrive; split
  · exact elsewhere (display_dc ..)
  · split
    · exact listFull s p
    · exact present s p

end

theorem badgeReport (s : State) (reader : DevIx) (door : DoorId) (side : Side) (number issue : Nat) (pin : Option Nat) :
    s.KeepsBolts (s.badgeReport reader door side number issue pin) :=
  (elsewhere (badgeCheckIn_dc s door number)).trans (arrive _ _)

theorem resume (s : State) (reader : DevIx) (a : Answer) : s.KeepsBolts (s.resume reader a) := by
  unfold State.resume; split
  · next p _ =>
    have dropped : s.KeepsBolts { s with pe := { s.pe with waiting := s.pe.waiting.filter (fun q => q.reader != reader) } } :=
      elsewhere rfl
    exact dropped.trans (decidePresentation _ p a)
  · exact refl s

/-! ## Loop frames -/

theorem route (s : State) (d : DevIx) (r : Report) : s.KeepsBolts (s.route d r) := by
  cases r with
  | badge door side number issue pin => exact badgeReport s d door side number issue pin
  | doorStatus door contact bolt handle => exact doorStatusReport s door contact bolt handle
  | detector c g level => exact detectorReport s d c g level
  | abortStation c held => exact elsewhere (setAbortStation_dc ..)
  | releaseStation c operated => exact releaseStationReport s d c operated
  | pendant z id kind => exact elsewhere (pendantReport_dc ..)
  | heartbeat health => exact elsewhere (healthReport_dc ..)

theorem deviceFrame (s : State) (d : DevIx) (arrival : LoopEnd) (f : Frame) : s.KeepsBolts (s.deviceFrame d arrival f) := by
  have forwarded : s.KeepsBolts (if (s.device d).report then (s.acceptFrame d arrival f).forward { frame := f, arrival }
      else s.acceptFrame d arrival f) := by
    split <;> exact elsewhere (by simp)
  unfold State.deviceFrame; dsimp only; split
  · exact elsewhere (foreignFrame_dc ..)
  · split
    · exact refl s
    · split
      · exact forwarded.trans (route _ d _)
      · exact forwarded

theorem loopBytes (s : State) (arrival : LoopEnd) (bytes : List Byte) : s.KeepsBolts (s.loopBytes arrival bytes) := by
  unfold State.loopBytes; split
  · refine (elsewhere (frameHeard_dc ..)).trans ?_
    unfold State.classify; split
    · exact ite fun _ => elsewhere (sweepEnds_dc ..)
    · split
      · exact ite fun _ => deviceFrame _ _ arrival _
      · exact refl _
  · exact refl s

theorem ownerOfMissing (s : State) (d : DevIx) (r : DevRole) : s.KeepsBolts (s.ownerOfMissing d r) := by
  unfold State.ownerOfMissing; split
  · exact doorUnitMissing s _
  all_goals exact elsewhere (by simp)

theorem deviceGone (s : State) (d : DevIx) : s.KeepsBolts (s.deviceGone d) := by
  have told : s.KeepsBolts ((s.setDevice d { s.device d with presence := .missing }).postFc .deviceMissing d) :=
    elsewhere (by simp)
  exact told.trans (ownerOfMissing _ d _)

end State.KeepsBolts
end Sys2Proof.Machine
end

section
namespace Sys2Proof.Machine
namespace State.KeepsBolts

/-! ## RESTART -/

/-- R115, R136: every door is bolted anew. -/
theorem restartDoor (s : State) (d : DoorId) : s.KeepsBolts (s.restartDoor d) := by
  have restarted : s.KeepsBolts (s.setDoor d (s.door d).restart) := setDoor fun _ => boltLawful_of_thrown rfl
  unfold State.restartDoor; dsimp only; split
  · exact restarted
  · exact restarted.frame (by simp)
  · exact (restarted.frame (scDoorNotice_dc ..)).trans (throwBolt _ d)

theorem restartSau {s zones : State} (h : allZones.foldl State.restartZone s = zones) (sp : Sp) :
    s.KeepsBolts (State.reannounce { zones with sp }) := by
  have dc : zones.dc = s.dc := h ▸ foldl_keeps State.dc State.restartZone (by simp) allZones s
  exact elsewhere ((reannounce_dc _).trans dc)

theorem restartAll (s : State) : s.KeepsBolts s.restartAll := by
  have store : s.KeepsBolts { s.restartedFc.refreshAfterHours.restartCsc with pe := { waiting := [] } } :=
    elsewhere (by simp [State.restartedFc])
  have doors : s.KeepsBolts s.restartedDoors := store.trans (foldl restartDoor allDoors _)
  have silenced : s.KeepsBolts s.restartedSounders := doors.frame (toneTo_dc ..)
  rw [restartAll_eq]
  exact silenced.trans (restartSau rfl _)

theorem testRestart (s : State) : s.KeepsBolts s.testRestart := by
  have tested : s.KeepsBolts { s with sp := { s.sp with restartWaiting := false } } := elsewhere rfl
  unfold State.testRestart; dsimp only
  refine ite fun _ => ?_
  split
  · exact (tested.trans (restartAll _)).frame (completeReply_dc ..)
  · exact tested.frame (completeReply_dc ..)

/-! ## The store -/

theorem endWrite (s : State) (w : WriteRecord) (e : WriteEnd) : s.KeepsBolts (s.endWrite w e) := by
  have ended : s.KeepsBolts (((s.setCsc ({ s.csc with write := none }.handOn)).completeReply .write (e.reply w) []).postWriteEnd
    w e) := elsewhere (by simp)
  exact ended.trans (testRestart _)

theorem answerWaiter (s : State) (a : Waiter → Answer) (w : Waiter) : s.KeepsBolts (s.answerWaiter a w) := by
  unfold State.answerWaiter; split
  · exact resume s _ _
  · exact elsewhere (answerLook_dc ..)

/-- R53, R59: the waiters of a request are answered, and it leaves the queue. -/
theorem fetchAnswered (s : State) (a : Waiter → Answer) (l : List Waiter) :
    s.KeepsBolts (l.foldl (State.answerWaiter · a) s).leaveQueue :=
  (foldl (fun t w => answerWaiter t a w) l s).frame (leaveQueue_dc _)

theorem readEndsFaulted (s : State) : s.KeepsBolts s.readEndsFaulted := by
  have fault (r : FetchRequest) : s.KeepsBolts (s.fetchFault r) :=
    (elsewhere (t := (s.postStoreFault r.named .fetch).setCsc _) (by simp)).trans (fetchAnswered _ _ r.waiters)
  unfold State.readEndsFaulted; split
  case h_2 =>
    split
    · split
      · exact elsewhere (by simp)
      · exact fault _
    · exact refl s
  case h_3 =>
    split
    · split
      · split
        · exact elsewhere (by simp)
        · exact endWrite s _ _
      all_goals exact refl s
    · exact refl s
  case h_4 => split <;> exact elsewhere (by simp)
  case h_1 => exact refl s

theorem readEndsGood (s : State) (slots : List (List Byte)) : s.KeepsBolts (s.readEndsGood slots) := by
  have good (r : FetchRequest) : s.KeepsBolts (s.fetchGood r slots) :=
    (elsewhere (setCsc_dc ..)).trans (fetchAnswered _ _ r.waiters)
  unfold State.readEndsGood; split
  case h_2 =>
    split
    · exact good _
    · exact refl s
  case h_3 =>
    split
    · split
      · split
        · exact elsewhere (setStage_dc ..)
        · exact endWrite s _ _
      all_goals exact refl s
    · exact refl s
  case h_1 => exact refl s
  case h_4 => exact elsewhere (setCsc_dc ..)

theorem readCompletes (s : State) (slots : List (List Byte)) : s.KeepsBolts (s.readCompletes slots) := by
  unfold State.readCompletes; split
  · exact readEndsFaulted s
  · exact readEndsGood s slots

theorem slotWriteFails (s : State) : s.KeepsBolts s.slotWriteFails := by
  unfold State.slotWriteFails; split
  · split
    · exact endWrite s _ _
    all_goals exact refl s
  · exact refl s

theorem readBackEnds (s : State) (equal : WriteRecord → Bool) : s.KeepsBolts (s.readBackEnds equal) := by
  unfold State.readBackEnds; split
  · split
    · exact endWrite s _ _
    all_goals exact refl s
  · exact refl s

/-! ## The tables -/

/-- R96, R117, R135: a written door starts with its bolt command THROWN. -/
theorem storeDoor (s : State) (d : DoorId) (e : DoorEntry) : s.KeepsBolts (s.storeDoor d e) := by
  have written : s.KeepsBolts (s.setDoor d (s.writtenDoor (s.door d) e)) := setDoor fun _ => boltLawful_of_thrown rfl
  unfold State.storeDoor; dsimp only
  refine frame ?_ (scDoorNotice_dc ..)
  split
  · exact written
  · split
    · exact written
    · exact written.frame (driveOpt_dc ..)
  · split
    · exact written.trans (setThrown _ d)
    · exact written.trans (throwBolt _ d)

theorem writeDoor (s : State) (d : DoorId) (b : List Byte) : s.KeepsBolts (s.writeDoor d b).1 := by
  unfold State.writeDoor; dsimp only; split
  · split
    · exact refl s
    · split
      · exact storeDoor s d _
      · exact refl s
  · exact refl s

theorem writeEntry (s : State) (t : TableId) (i : Nat) (b : List Byte) : s.KeepsBolts (s.writeEntry t i b).1 := by
  unfold State.writeEntry; split
  case h_2 =>
    split
    · exact writeDoor s _ b
    · exact refl s
  case h_1 | h_3 | h_4 | h_5 | h_6 => split <;> exact elsewhere (by simp)
  all_goals exact refl s

theorem writeAll (t : TableId) (l : List (List Byte)) (r : State × List ReplyCode) :
    r.1.KeepsBolts (l.foldl (Machine.writeNext t) r).1 := by
  have next (r : State × List ReplyCode) (b : List Byte) : r.1.KeepsBolts (Machine.writeNext t r b).1 := by
    unfold Machine.writeNext; dsimp only; split
    · exact (writeEntry r.1 t r.1.sp.cursorIndex b).frame (by simp)
    · exact refl r.1
  induction l generalizing r with
  | nil => exact refl r.1
  | cons b l ih => exact (next r b).trans (ih _)

/-! ## The management commands -/

theorem cmdTableWrite (entries : List Byte) (s : State) : s.KeepsBolts (Machine.cmdTableWrite entries s).1 := by
  unfold Machine.cmdTableWrite; dsimp only; split
  · exact refl s
  · split
    · exact refl s
    · exact writeAll _ _ (s, [])

theorem stationGrant (s : State) (d : DoorId) (plain : (s.door d).entry.kind = .plain) :
    s.KeepsBolts (s.stationGrant d).1 := by
  unfold State.stationGrant; dsimp only; split
  · exact (unlockFor s d plain _).frame (postDoor_dc ..)
  · exact elsewhere (by simp)
  all_goals exact refl s

theorem cmdDoorGrant (door : Byte) (s : State) : s.KeepsBolts (Machine.cmdDoorGrant door s).1 := by
  unfold Machine.cmdDoorGrant; split
  · exact refl s
  · split
    · exact refl s
    · exact refl s
    · next plain =>
      split
      · exact refl s
      · exact stationGrant s _ plain

theorem cmdStrongroomCancel (door : Byte) (s : State) : s.KeepsBolts (Machine.cmdStrongroomCancel door s).1 := by
  unfold Machine.cmdStrongroomCancel; split
  · exact refl s
  · dsimp only; split
    · exact refl s
    · split
      · exact cancelSequence s _ .station
      · split
        · exact rebolt s _ .station
        · exact refl s

theorem cmdRestart (s : State) : s.KeepsBolts (Machine.cmdRestart s).1 := by
  unfold Machine.cmdRestart; split
  · exact refl s
  · split
    · exact elsewhere rfl
    · rw [yes_fst]; exact restartAll s

/-- R201: every command that a code and parameters name. -/
theorem bodyOf (code : Byte) (l : List Byte) (body : Body) (h : Machine.bodyOf code l = some body) :
    ∀ s : State, s.KeepsBolts (body s).1 :=
  bodyOf_all (fun body => ∀ s : State, s.KeepsBolts (body s).1)
    (hTablePoint := fun _ _ _ => elsewhere (cmdTablePoint_dc ..))
    (hTableRead := fun _ _ => elsewhere (cmdTableRead_dc ..))
    (hTableWrite := cmdTableWrite)
    (hCredPut := fun _ _ => elsewhere (cmdCredPut_dc ..))
    (hCredDrop := fun _ _ => elsewhere (cmdCredDrop_dc ..))
    (hCredLook := fun _ _ => elsewhere (cmdCredLook_dc ..))
    (hHolidayAdd := fun _ _ => elsewhere (cmdHolidayAdd_dc ..))
    (hHolidayDrop := fun _ _ => elsewhere (cmdHolidayDrop_dc ..))
    (hClockSet := fun _ _ _ _ => elsewhere (cmdClockSet_dc ..))
    (hZoneVerifyClear := fun _ _ => elsewhere (cmdZoneVerifyClear_dc ..))
    (hZoneVerifyKeep := fun _ _ => elsewhere (cmdZoneVerifyKeep_dc ..))
    (hZoneUnknown := fun _ _ => elsewhere (cmdZoneUnknown_dc ..))
    (hChannelReset := fun _ _ => elsewhere (cmdChannelReset_dc ..))
    (hChannelLockout := fun _ _ => elsewhere (cmdChannelLockout_dc ..))
    (hChannelRestore := fun _ _ => elsewhere (cmdChannelRestore_dc ..))
    (hAlarmAck := fun _ _ => elsewhere (cmdAlarmAck_dc ..))
    (hAlarmClear := fun _ _ => elsewhere (cmdAlarmClear_dc ..))
    (hAlarmClearZone := fun _ _ => elsewhere (cmdAlarmClearZone_dc ..))
    (hDoorGrant := cmdDoorGrant)
    (hStrongroomCancel := cmdStrongroomCancel)
    (hStatus := fun _ => elsewhere (cmdStatus_dc ..))
    (hRestart := cmdRestart)
    code l body h

theorem takeCommand {s : State} {body : Body} (h : s.KeepsBolts (body s).1) (seq : BitVec 4) (code : Byte) :
    s.KeepsBolts (s.takeCommand seq code body) := by
  unfold State.takeCommand; split
  · exact elsewhere (markLoss_dc ..)
  · split
    · exact elsewhere (placeReply_dc ..)
    · exact h.frame (placeReply_dc ..)

/-! ## Station frames -/

theorem stationFrameTaken (s : State) (f : Frame) : s.KeepsBolts (s.stationFrameTaken f) := by
  unfold State.stationFrameTaken; split
  · exact refl s
  · split
    · refine ite fun _ => ?_
      split
      · exact takeCommand (refl s) _ 0
      · next code l _ =>
        refine takeCommand ?_ _ code
        cases h : Machine.bodyOf code l with
        | none => exact refl s
        | some body => exact bodyOf code l body h s
    · exact ite fun _ => elsewhere (takeLoopBound_dc ..)

theorem takeIntake (s : State) : s.KeepsBolts s.takeIntake :=
  (elsewhere (setIntake_dc s [])).trans (foldl stationFrameTaken _ _)

theorem rxByte (s : State) (b : Byte) : s.KeepsBolts (s.rxByte b) := elsewhere (rxByte_keeps State.dc (by simp) (by simp) s b)

theorem rxBytes (s : State) (l : List Byte) : s.KeepsBolts (s.rxBytes l) := (foldl rxByte l s).trans (takeIntake _)

theorem rxGap (s : State) (b : Byte) : s.KeepsBolts (s.rxGap b) :=
  (elsewhere (setRx_dc s [])).trans ((rxByte _ b).trans (takeIntake _))

/-! ## Every command -/

/-- A command other than a power-on reset does its own work, and both transmitters take what is next. -/
theorem of_exec (c : Instr) (s : State) (reset : ∀ b, c ≠ .powerOnReset b) :
    ∃ u : State, exec c s = u.done ∧ s.KeepsBolts u := by
  cases c with
  | powerOnReset b => exact absurd rfl (reset b)
  | clockAdvance => exact ⟨s.tickClock.refreshAfterHours.tickChannels, rfl, elsewhere (by simp)⟩
  | timebaseDegraded | timebaseRestored | crystalGapWhileDegraded => exact ⟨_, rfl, ite fun _ => elsewhere (by simp)⟩
  | loopFrameReceived arrival ms bytes => exact ⟨_, rfl, (elsewhere (reachMs_dc ..)).trans (loopBytes _ arrival bytes)⟩
  | deviceMissing d => exact ⟨_, rfl, ite fun _ => deviceGone s d⟩
  | stationFrameReceived bytes => exact ⟨_, rfl, rxBytes s bytes⟩
  | stationFrameGap next => exact ⟨_, rfl, rxGap s next⟩
  | tableWrite seq entries => exact ⟨_, rfl, takeCommand (cmdTableWrite entries s) seq _⟩
  | doorGrant seq door => exact ⟨_, rfl, takeCommand (cmdDoorGrant door s) seq _⟩
  | strongroomCancel seq door => exact ⟨_, rfl, takeCommand (cmdStrongroomCancel door s) seq _⟩
  | restart seq => exact ⟨_, rfl, takeCommand (cmdRestart s) seq _⟩
  | tablePoint seq | tableRead seq | credPut seq | credDrop seq | credLook seq | holidayAdd seq | holidayDrop seq
  | clockSet seq | zoneVerifyClear seq | zoneVerifyKeep seq | zoneUnknown seq | channelReset seq | channelLockout seq
  | channelRestore seq | alarmAck seq | alarmClear seq | alarmClearZone seq | status seq =>
    exact ⟨_, rfl, takeCommand (elsewhere (by simp)) seq _⟩
  | bucketReadComplete slots => exact ⟨_, rfl, readCompletes s slots⟩
  | bucketReadTimeout => exact ⟨_, rfl, readEndsFaulted s⟩
  | slotWriteTimeout => exact ⟨_, rfl, slotWriteFails s⟩
  | readBackComplete | readBackTimeout => exact ⟨_, rfl, readBackEnds s _⟩
  | unlockTimerExpiry d => exact ⟨_, rfl, ite fun h => unlockExpired s d h.1⟩
  | heldOpenTimerExpiry d => exact ⟨_, rfl, ite fun _ => setHeldOpen s d⟩
  | pairingTimerExpiry d => exact ⟨_, rfl, ite fun _ => refuseEscort s d _ _⟩
  | custodyPairingExpiry d | confirmTimerExpiry d => exact ⟨_, rfl, ite fun _ => cancelSequence s d _⟩
  | displayTimerExpiry d => exact ⟨_, rfl, ite fun _ => displayExpired s d⟩
  | delayTimerExpiry d => exact ⟨_, rfl, ite fun h => delayExpired s d h.1⟩
  | strongroomUnlockExpiry d => exact ⟨_, rfl, ite fun _ => unboltExpired s d⟩
  | boltSettleExpiry d => exact ⟨_, rfl, ite fun _ => settleEnds s d⟩
  | pressTimerExpiry line => exact ⟨_, rfl, pressExpired s line⟩
  | sweepDue | sweepUnreturned | silenceTimerExpiry | countdownExpiry | driveTimerExpiry | valveConfirmTimeout
  | soakTimerExpiry | toneRefresh | driveFault | driveFaultCleared | intervalTimerExpiry | promptRepeat | graceTimerExpiry =>
    exact ⟨_, rfl, ite fun _ => elsewhere (by simp)⟩
  | settleTimerExpiry | loopFrameSent | loopBoundStationFrame | stationFrameSent | slotWriteComplete | driveReadbackChange
  | levelLineChange | pulseLineChange | recoveryTimerExpiry | stationLenOver40 => exact ⟨_, rfl, elsewhere (by simp)⟩

end State.KeepsBolts

/-- R114, R212: after a power-on reset no bolt is WITHDRAWN. -/
theorem powerOn_boltOnlyOpen (s : State) (b : Bool) : (s.powerOn b).boltOnlyOpen := by
  have doors : (s.powerOn b).dc = State.reset.dc := by cases b <;> simp [State.powerOn]
  refine (boltOnlyOpen_iff _).2 fun d => boltLawful_of_thrown ?_
  rw [State.door, doors]
  exact congrArg Door.boltCommand (get_replicate Door.powerOn d)

/-- R117: law 6 outlasts every command. -/
theorem exec_boltOnlyOpen {c : Instr} {s t : State} (h : exec c s = .next t) (lawful : s.boltOnlyOpen) : t.boltOnlyOpen := by
  by_cases reset : ∃ b, c = .powerOnReset b
  · obtain ⟨b, rfl⟩ := reset
    obtain rfl : (s.powerOn b).settle = t := Host.Outcome.next.inj h
    exact fun d => State.KeepsBolts.elsewhere (settle_dc _) d (powerOn_boltOnlyOpen s b d)
  · obtain ⟨u, done, keeps⟩ := State.KeepsBolts.of_exec c s (not_exists.1 reset)
    obtain rfl : u.settle = t := Host.Outcome.next.inj (done.symm.trans h)
    exact fun d => keeps.frame (settle_dc _) d (lawful d)

end Sys2Proof.Machine
end

section
namespace Sys2Proof.Machine

/-! ## A channel stays in the lockout set while alarms are raised -/

/-- R85: the zone of each channel, and whether it stands in the lockout set. -/
def State.lockouts (s : State) (c : ChannelId) : Option ZoneId × Bool :=
  ((s.channel c).zone, (s.channel c).state.inLockoutSet)

/-- R85: check 10 is read from this. -/
theorem zoneLockedOut_congr {s t : State} (h : t.lockouts = s.lockouts) (z : ZoneId) :
    t.zoneLockedOut z = s.zoneLockedOut z := by
  have zone (c) : (t.channel c).zone = (s.channel c).zone := congrArg Prod.fst (congrFun h c)
  have inSet (c) : (t.channel c).state.inLockoutSet = (s.channel c).state.inLockoutSet := congrArg Prod.snd (congrFun h c)
  have bound : t.channelOf z = s.channelOf z := by simp only [State.channelOf, zone]
  simp only [State.zoneLockedOut, bound, inSet]

section
variable (s : State)

theorem lockouts_congr {t : State} (h : t.sc.channels = s.sc.channels) : t.lockouts = s.lockouts := by
  funext c
  simp only [State.lockouts, State.channel, h]

@[simp] theorem lockouts_post (kind : EventKind) (door : Option DoorId) (zone : Option ZoneId) (channel : Option ChannelId)
    (subject : Option Subject) (reason : Option Nat) :
    (s.post kind door zone channel subject reason).lockouts = s.lockouts := rfl
@[simp] theorem lockouts_postSc (kind : EventKind) (c : ChannelId) (reason : Option Nat) :
    (s.postSc kind c reason).lockouts = s.lockouts := rfl

/-- A channel is written in the same zone, and on the same side of the lockout set. -/
theorem lockouts_setChannel {c : ChannelId} {x : Channel} (zone : x.zone = (s.channel c).zone)
    (inSet : x.state.inLockoutSet = (s.channel c).state.inLockoutSet) : (s.setChannel c x).lockouts = s.lockouts := by
  funext j
  rw [State.lockouts, channel_setChannel]
  split
  · next here => subst here; exact Prod.ext zone inSet
  · rfl

/-- R177: a change of pattern writes the refresh of the channel alone. -/
@[simp] theorem lockouts_changeTone (c : ChannelId) (old : Tone) : (s.changeTone c old).lockouts = s.lockouts := by
  by_cases same : (s.channel c).state.tone = old
  · rw [State.changeTone, if_pos same]
  · rw [changeTone_eq same]
    exact (lockouts_congr _ (congrArg Sc.channels (patternTold_sc ..))).trans (lockouts_setChannel s rfl rfl)

@[simp] theorem lockouts_postJoining (c : ChannelId) (new old : HoldSet) : (s.postJoining c new old).lockouts = s.lockouts :=
  foldl_keeps State.lockouts _ (by simp) _ _

/-- R160, R166, R167: a recomputation moves a channel between PRE_DISCHARGE and HELD alone. -/
@[simp] theorem lockouts_recompute (c : ChannelId) : (s.recompute c).lockouts = s.lockouts := by
  have recorded (h : HoldSet) : (s.setChannel c { s.channel c with hold := h }).lockouts = s.lockouts :=
    lockouts_setChannel s rfl rfl
  unfold State.recompute; dsimp only; split
  case h_1 counting =>
    split
    · exact recorded _
    · rw [State.holdCountdown, lockouts_postSc, lockouts_changeTone, setChannel_setChannel]
      exact lockouts_setChannel s (by simp) (by simp [counting, ChannelState.inLockoutSet])
  case h_2 held =>
    split
    · rw [State.resumeCountdown, lockouts_postSc, lockouts_changeTone, setChannel_setChannel]
      exact lockouts_setChannel s (by simp) (by simp [held, ChannelState.inLockoutSet])
    · rw [setChannel_setChannel]
      have marked (x : Channel) (zone : x.zone = (s.channel c).zone) (state : x.state = (s.channel c).state) :
          (s.setChannel c x).lockouts = s.lockouts := lockouts_setChannel s zone (congrArg _ state)
      split
      · exact marked _ (by simp) (by simp)
      · exact marked _ (by simp) (by simp)
  case h_3 => exact (lockouts_postJoining ..).trans (recorded _)
  case h_4 =>
    split
    · exact recorded _
    · exact (lockouts_postJoining ..).trans (recorded _)
  all_goals exact recorded _

@[simp] theorem lockouts_scAlarmNotice (z : ZoneId) (present : Bool) : (s.scAlarmNotice z present).lockouts = s.lockouts := by
  unfold State.scAlarmNotice State.recomputeZone; split
  · exact lockouts_recompute _ _
  · rfl

/-- R185 to R187: a raise request leaves every channel where check 10 finds it. -/
@[simp] theorem lockouts_raiseAlarm (i : AlarmIdentity) (z : ZoneId) (door : Option DoorId) :
    (s.raiseAlarm i z door).lockouts = s.lockouts := by
  have noticed (u : State) : (s.alarmNotices u).lockouts = u.lockouts :=
    foldl_keeps State.lockouts _ (fun t z => by split <;> simp) _ _
  exact (noticed _).trans (lockouts_congr s (by rw [takeRaise_sc]))

end

/-! ## Entries into a zone that is locked out -/

/-- DC and RU hold what they held. -/
def State.keepsDoorsAndRosters (s t : State) : Prop := t.dc = s.dc ∧ t.ru = s.ru

section
variable {s : State} {p : Presentation} (locked : s.zoneLockedOut (s.door p.door).entry.inner = true)
include locked

/-- R85: check 10 denies the entry. -/
theorem checkZone_lockedOut (r : CredRecord) (duress : Bool) : s.checkZone p r duress = s.deny p .suppression := if_pos locked

theorem checkPassback_lockedOut (r : CredRecord) (duress : Bool) : s.keepsDoorsAndRosters (s.checkPassback p r duress) := by
  have denied : s.keepsDoorsAndRosters (s.checkZone p r duress) := by
    rw [checkZone_lockedOut locked]
    exact ⟨deny_dc .., deny_ru ..⟩
  unfold State.checkPassback; split
  · exact denied
  · next z _ =>
    split
    · exact ⟨deny_dc .., deny_ru ..⟩
    · rw [checkZone_lockedOut (s := s.post .passbackSoft (door := some p.door) (zone := some z)
        (subject := some (.credential p.number))) locked]
      exact ⟨deny_dc .., deny_ru ..⟩
    · exact denied

/-- R83, R85: a duress alarm before check 10 opens no zone. -/
theorem checkCredential_lockedOut (r : CredRecord) : s.keepsDoorsAndRosters (s.checkCredential p r) := by
  have duress : s.keepsDoorsAndRosters ((s.duressNotice p).checkPassback p r true) := by
    have still : (s.duressNotice p).zoneLockedOut ((s.duressNotice p).door p.door).entry.inner = true := by
      rw [State.door, duressNotice_dc]
      exact (zoneLockedOut_congr (lockouts_raiseAlarm s _ _ _) _).trans locked
    obtain ⟨dc, ru⟩ := checkPassback_lockedOut still r true
    exact ⟨dc.trans (duressNotice_dc ..), ru.trans (duressNotice_ru ..)⟩
  unfold State.checkCredential; split
  · split
    · exact ⟨denyLost_dc .., denyLost_ru ..⟩
    · exact ⟨deny_dc .., deny_ru ..⟩
  · split
    · exact ⟨deny_dc .., deny_ru ..⟩
    · exact duress
    · exact checkPassback_lockedOut locked r false

theorem decideEntry_lockedOut (a : Answer) : s.keepsDoorsAndRosters (s.decideEntry p a) := by
  unfold State.decideEntry; split
  · exact ⟨deny_dc .., deny_ru ..⟩
  · split
    case h_1 => exact checkCredential_lockedOut locked _
    case h_5 => exact ⟨rfl, rfl⟩
    all_goals exact ⟨deny_dc .., deny_ru ..⟩

end

end Sys2Proof.Machine

section
open Sys2Proof Sys2Proof.Machine

/-- Settles O36: every command keeps law 6 at every door, and check 10 denies an entry before it reaches DC or RU. -/
theorem boltsAndLockoutHold : Obligations.BoltsAndLockoutHold := by
  refine ⟨fun s t lawful h => ?_, fun s p a c entry channel inSet => ?_⟩
  · exact step_keeps_of_exec (fun _ _ lawful => lawful) (fun _ _ _ h lawful => exec_boltOnlyOpen h lawful) h lawful
  · have locked := (lockedOut_iff s (s.door p.door).entry.inner).2 ⟨c, channel, inSet⟩
    rw [State.decidePresentation, entry]
    exact decideEntry_lockedOut locked a

end
end

section
namespace Sys2Proof.Machine

/-! ## An exit grant at a STRONGROOM -/

/-- R89, R90: what PE hands to DC at an exit. -/
def Presentation.exitGrant (p : Presentation) (list : List PassageCred) : Grant :=
  { reader := p.reader, door := p.door, direction := .exit, list }

/-- R99: the passage record of an exit through a door. -/
def Door.exitPassage (x : Door) (list : List PassageCred) : Passage :=
  { direction := .exit, outer := x.entry.outer, inner := x.entry.inner, list, custodian := false }

/-- R90: `u` once the reader has shown GRANTED and GRANT is posted. -/
def State.exitGranted (s : State) (p : Presentation) (list : List PassageCred) (u : State) : State :=
  (u.drive p.reader (.display .granted)).tells (s.grantTold p (list.head?.map PassageCred.number))

/-- R127: a door as its bolt is withdrawn at tick `now` for a passage. -/
def Door.unbolted (x : Door) (p : Passage) (now : Nat) : Door :=
  { x with
    boltCommand := .withdrawn, mismatch := false, settle := some (now + 5), passage := some p
    unlock := some (now + x.entry.unlockWindow), state := .unbolted }

/-- R127: the bolt of a door is withdrawn for a passage. -/
def State.withdrawnFor (s : State) (d : DoorId) (p : Passage) : State :=
  (s.setDoor d ((s.door d).unbolted p s.csu.ticks)).driveOpt (s.door d).entry.unit .boltWithdraw

theorem unboltForExit_eq (s : State) (g : Grant) :
    s.unboltForExit g = (s.withdrawnFor g.door ((s.door g.door).exitPassage g.list)).display g.reader .granted := by
  simp [State.unboltForExit, driveBolt_eq, setDoor_driveOpt, State.withdrawnFor, Door.unbolted, Door.exitPassage,
    Door.passageFor, State.after, Bolt.output]

/-- R127: from SECURED the bolt is withdrawn. -/
theorem strongroomExit_secured {s : State} (g : Grant) (secured : (s.door g.door).state = .secured) :
    s.strongroomExit g =
      ((s.withdrawnFor g.door ((s.door g.door).exitPassage g.list)).display g.reader .granted, true) := by
  simp only [State.strongroomExit, secured, unboltForExit_eq]

/-- R127: a sequence that runs is cancelled before. -/
theorem strongroomExit_sequence {s : State} (g : Grant) (sequence : (s.door g.door).state.inSequence = true) :
    s.strongroomExit g =
      (((s.cancelled g.door (.denied .door) 4).withdrawnFor g.door ((s.door g.door).exitPassage g.list)).display g.reader
        .granted, true) := by
  have cancelled : s.cancelSequence g.door .egress = s.cancelled g.door (.denied .door) 4 := cancelSequence_eq s _ (by decide)
  have through : ((s.cancelled g.door (.denied .door) 4).door g.door).exitPassage g.list =
      (s.door g.door).exitPassage g.list := by
    rw [door_cancelled]
    rfl
  rcases (inSequence_iff _).1 sequence with state | state | state <;>
    simp only [State.strongroomExit, state, cancelled, unboltForExit_eq, through]

section
variable {s : State} {p : Presentation} {a : Answer} {list : List PassageCred}

/-- R90: the passage list of an exit holds the credential found, or no one. -/
theorem exitList_eq (h : (∃ b, a = .found b ∧ list = [{ number := p.number, cls := (recordOf b).cls }])
    ∨ ((∀ b, a ≠ .found b) ∧ list = [])) : p.exitList a = list := by
  rcases h with ⟨b, rfl, rfl⟩ | ⟨other, rfl⟩
  · rfl
  · cases a with
    | found b => exact absurd rfl (other b)
    | notEnrolled | storeFault | busy | wait => rfl

section
variable (exit : p.side = .exit) (strongroom : (s.door p.door).entry.kind = .strongroom)
include exit strongroom

theorem decidePresentation_exit : s.decidePresentation p a = s.handGrant p (p.exitList a) := by
  simp [State.decidePresentation, exit, State.decideExit, strongroom]

/-- R89, R90: PE posts by DC's answer; no escort stands at a STRONGROOM. -/
theorem handGrant_exit {u : State} {taken : Bool} (answer : s.strongroomExit (p.exitGrant list) = (u, taken)) :
    s.handGrant p list =
      if taken then u.post .grant (door := some p.door) (zone := some (u.door p.door).entry.outer)
        (subject := list.head?.map (fun c => Subject.credential c.number)) (reason := some Direction.exit.code)
      else u.postPe .deny p (u.denyZone p) DenyReason.doorBusy.code := by
  have direction : p.direction = .exit := by simp [Presentation.direction, exit]
  have asked : s.takeGrant { reader := p.reader, door := p.door, direction := .exit, list } = (u, taken) := by
    simp only [State.takeGrant, strongroom]
    exact answer
  have alone : ({ reader := p.reader, door := p.door, direction := .exit, list } : Grant).completes (s.door p.door) = none := by
    simp [Grant.completes, strongroom]
  cases taken <;> simp [State.handGrant, direction, asked, alone, exit]

theorem handGrant_granted {u : State} (entry : (u.door p.door).entry = (s.door p.door).entry) (clock : u.csu = s.csu)
    (taken : s.strongroomExit (p.exitGrant list) = (u.display p.reader .granted, true)) :
    s.handGrant p list = s.exitGranted p list u := by
  have door : ((u.display p.reader .granted).door p.door).entry = (s.door p.door).entry := by
    rw [← entry]
    exact congrArg Door.entry (door_drive ..)
  rw [handGrant_exit exit strongroom taken, if_pos rfl, door, post_tells, State.exitGranted, State.grantTold, exit,
    Option.map_map]
  exact congrArg (State.tells _) (event_congr ((display_csu ..).trans clock) ..)

/-- R89: a dropped grant is denied DOOR_BUSY. -/
theorem handGrant_dropped (dropped : s.strongroomExit (p.exitGrant list) = s.dropGrant (p.exitGrant list)) :
    s.handGrant p list = s.denied p .wait 16 := by
  have zone : (s.display p.reader .wait).denyZone p = (s.door p.door).entry.outer := by
    rw [State.denyZone, exit]
    exact congrArg (fun x : Door => x.entry.outer) (door_drive ..)
  rw [handGrant_exit exit strongroom dropped, if_neg (by decide), Presentation.exitGrant, zone, State.postPe,
    post_tells, State.denied, exit]
  exact congrArg (State.tells _) (event_congr (display_csu ..) ..)

theorem handGrant_secured (secured : (s.door p.door).state = .secured) :
    s.handGrant p list = s.exitGranted p list (s.withdrawnFor p.door ((s.door p.door).exitPassage list)) :=
  handGrant_granted exit strongroom (by simp [State.withdrawnFor, Door.unbolted]) (by simp [State.withdrawnFor])
    (strongroomExit_secured (p.exitGrant list) secured)

theorem handGrant_sequence (sequence : (s.door p.door).state.inSequence = true) :
    s.handGrant p list = s.exitGranted p list
      ((s.cancelled p.door (.denied .door) 4).withdrawnFor p.door ((s.door p.door).exitPassage list)) :=
  handGrant_granted exit strongroom (by simp [State.withdrawnFor, Door.unbolted, door_cancelled])
    (by simp [State.withdrawnFor]) (strongroomExit_sequence (p.exitGrant list) sequence)

section
variable {h : Passage} (unbolted : (s.door p.door).state = .unbolted) (held : (s.door p.door).passage = some h)
include unbolted held

/-- R127: in UNBOLTED the same exit is granted again. -/
theorem handGrant_repeated (way : h.direction = .exit)
    (same : h.list.map PassageCred.number = list.map PassageCred.number) :
    s.handGrant p list = s.exitGranted p list s :=
  handGrant_granted exit strongroom rfl rfl (by simp [State.strongroomExit, Presentation.exitGrant, unbolted, held, way, same])

theorem handGrant_otherHeld
    (other : h.direction ≠ .exit ∨ h.list.map PassageCred.number ≠ list.map PassageCred.number) :
    s.handGrant p list = s.denied p .wait 16 := by
  have differs : ¬ (h.direction = .exit ∧ h.list.map PassageCred.number = list.map PassageCred.number) := not_and_or.2 other
  exact handGrant_dropped exit strongroom (by simp [State.strongroomExit, Presentation.exitGrant, unbolted, held, differs])

end

/-- R126: a door that stands open confirms the exit at once. -/
theorem handGrant_open (stands : (s.door p.door).state.standsOpen = true) :
    s.handGrant p list = s.exitGranted p list (s.confirmPassage p.door ((s.door p.door).exitPassage list)) := by
  refine handGrant_granted exit strongroom (by simp [State.door]) (by simp) ?_
  rcases (standsOpen_iff _).1 stands with state | state | state <;>
    simp [State.strongroomExit, Presentation.exitGrant, state, State.confirmAtOnce, Door.passageFor, Door.exitPassage]

theorem handGrant_fault (fault : (s.door p.door).state = .fault) : s.handGrant p list = s.denied p .wait 16 :=
  handGrant_dropped exit strongroom (by simp [State.strongroomExit, Presentation.exitGrant, fault])

end
end

/-! ## Custody presentations that are refused, repeated, or enter an open door -/

section
variable {s : State} {c : Custody}

/-- R120, R124 to R126: a custody presentation is refused at the entry reader with a message and a DENY of this reason. -/
def State.custodyRefused (s : State) (c : Custody) (m : Message) (reason : Nat) : State :=
  (s.driveOpt (s.door c.door).entry.entryReader (.display m)).tells
    (s.event .deny (door := some c.door) (zone := some (s.door c.door).entry.inner)
      (subject := some (.credential c.number)) (reason := some reason))

theorem refuseAt_entry (m : Message) (r : DenyReason) :
    s.refuseAt c.door (s.door c.door).entry.entryReader m c.number r = s.custodyRefused c m r.code := by
  simp [State.refuseAt, postDoor_eq, State.custodyRefused]

theorem refuseCustody_eq : s.refuseCustody c = s.custodyRefused c (.denied .access) 18 := refuseAt_entry ..

theorem custodyPresented_waiting {a : Custodian} (waiting : (s.door c.door).state = .custodyWait)
    (first : (s.door c.door).custodyA = some a) : s.custodyPresented c = s.secondCustodian c a := by
  simp only [State.custodyPresented, waiting, first]

theorem custodyPresented_confirming (confirming : (s.door c.door).state = .confirmWait) :
    s.custodyPresented c = s.confirmCustody c := by
  simp only [State.custodyPresented, confirming]

theorem custodyPresented_unbolted (unbolted : (s.door c.door).state = .unbolted) :
    s.custodyPresented c = s.custodyUnbolted c := by
  simp only [State.custodyPresented, unbolted]

theorem custodyPresented_open (stands : (s.door c.door).state.standsOpen = true) : s.custodyPresented c = s.custodyOpen c := by
  rcases (standsOpen_iff _).1 stands with state | state | state <;> simp only [State.custodyPresented, state]

/-- R124: a presentation that neither custodian makes does not confirm. -/
theorem confirmCustody_other {a b : Custodian} (first : (s.door c.door).custodyA = some a)
    (second : (s.door c.door).custodyB = some b) (notFirst : c.number ≠ a.number) (notSecond : c.number ≠ b.number)
    (inTime : (s.door c.door).confirmOpening.getD 0 ≤ c.arrival) :
    s.confirmCustody c = s.custodyRefused c (.denied .access) 18 := by
  have other : (s.door c.door).custodyList.any (fun e => e.number == c.number) = false := by
    simp [Door.custodyList, first, second, notFirst.symm, notSecond.symm]
  simp [State.confirmCustody, Nat.not_lt.2 inTime, other, refuseCustody_eq]

section
variable {h : Passage} (held : (s.door c.door).passage = some h)
include held

theorem custodyUnbolted_repeated (way : h.direction = .entry) (listed : ∃ e ∈ h.list, e.number = c.number) :
    s.custodyUnbolted c = s.showEntry c.door .granted := by
  simp [State.custodyUnbolted, held, way, listed]

theorem custodyUnbolted_other (other : h.direction ≠ .entry ∨ ∀ e ∈ h.list, e.number ≠ c.number) :
    s.custodyUnbolted c = s.custodyRefused c .wait 16 := by
  have unlisted : (h.direction == .entry && h.list.any (fun e => e.number == c.number)) = false := by
    rcases other with way | list
    · simp [way]
    · simpa using fun _ => list
  simp only [State.custodyUnbolted, held, unlisted, Bool.false_eq_true, if_false]
  exact refuseAt_entry ..

end

/-- R126: a door that stands open is entered at once. -/
theorem custodyOpen_custodian (custodian : c.cls = .custodian) :
    s.custodyOpen c =
      (s.confirmPassage c.door ((s.door c.door).passageFor .entry [c.cred] true)).driveOpt
        (s.door c.door).entry.entryReader (.display .granted) := by
  simp [State.custodyOpen, custodian, State.confirmAtOnce, State.showEntry, State.door]

end

end Sys2Proof.Machine

section
open Sys2Proof Sys2Proof.Machine

/-- Settles O34: an exit grant by the state of the strongroom, and a custody presentation by the state and who presents. -/
theorem strongroomGrantsResult : Obligations.StrongroomGrantsResult := by
  refine ⟨fun s p a exit strongroom => ?_, fun s c => ?_⟩
  · intro x t list of through granted withdrawn
    have decided : t = s.handGrant p list := (decidePresentation_exit exit strongroom).trans (by rw [exitList_eq of])
    rw [decided]
    refine ⟨fun secured => handGrant_secured exit strongroom secured, fun sequence => ?_, fun h unbolted held => ⟨?_, ?_⟩,
      fun opened => ⟨_, confirmPassage_spec s p.door through, ?_⟩, fun fault => handGrant_fault exit strongroom fault⟩
    · rw [handGrant_sequence exit strongroom ((inSequence_iff _).2 sequence)]
      have entry : ((s.cancelled p.door (.denied .door) 4).door p.door).entry = x.entry := by rw [door_cancelled]
      simp only [withdrawn, State.withdrawnFor, Door.unbolted, entry, cancelled_csu]
      rfl
    · exact handGrant_repeated exit strongroom unbolted held
    · exact handGrant_otherHeld exit strongroom unbolted held
    · exact handGrant_open exit strongroom ((standsOpen_iff _).2 opened)
  · intro x t show' refused
    refine ⟨fun a waiting first same => ?_, fun a waiting first other cls => ?_,
      fun a b confirming first second notFirst notSecond inTime => ?_,
      fun h unbolted held => ⟨fun way listed => ?_, fun other => ?_⟩,
      fun opened => ⟨fun cls => ?_, fun custodian => ⟨_, confirmPassage_spec s c.door _, ?_⟩⟩⟩
    · exact (custodyPresented_waiting waiting first).trans (if_pos same)
    · exact (custodyPresented_waiting waiting first).trans ((if_neg other).trans ((if_pos cls).trans refuseCustody_eq))
    · exact (custodyPresented_confirming confirming).trans (confirmCustody_other first second notFirst notSecond inTime)
    · exact (custodyPresented_unbolted unbolted).trans (custodyUnbolted_repeated held way listed)
    · exact (custodyPresented_unbolted unbolted).trans (custodyUnbolted_other held other)
    · exact (custodyPresented_open ((standsOpen_iff _).2 opened)).trans ((if_neg cls).trans refuseCustody_eq)
    · exact (custodyPresented_open ((standsOpen_iff _).2 opened)).trans (custodyOpen_custodian custodian)

end
end

section
namespace Sys2Proof.Machine

/-! ## Laws 3 and 4 and the zones' limits, on RU alone -/

/-- 7.1: the credential numbers of RU's lists, zone by zone. -/
def Ru.numbers (r : Ru) : List Nat := allZones.flatMap fun z => (r.rosters.get z).map RosterEntry.number

/-- 7.1: law 4, and zone 0 has no list. -/
def Ru.pooled (r : Ru) : Prop := (allZones.map fun z => (r.rosters.get z).length).sum ≤ 240 ∧ r.rosters.get 0 = []

theorem standsOnce_iff (s : State) : s.standsOnce ↔ s.ru.numbers.Nodup := Iff.rfl

theorem poolBounded_iff (s : State) : s.poolBounded ↔ s.ru.pooled := Iff.rfl

/-- `q` comes from `r` by work that keeps laws 3 and 4 and gives no full zone an entry. -/
structure Ru.KeepsLaws (r q : Ru) : Prop where
  once : r.numbers.Nodup → q.numbers.Nodup
  pool : r.pooled → q.pooled
  room : ∀ z, (q.rosters.get z).length ≤ max (r.rosters.get z).length (r.zones.get z).limit

/-- Two lists of RU share no credential. -/
def Ru.apart (r : Ru) (j z : ZoneId) : Prop :=
  List.Disjoint ((r.rosters.get j).map RosterEntry.number) ((r.rosters.get z).map RosterEntry.number)

theorem apart_iff (r : Ru) (j z : ZoneId) :
    r.apart j z ↔ ∀ e ∈ r.rosters.get j, ∀ f ∈ r.rosters.get z, e.number ≠ f.number := by
  simp only [Ru.apart, List.disjoint_left, List.mem_map]
  grind

/-- Law 3, zone by zone. -/
theorem numbers_nodup_iff (r : Ru) :
    r.numbers.Nodup ↔ (∀ z, ((r.rosters.get z).map RosterEntry.number).Nodup) ∧ ∀ j z, j ≠ z → r.apart j z := by
  have every : allZones.Pairwise r.apart ↔ ∀ j z, j ≠ z → r.apart j z := by
    have : Std.Symm r.apart := ⟨fun _ _ => List.Disjoint.symm⟩
    exact ⟨fun pairs j z => pairs.forall (List.mem_finRange j) (List.mem_finRange z),
      fun h => (List.nodup_finRange 12).imp fun other => h _ _ other⟩
  rw [Ru.numbers, List.nodup_flatMap, ← every]
  exact and_congr_left fun _ => ⟨fun h z => h z (List.mem_finRange z), fun h z _ => h z⟩

/-! ## Entries that leave -/

/-- `q` comes from `r` by taking entries out of the lists, and every tracked zone that became KNOWN is one of
`verified`. -/
structure Ru.Removes (verified : ZoneId → Prop) (r q : Ru) : Prop where
  lists : ∀ z, (q.rosters.get z).Sublist (r.rosters.get z)
  known : ∀ z, z ≠ 0 → q.status.get z = .known → r.status.get z = .known ∨ verified z

namespace Ru.Removes

variable {verified : ZoneId → Prop}

@[simp] theorem refl (r : Ru) : r.Removes verified r := ⟨fun _ => .refl _, fun _ _ => .inl⟩

theorem of_eq {r q : Ru} (h : q = r) : r.Removes verified q := by
  subst h
  exact refl q

theorem trans {r q p : Ru} (h : r.Removes verified q) (k : q.Removes verified p) : r.Removes verified p :=
  ⟨fun z => (k.lists z).trans (h.lists z), fun z tracked known => (k.known z tracked known).elim (h.known z tracked) .inr⟩

/-- Fewer entries break no law. -/
theorem keepsLaws {r q : Ru} (h : r.Removes verified q) : r.KeepsLaws q where
  once := (List.Sublist.flatMap_right allZones fun z _ => (h.lists z).map RosterEntry.number).nodup
  pool := fun ⟨sum, outside⟩ =>
    ⟨(List.sum_le_sum fun z _ => (h.lists z).length_le).trans sum, List.sublist_nil.1 (outside ▸ h.lists 0)⟩
  room := fun z => (h.lists z).length_le.trans (le_max_left ..)

@[simp] theorem unknownAt (r : Ru) (z : ZoneId) : r.Removes verified (r.unknownAt z) := by
  refine ⟨fun j => ?_, fun j _ known => .inl ?_⟩
  · unfold Ru.unknownAt; split <;> exact .refl _
  · rw [unknownAt_status] at known
    split at known
    · cases known
    · exact known

@[simp] theorem bothUnknown (r : Ru) (outer inner : ZoneId) : r.Removes verified (r.bothUnknown outer inner) := by
  rw [bothUnknown_eq]
  exact (unknownAt r outer).trans (unknownAt _ inner)

theorem without (r : Ru) (number : Nat) : r.Removes verified (r.without number) :=
  ⟨fun z => by rw [without_get]; exact List.filter_sublist, fun _ _ => .inl⟩

end Ru.Removes

/-- R143: no entry of the credential is left in any list. -/
theorem without_absent {r : Ru} {number : Nat} {z : ZoneId} {e : RosterEntry}
    (h : e ∈ (r.without number).rosters.get z) : e.number ≠ number := by
  rw [without_get] at h
  simpa using (List.mem_filter.1 h).2

/-! ## An entry that joins -/

section
variable {r : Ru} {z : ZoneId}

/-- An entry more at the tail of one list. -/
def Ru.joined (r : Ru) (z : ZoneId) (e : RosterEntry) : Ru :=
  { r with rosters := r.rosters.set z (r.rosters.get z ++ [e]) z.isLt }

theorem joined_get (r : Ru) (z j : ZoneId) (e : RosterEntry) :
    (r.joined z e).rosters.get j = if j = z then r.rosters.get z ++ [e] else r.rosters.get j := by
  simp [Ru.joined]

/-- Law 3: an entry joins whose credential stands nowhere. -/
theorem joined_once {e : RosterEntry} (absent : ∀ j, ∀ f ∈ r.rosters.get j, f.number ≠ e.number)
    (once : r.numbers.Nodup) : (r.joined z e).numbers.Nodup := by
  rw [numbers_nodup_iff] at once ⊢
  obtain ⟨own, apart⟩ := once
  refine ⟨fun j => ?_, fun j k other => ?_⟩
  · rw [joined_get]
    split
    · simpa [List.nodup_append, own z] using fun f at' => absent z f at'
    · exact own j
  · have before := (apart_iff r j k).1 (apart j k other)
    rw [apart_iff]
    intro f at' g of
    rw [joined_get] at at' of
    grind

/-- Law 4: the pool counts one entry more. -/
theorem joined_sum (r : Ru) (z : ZoneId) (e : RosterEntry) :
    (allZones.map fun j => ((r.joined z e).rosters.get j).length).sum =
      (allZones.map fun j => (r.rosters.get j).length).sum + 1 := by
  have length (j : ZoneId) : ((r.joined z e).rosters.get j).length = (r.rosters.get j).length + if j = z then 1 else 0 := by
    rw [joined_get]
    split
    · next here => simp [here]
    · rfl
  have one : ∀ z : ZoneId, (allZones.map fun j => if j = z then 1 else 0).sum = 1 := by decide
  simp only [length, List.sum_map_add, one]

/-- R144: an entry joins where there is room. -/
theorem joined_keepsLaws {e : RosterEntry} (absent : ∀ j, ∀ f ∈ r.rosters.get j, f.number ≠ e.number)
    (tracked : z ≠ 0) (room : r.room z) : r.KeepsLaws (r.joined z e) where
  once := joined_once absent
  pool := fun ⟨_, outside⟩ => by
    refine ⟨(joined_sum r z e).trans_le room.2, ?_⟩
    rw [joined_get, if_neg tracked.symm, outside]
  room := fun j => by
    rw [joined_get]
    split
    · next here => subst here; simpa using room.1
    · exact le_max_left ..

end

/-! ## Credentials that move -/

/-- `q` comes from `r` by moving credentials under the laws of chapter 7: the limits stand, and no tracked zone becomes
KNOWN. -/
structure Ru.Moves (r q : Ru) : Prop where
  laws : r.KeepsLaws q
  zones : q.zones = r.zones
  known : ∀ z, z ≠ 0 → q.status.get z = .known → r.status.get z = .known

namespace Ru.Moves

theorem of_removes {r q : Ru} (h : r.Removes (fun _ => False) q) (zones : q.zones = r.zones) : r.Moves q :=
  ⟨h.keepsLaws, zones, fun z tracked known => (h.known z tracked known).resolve_right id⟩

theorem refl (r : Ru) : r.Moves r := of_removes (.refl r) rfl

theorem trans {r q p : Ru} (h : r.Moves q) (k : q.Moves p) : r.Moves p where
  laws := {
    once := k.laws.once ∘ h.laws.once
    pool := k.laws.pool ∘ h.laws.pool
    room := fun z => (k.laws.room z).trans (max_le (h.laws.room z) (by rw [h.zones]; exact le_max_right ..)) }
  zones := k.zones.trans h.zones
  known := fun z tracked => h.known z tracked ∘ k.known z tracked

theorem unknownAt (r : Ru) (z : ZoneId) : r.Moves (r.unknownAt z) :=
  of_removes (.unknownAt r z) (by unfold Ru.unknownAt; split <;> rfl)

theorem bothUnknown (r : Ru) (outer inner : ZoneId) : r.Moves (r.bothUnknown outer inner) := by
  rw [bothUnknown_eq]
  exact (unknownAt r outer).trans (unknownAt _ inner)

/-- R143, R144: a credential leaves its list before it joins another. -/
theorem moved (r : Ru) (z : ZoneId) (custodian : Bool) (now : Nat) (c : PassageCred) :
    r.Moves (r.moved z custodian now c) := by
  have left : r.Moves (r.without c.number) := of_removes (.without r c.number) rfl
  by_cases zero : z = 0
  · rw [zero, moved_zero]
    exact left
  by_cases room : (r.without c.number).room z
  · rw [moved_room _ _ _ _ _ zero room]
    exact left.trans ⟨joined_keepsLaws (fun _ _ => without_absent) zero room, rfl, fun _ _ => id⟩
  · rw [moved_noRoom _ _ _ _ _ zero room]
    exact left.trans (unknownAt _ z)

/-- R143, R145: a passage is applied. -/
theorem passageMoved (s : State) (p : Passage) : s.ru.Moves (s.passageMoved p) := by
  by_cases h : p.list = [] ∨ p.direction = .station
  · rw [passageMoved_unnamed s p h]
    exact bothUnknown ..
  · obtain ⟨list, way⟩ := not_or.1 h
    rw [passageMoved_named s p list way]
    exact List.foldlRecOn (motive := s.ru.Moves) p.list _ (refl s.ru) fun r moves c _ => moves.trans (moved r ..)

end Ru.Moves

end Sys2Proof.Machine
end

section
namespace Sys2Proof.Machine

/-! ## Work that moves credentials -/

/-- `t` comes from `s` by work whose part in RU is to move credentials. -/
def State.Moves (s t : State) : Prop := s.ru.Moves t.ru

namespace State.Moves

theorem refl (s : State) : s.Moves s := Ru.Moves.refl _

theorem trans {r s t : State} (h : r.Moves s) (k : s.Moves t) : r.Moves t := Ru.Moves.trans h k

/-- Work on other blocks than RU. -/
theorem elsewhere {s t : State} (ru : t.ru = s.ru) : s.Moves t := by
  rw [State.Moves, ru]
  exact Ru.Moves.refl _

/-- Such work follows. -/
theorem frame {r s t : State} (h : r.Moves s) (ru : t.ru = s.ru) : r.Moves t := h.trans (elsewhere ru)

theorem foldl {β : Type} {f : State → β → State} (h : ∀ (t : State) (x : β), t.Moves (f t x)) (l : List β)
    (s : State) : s.Moves (l.foldl f s) :=
  List.foldlRecOn (motive := s.Moves) l f (refl s) fun t moves x _ => moves.trans (h t x)

/-! ## Openings and passages -/

section
variable (s : State) (d : DoorId)

theorem unattributed (r : EgressReason) : s.Moves (s.unattributed d r) := by
  rw [State.Moves, State.unattributed, State.doorOpening, openingNotice_ru, postDoor_ru]
  exact Ru.Moves.bothUnknown ..

theorem confirmPassage (p : Passage) : s.Moves (s.confirmPassage d p) := by
  rw [State.Moves, confirmPassage_ru]
  exact Ru.Moves.passageMoved s p

theorem confirmWithEgress (p : Passage) : s.Moves (s.confirmWithEgress d p) := by
  rw [State.Moves, confirmWithEgress_ru]
  exact (Ru.Moves.passageMoved s p).trans (Ru.Moves.bothUnknown ..)

theorem judgeOpening (c : Contact) (handle : Bool) : s.Moves (s.judgeOpening d c handle) := by
  have opened (r : EgressReason) : s.Moves ((s.setOpen d).unattributed d r) :=
    (elsewhere (setOpen_ru s d)).trans (unattributed _ d r)
  unfold State.judgeOpening; split
  · exact opened .contact
  all_goals
    split
    · exact opened .handle
    · rw [State.Moves, State.doorOpening, openingNotice_ru, postDoor_ru, setDoor_ru]
      exact Ru.Moves.bothUnknown ..

theorem faultEndsOpen : s.Moves (s.faultEndsOpen d) :=
  (elsewhere ((postDoor_ru ..).trans (setOpen_ru s d))).trans (unattributed _ d .contact)

theorem confirmHeld (handle : Bool) : s.Moves (s.confirmHeld d handle) := by
  have opened : s.Moves (s.setOpen d) := elsewhere (setOpen_ru s d)
  unfold State.confirmHeld; dsimp only; split
  · exact refl s
  · split
    · exact opened.trans (confirmWithEgress _ d _)
    · exact opened.trans (confirmPassage _ d _)

/-! ## Contacts -/

theorem plainContact (c : Contact) (opened handle : Bool) : s.Moves (s.plainContact d c opened handle) := by
  unfold State.plainContact; dsimp only; split
  case h_1 =>
    split
    · exact judgeOpening s d c handle
    · exact refl s
  case h_2 =>
    split
    · exact confirmHeld s d handle
    · exact refl s
  case h_3 | h_4 | h_5 =>
    split
    · exact refl s
    · split <;> exact elsewhere (by simp)
  case h_6 =>
    split
    · exact faultEndsOpen s d
    · exact elsewhere (by simp)
  all_goals exact refl s

theorem strongroomContact (c : Contact) (opened handle : Bool) : s.Moves (s.strongroomContact d c opened handle) := by
  unfold State.strongroomContact; dsimp only; split
  case h_1 =>
    split
    · exact judgeOpening s d c handle
    · exact refl s
  case h_2 | h_3 | h_4 =>
    split
    · exact (elsewhere (cancelSequence_ru s d .opened)).trans (judgeOpening _ d c handle)
    · exact refl s
  case h_5 =>
    split
    · exact confirmHeld s d handle
    · exact refl s
  case h_6 | h_7 | h_8 =>
    split
    · exact refl s
    · split <;> exact elsewhere (by simp)
  case h_9 =>
    split
    · exact faultEndsOpen s d
    · exact elsewhere (by simp)
  all_goals exact refl s

theorem doorStatusReport (c : Contact) (b : Bolt) (handle : Bool) : s.Moves (s.doorStatusReport d c b handle) := by
  have changed (t : State) : t.Moves (t.contactChange d c handle) := by
    have told : t.Moves (t.setContact d c) := elsewhere (setContact_ru ..)
    unfold State.contactChange; dsimp only; split
    · exact told.trans (plainContact _ d _ _ handle)
    · exact told.trans (strongroomContact _ d _ _ handle)
    · exact told
  have reported : s.Moves (s.setDoor d { s.door d with bolt := some b }) := elsewhere (setDoor_ru ..)
  unfold State.doorStatusReport; dsimp only; split
  · exact reported.frame (compareBolt_ru ..)
  · exact (reported.trans (changed _)).frame (compareBolt_ru ..)

end

/-! ## Grants and custody presentations -/

section
variable (s : State)

theorem plainGrant (g : Grant) : s.Moves (s.plainGrant g).1 := by
  have confirmed (list : List PassageCred) : s.Moves (s.confirmAtOnce g list false) := confirmPassage s g.door _
  unfold State.plainGrant; dsimp only; split
  case h_1 => split <;> exact elsewhere (by simp)
  case h_2 =>
    split
    · split <;> exact elsewhere (by simp)
    · exact elsewhere (by simp)
  case h_3 | h_4 | h_5 =>
    split
    · exact (confirmed _).frame (completePairing_ru ..)
    · exact (confirmed _).frame (display_ru ..)
  case h_6 =>
    have shown : s.Moves ((s.driveOpt (s.door g.door).entry.unit (.unlock (s.door g.door).entry.unlockWindow)).display
        g.reader .granted) := elsewhere ((display_ru ..).trans (driveOpt_ru ..))
    dsimp only
    exact shown.trans (unattributed _ g.door .fault)
  all_goals exact elsewhere (by simp)

theorem strongroomExit (g : Grant) : s.Moves (s.strongroomExit g).1 := by
  have confirmed : s.Moves (s.confirmAtOnce g g.list false) := confirmPassage s g.door _
  unfold State.strongroomExit; dsimp only; split
  case h_5 =>
    split
    · split <;> exact elsewhere (by simp)
    · exact elsewhere (by simp)
  case h_6 | h_7 | h_8 => exact confirmed.frame (display_ru ..)
  all_goals exact elsewhere (by simp)

theorem takeGrant (g : Grant) : s.Moves (s.takeGrant g).1 := by
  unfold State.takeGrant; split
  · exact plainGrant s g
  · exact strongroomExit s g
  · exact elsewhere (by simp)

theorem custodyOpen (c : Custody) : s.Moves (s.custodyOpen c) := by
  unfold State.custodyOpen; split
  · exact (confirmPassage s c.door _).frame (showEntry_ru ..)
  · exact elsewhere (refuseCustody_ru ..)

theorem custodyPresented (c : Custody) : s.Moves (s.custodyPresented c) := by
  unfold State.custodyPresented; dsimp only; split
  case h_2 => split <;> exact elsewhere (by simp)
  case h_6 | h_7 | h_8 => exact custodyOpen s c
  all_goals exact elsewhere (by simp)

/-! ## Presentations -/

variable (p : Presentation)

theorem handGrant (list : List PassageCred) : s.Moves (s.handGrant p list) := by
  have answered := takeGrant s { reader := p.reader, door := p.door, direction := p.direction, list }
  unfold State.handGrant; dsimp only; split
  · next u taken =>
    rw [taken] at answered
    split <;> exact answered.frame (by simp)
  · next u dropped =>
    rw [dropped] at answered
    exact answered.frame (postPe_ru ..)

theorem handOff (r : CredRecord) (duress : Bool) : s.Moves (s.handOff p r duress) := by
  unfold State.handOff; dsimp only; split
  · exact elsewhere (escortPresented_ru ..)
  · split
    · exact custodyPresented s _
    · exact handGrant s p _

theorem checkZone (r : CredRecord) (duress : Bool) : s.Moves (s.checkZone p r duress) := by
  unfold State.checkZone; split
  · exact elsewhere (deny_ru ..)
  · split
    · exact elsewhere (denyFull_ru ..)
    · exact handOff s p r duress

theorem checkPassback (r : CredRecord) (duress : Bool) : s.Moves (s.checkPassback p r duress) := by
  unfold State.checkPassback; split
  · exact checkZone s p r duress
  · split
    · exact elsewhere (deny_ru ..)
    · exact (elsewhere (post_ru ..)).trans (checkZone _ p r duress)
    · exact checkZone s p r duress

theorem checkCredential (r : CredRecord) : s.Moves (s.checkCredential p r) := by
  unfold State.checkCredential; split
  · split
    · exact elsewhere (denyLost_ru ..)
    · exact elsewhere (deny_ru ..)
  · split
    · exact elsewhere (deny_ru ..)
    · exact (elsewhere (duressNotice_ru ..)).trans (checkPassback _ p r true)
    · exact checkPassback s p r false

theorem decideExit (a : Answer) : s.Moves (s.decideExit p a) := by
  unfold State.decideExit; split
  · exact elsewhere (deny_ru ..)
  · exact handGrant s p _

theorem decideEntry (a : Answer) : s.Moves (s.decideEntry p a) := by
  unfold State.decideEntry; split
  · exact elsewhere (deny_ru ..)
  · cases a with
    | found slot => exact checkCredential s p _
    | wait => exact refl s
    | notEnrolled | storeFault | busy => exact elsewhere (deny_ru ..)

theorem decidePresentation (a : Answer) : s.Moves (s.decidePresentation p a) := by
  unfold State.decidePresentation; split
  · exact decideEntry s p a
  · exact decideExit s p a

theorem listFull : s.Moves (s.listFull p) := by
  unfold State.listFull; split
  · exact elsewhere (deny_ru ..)
  · exact decideExit s p .busy

theorem waitForStore : s.Moves (s.waitForStore p) := by
  unfold State.waitForStore; split
  · exact (elsewhere (setCsc_ru ..)).trans (listFull _ p)
  · exact elsewhere rfl

theorem present : s.Moves (s.present p) := by
  have looked (c : Csc) : s.Moves (s.setCsc c) := elsewhere (setCsc_ru ..)
  unfold State.present; split
  · exact elsewhere (deny_ru ..)
  · split
    · exact decidePresentation s p .notEnrolled
    · split
      · exact (looked _).trans (waitForStore _ p)
      · exact (looked _).trans (decidePresentation _ p _)

theorem arrive : s.Moves (s.arrive p) := by
  unfold State.arrive; split
  · exact elsewhere (display_ru ..)
  · split
    · exact listFull s p
    · exact present s p

theorem badgeReport (reader : DevIx) (door : DoorId) (side : Side) (number issue : Nat) (pin : Option Nat) :
    s.Moves (s.badgeReport reader door side number issue pin) :=
  (elsewhere (badgeCheckIn_ru s door number)).trans (arrive _ _)

theorem resume (reader : DevIx) (a : Answer) : s.Moves (s.resume reader a) := by
  unfold State.resume; split
  · have dropped : s.Moves { s with pe := { s.pe with waiting := s.pe.waiting.filter (fun q => q.reader != reader) } } :=
      elsewhere rfl
    exact dropped.trans (decidePresentation _ _ a)
  · exact refl s

end

/-! ## Loop frames and store cycles -/

theorem route (s : State) (d : DevIx) (r : Report) : s.Moves (s.route d r) := by
  cases r with
  | badge door side number issue pin => exact badgeReport s d door side number issue pin
  | doorStatus door contact bolt handle => exact doorStatusReport s door contact bolt handle
  | detector c g level => exact elsewhere (detectorReport_ru s d c g level)
  | abortStation c held => exact elsewhere (setAbortStation_ru s d c held)
  | releaseStation c operated => exact elsewhere (releaseStationReport_ru s d c operated)
  | pendant z id kind => exact elsewhere (pendantReport_ru s z id kind)
  | heartbeat health => exact elsewhere (healthReport_ru s d health)

theorem deviceFrame (s : State) (d : DevIx) (arrival : LoopEnd) (f : Frame) : s.Moves (s.deviceFrame d arrival f) := by
  have forwarded : s.Moves (if (s.device d).report then (s.acceptFrame d arrival f).forward { frame := f, arrival }
      else s.acceptFrame d arrival f) := by
    split <;> exact elsewhere (by simp)
  unfold State.deviceFrame; dsimp only; split
  · exact elsewhere (foreignFrame_ru ..)
  · split
    · exact refl s
    · split
      · exact forwarded.trans (route _ d _)
      · exact forwarded

theorem classify (s : State) (arrival : LoopEnd) (f : Frame) : s.Moves (s.classify arrival f) := by
  unfold State.classify; split
  · split
    · exact elsewhere (sweepEnds_ru ..)
    · exact refl s
  · split
    · split
      · exact deviceFrame s _ arrival f
      · exact refl s
    · exact refl s

theorem loopBytes (s : State) (arrival : LoopEnd) (bytes : List Byte) : s.Moves (s.loopBytes arrival bytes) := by
  unfold State.loopBytes; split
  · exact (elsewhere (frameHeard_ru s)).trans (classify _ arrival _)
  · exact refl s

/-- R53, R59: the waiters of a request are answered, and it leaves the queue. -/
theorem fetchAnswered (s : State) (a : Waiter → Answer) (l : List Waiter) :
    s.Moves (l.foldl (State.answerWaiter · a) s).leaveQueue := by
  have answered (t : State) (w : Waiter) : t.Moves (t.answerWaiter a w) := by
    unfold State.answerWaiter; split
    · exact resume t _ _
    · exact elsewhere (answerLook_ru ..)
  exact (foldl answered l s).frame (leaveQueue_ru _)

theorem readEndsFaulted (s : State) : s.Moves s.readEndsFaulted := by
  unfold State.readEndsFaulted; split
  case h_2 =>
    split
    · split
      · exact elsewhere (by simp)
      · exact (elsewhere (t := (s.postStoreFault _ .fetch).setCsc _) (by simp)).trans (fetchAnswered _ _ _)
    · exact refl s
  case h_3 =>
    split
    · split
      · split
        · exact elsewhere (by simp)
        · exact elsewhere (endWrite_ru ..)
      all_goals exact refl s
    · exact refl s
  case h_4 => split <;> exact elsewhere (by simp)
  case h_1 => exact refl s

theorem readEndsGood (s : State) (slots : List (List Byte)) : s.Moves (s.readEndsGood slots) := by
  unfold State.readEndsGood; split
  case h_2 =>
    split
    · exact (elsewhere (setCsc_ru ..)).trans (fetchAnswered _ _ _)
    · exact refl s
  case h_3 =>
    split
    · split
      · split
        · exact elsewhere (setStage_ru ..)
        · exact elsewhere (endWrite_ru ..)
      all_goals exact refl s
    · exact refl s
  case h_1 => exact refl s
  case h_4 => exact elsewhere (setCsc_ru ..)

theorem readCompletes (s : State) (slots : List (List Byte)) : s.Moves (s.readCompletes slots) := by
  unfold State.readCompletes; split
  · exact readEndsFaulted s
  · exact readEndsGood s slots

end State.Moves

end Sys2Proof.Machine
end

section
namespace Sys2Proof.Machine

/-! ## The number of a tracked zone -/

theorem trackedZoneOf_some {n : Nat} {z : ZoneId} : trackedZoneOf n = some z ↔ z ≠ 0 ∧ n = z.val := by
  have bound := z.isLt
  rw [ne_eq, Fin.ext_iff, Fin.val_zero]
  unfold trackedZoneOf zoneOf
  split
  · simp only [reduceCtorEq, false_iff]; omega
  · split
    · simp only [Option.some.injEq, Fin.ext_iff]; omega
    · simp only [reduceCtorEq, false_iff]; omega

theorem trackedZoneOf_none {n : Nat} : trackedZoneOf n = none ↔ n = 0 ∨ 11 < n := by
  unfold trackedZoneOf zoneOf
  split
  · simp [*]
  · split <;> simp <;> omega

/-! ## Verification -/

/-- R148 to R150: what a verification keeps of a list. -/
def VerifyReason.kept : VerifyReason → List RosterEntry → List RosterEntry
  | .keep, l => l
  | .clear, _ => []
  | .key, _ => []

theorem kept_sublist (r : VerifyReason) (l : List RosterEntry) : (r.kept l).Sublist l := by
  cases r with
  | keep => exact .refl l
  | clear | key => exact List.nil_sublist l

theorem verify_eq (s : State) (z : ZoneId) (r : VerifyReason) :
    s.verify z r =
      s.zoneNotices (((s.setRoster z (r.kept (s.roster z))).setZoneStatus z .known).tells
        (s.event .zoneVerified (zone := some z) (reason := some (paired r.code (r.kept (s.roster z)).length)))) := by
  cases r <;> rfl

theorem verify_ru (s : State) (z : ZoneId) (r : VerifyReason) :
    (s.verify z r).ru =
      { s.ru with
        rosters := s.ru.rosters.set z (r.kept (s.roster z)) z.isLt, status := s.ru.status.set z .known z.isLt } := by
  rw [verify_eq, zoneNotices_ru, tells_ru]
  rfl

namespace Ru.Removes

variable {verified : ZoneId → Prop}

/-- R148 to R150: the zone verified is the one that becomes KNOWN. -/
theorem verify (s : State) {z : ZoneId} (r : VerifyReason) (h : verified z) :
    s.ru.Removes verified (s.verify z r).ru := by
  rw [verify_ru]
  refine ⟨fun j => ?_, fun j _ known => ?_⟩
  · rw [get_set]
    split
    · next here => subst here; exact kept_sublist r _
    · exact .refl _
  · rw [get_set] at known
    split at known
    · next here => exact .inr (here ▸ h)
    · exact .inl known

theorem clearKeyNotice (s : State) {z : ZoneId} (h : verified z) : s.ru.Removes verified (s.clearKeyNotice z).ru := by
  unfold State.clearKeyNotice; split
  · exact of_eq (post_ru ..)
  · exact verify s .key h

/-- R180, R182: a qualified level is handed to the line's function. -/
theorem settleExpired (s : State) (l : InputLine)
    (h : ∀ g z, l = .general g → s.lineFunction g = .zoneClearKey z → (s.line l).raw = true → verified z) :
    s.ru.Removes verified (s.settleExpired l).ru := by
  have noticed (t : State) (active : Bool)
      (key : ∀ g z, l = .general g → t.lineFunction g = .zoneClearKey z → active = true → verified z) :
      t.ru.Removes verified (t.lineNotice l active).ru := by
    unfold State.lineNotice; split
    · exact of_eq (abortLineNotice_ru ..)
    · exact of_eq (valveNotice_ru ..)
    · exact refl _
    · next g =>
      split
      · next z function =>
        split
        · next on => exact clearKeyNotice t (key g z rfl function on)
        · exact refl _
      · exact of_eq (keyNotice_ru ..)
      all_goals exact refl _
  unfold State.settleExpired; dsimp only; split
  case h_1 =>
    have settled (x : Line) : s.ru.Removes verified (s.setLine l x).ru := of_eq (setLine_ru ..)
    refine (settled _).trans (noticed _ _ fun g z line function on => h g z line ?_ on)
    subst line
    exact function
  all_goals exact refl _

/-! ## Station commands -/

/-- R148, R149: a verification by the station. -/
theorem verifyBody (s : State) (n : Byte) (r : VerifyReason) (h : ∀ z : ZoneId, n.toNat = z.val → verified z) :
    s.ru.Removes verified (Machine.verifyBody n r s).1.ru := by
  unfold Machine.verifyBody; split
  · exact refl _
  · next z tracked =>
    split
    · exact refl _
    · exact verify s r (h z (trackedZoneOf_some.1 tracked).2)

@[simp] theorem cmdZoneUnknown (s : State) (n : Byte) : s.ru.Removes verified (Machine.cmdZoneUnknown n s).1.ru := by
  unfold Machine.cmdZoneUnknown; split
  · exact refl _
  · simp [State.yes, makeUnknown_ru]

@[simp] theorem cmdDoorGrant (s : State) (n : Byte) : s.ru.Removes verified (Machine.cmdDoorGrant n s).1.ru := by
  have granted (d : DoorId) : s.ru.Removes verified (s.stationGrant d).1.ru := by
    unfold State.stationGrant; dsimp only; split
    · simp [State.yes]
    · simp [State.yes, State.doorOpening]
    all_goals exact refl _
  unfold Machine.cmdDoorGrant; split
  · exact refl _
  · split
    · exact refl _
    · exact refl _
    · split
      · exact refl _
      · exact granted _

/-- R156: a written zone entry changes the limit, not the list. -/
theorem writeZone (s : State) (z : ZoneId) (b : List Byte) : s.ru.Removes verified (s.writeZone z b).1.ru := by
  have stored (e : ZoneEntry) : s.ru.Removes verified (s.setZone z e).ru := ⟨fun _ => .refl _, fun _ _ => .inl⟩
  unfold State.writeZone; dsimp only; split
  · exact refl _
  · split
    · exact refl _
    · dsimp only
      split
      · exact stored _
      · rw [refreshAfterHours_ru]
        exact stored _

theorem writeEntry (s : State) (t : TableId) (i : Nat) (b : List Byte) :
    s.ru.Removes verified (s.writeEntry t i b).1.ru := by
  unfold State.writeEntry; split
  case h_3 =>
    split
    · exact writeZone s _ b
    · exact refl _
  case h_1 | h_2 | h_4 | h_5 | h_6 => split <;> exact of_eq (by simp)
  all_goals exact refl _

theorem writeAll (t : TableId) (l : List (List Byte)) (r : State × List ReplyCode) :
    r.1.ru.Removes verified (l.foldl (writeNext t) r).1.ru := by
  refine List.foldlRecOn (motive := fun q : State × List ReplyCode => r.1.ru.Removes verified q.1.ru) l _ (refl _)
    fun q removes b _ => removes.trans ?_
  unfold writeNext; dsimp only; split
  · exact writeEntry q.1 t q.1.sp.cursorIndex b
  · exact refl _

@[simp] theorem cmdTableWrite (s : State) (entries : List Byte) :
    s.ru.Removes verified (Machine.cmdTableWrite entries s).1.ru := by
  unfold Machine.cmdTableWrite; dsimp only; split
  · exact refl _
  · split
    · exact refl _
    · exact writeAll _ _ (s, [])

end Ru.Removes
end Sys2Proof.Machine
end

section
namespace Sys2Proof.Machine

/-! ## Station frames that verify a zone -/

/-- Table 11-4: the command of this code and these parameters verifies the zone. -/
def verifiesZone (code : Byte) (l : List Byte) (z : ZoneId) : Prop :=
  (code = codeZoneVerifyClear ∨ code = codeZoneVerifyKeep) ∧ ∃ n : Byte, l = [n] ∧ n.toNat = z.val

/-- R148, R149, R199: the station's frame is a command that verifies the zone. -/
def Frame.verifies (f : Frame) (z : ZoneId) : Prop :=
  f.src = stationAddress ∧ f.dst = 0 ∧ f.kind = kindCommand ∧ ∃ code l, f.payload = code :: l ∧ verifiesZone code l z

/-- Table 11-4: a row of the table, and the rows after it. -/
theorem row_all {c d : Prop} [Decidable c] [Decidable d] {a : Body} {b : Option Body} {P : Body → Prop} (here : P a)
    (later : ∀ x, b = some x → P x) : ∀ x, (if c then if d then some a else none else b) = some x → P x :=
  ite_some_all (ite_some_all (some_some_all here) none_some_all) later

namespace Ru.Removes

variable {verified : ZoneId → Prop}

/-- R201: only the two verifications make a zone KNOWN. -/
theorem bodyOf {code : Byte} {l : List Byte} {body : Body} (h : Machine.bodyOf code l = some body) (s : State) :
    s.ru.Removes (verifiesZone code l) (body s).1.ru := by
  have verifies (r : VerifyReason) (named : code = codeZoneVerifyClear ∨ code = codeZoneVerifyKeep) (one : l.length = 1) :
      s.ru.Removes (verifiesZone code l) (Machine.verifyBody (byteAt l 0) r s).1.ru := by
    obtain ⟨n, rfl⟩ := List.length_eq_one_iff.1 one
    exact verifyBody s n r fun z number => ⟨named, n, rfl, number⟩
  by_cases clear : code = codeZoneVerifyClear
  · have at' : Machine.bodyOf code l = if l.length = 1 then some (cmdZoneVerifyClear (byteAt l 0)) else none := by
      subst clear; rfl
    rw [at'] at h
    split at h
    · next one => cases h; exact verifies .clear (.inl clear) one
    · cases h
  by_cases keep : code = codeZoneVerifyKeep
  · have at' : Machine.bodyOf code l = if l.length = 1 then some (cmdZoneVerifyKeep (byteAt l 0)) else none := by
      subst keep; rfl
    rw [at'] at h
    split at h
    · next one => cases h; exact verifies .keep (.inr keep) one
    · cases h
  suffices every : ∀ x, Machine.bodyOf code l = some x → s.ru.Removes (verifiesZone code l) (x s).1.ru from every body h
  unfold Machine.bodyOf
  simp only [clear, keep, if_false]
  iterate 2 refine row_all (by simp) ?_
  refine ite_some_all (some_some_all (by simp)) ?_
  iterate 17 refine row_all (by simp) ?_
  exact none_some_all

theorem takeCommand {s : State} {body : Body} (h : s.ru.Removes verified (body s).1.ru) (seq : BitVec 4) (code : Byte) :
    s.ru.Removes verified (s.takeCommand seq code body).ru := by
  unfold State.takeCommand; split
  · exact of_eq (markLoss_ru ..)
  · split
    · exact of_eq (placeReply_ru ..)
    · rw [placeReply_ru]; exact h

theorem stationFrameTaken (s : State) (f : Frame) : s.ru.Removes f.verifies (s.stationFrameTaken f).ru := by
  unfold State.stationFrameTaken; split
  · exact refl _
  · next station =>
    split
    · next own =>
      split
      · next command =>
        split
        · exact takeCommand (refl _) _ 0
        · next code l payload =>
          refine takeCommand ?_ _ code
          cases h : Machine.bodyOf code l with
          | none => exact refl _
          | some body =>
            have known := bodyOf h s
            exact ⟨known.lists, fun z tracked at' => (known.known z tracked at').imp_right fun named =>
              ⟨not_not.1 station, own, command, code, l, payload, named⟩⟩
      · exact refl _
    · split
      · exact of_eq (takeLoopBound_ru ..)
      · exact refl _

/-- R198: the frames that SP takes are those of the intake. -/
theorem takeIntake (s : State) : s.ru.Removes (fun z => ∃ f ∈ s.sp.intake, f.verifies z) s.takeIntake.ru := by
  refine List.foldlRecOn (motive := fun t : State => s.ru.Removes _ t.ru) s.sp.intake _ (of_eq (setIntake_ru ..))
    fun t removes f of => removes.trans ?_
  have taken := stationFrameTaken t f
  exact ⟨taken.lists, fun z tracked known => (taken.known z tracked known).imp_right fun named => ⟨f, of, named⟩⟩

end Ru.Removes

/-! ## The frames that arriving bytes complete -/

theorem bytes2_numberOf (a b : Byte) : bytes2 (numberOf [a, b]) = [a, b] := by
  have number : numberOf [a, b] = a.toNat * 256 + b.toNat := by simp [numberOf]
  simp only [bytes2, bytes1, number, List.cons.injEq, and_true]
  constructor <;> apply BitVec.eq_of_toNat_eq <;> simp <;> omega

/-- R198, R213: a frame that the bytes from LEN spell is sent as these bytes after SYNC. -/
theorem wire_of_frameOf {l : List Byte} {f : Frame} (h : frameOf l = some f) : f.wire.drop 1 = l := by
  unfold frameOf at h
  split at h
  · next len dst src kind seqByte rest =>
    dsimp only at h
    split at h
    · next fits =>
      obtain ⟨length, check⟩ := fits
      cases h
      have two : (rest.drop len.toNat).length = 2 := by simp [length]
      obtain ⟨a, b, last⟩ := List.length_eq_two.1 two
      have count : BitVec.ofNat 8 (rest.take len.toNat).length = len := by simp [length]
      have split' : rest.take len.toNat ++ [a, b] = rest := by rw [← last, List.take_append_drop]
      rw [last] at check
      simp only [Frame.wire, Frame.fromLen, count, check, bytes2_numberOf, List.cons_append, List.drop_succ_cons,
        List.drop_zero, split']
    · cases h
  · cases h

/-- R198: what a byte leaves to be held ends the bytes so far, and what it completes is the end of them. -/
theorem rxStep_suffix (held : List Byte) (b : Byte) :
    (rxStep held b).1 <:+ held ++ [b] ∧ ∀ l, (rxStep held b).2 = some l → l <:+ held ++ [b] := by
  unfold rxStep
  split
  · split <;> simp
  · split <;> simp
  · dsimp only
    split
    · refine ⟨List.nil_suffix, fun l whole => ?_⟩
      cases whole
      exact List.drop_suffix 1 _
    · simp

/-- R198: of the bytes `all`, the last are held, and the frames of the intake stand among them. -/
structure State.Heard (all : List Byte) (s : State) : Prop where
  held : s.sp.rx <:+ all
  intake : ∀ f ∈ s.sp.intake, f.wire.drop 1 <:+: all

theorem rxByte_heard {all : List Byte} {s : State} (h : s.Heard all) (b : Byte) : (s.rxByte b).Heard (all ++ [b]) := by
  obtain ⟨before, rx⟩ := h.held
  have ends {l : List Byte} (suffix : l <:+ s.sp.rx ++ [b]) : l <:+ all ++ [b] := by
    rw [← rx, List.append_assoc]
    exact suffix.trans (List.suffix_append ..)
  have earlier (f : Frame) (of : f ∈ s.sp.intake) : f.wire.drop 1 <:+: all ++ [b] :=
    (h.intake f of).trans ⟨[], [b], by simp⟩
  obtain ⟨held, whole⟩ := rxStep_suffix s.sp.rx b
  unfold State.rxByte
  split
  · next l step =>
    rw [step] at held whole
    split
    · next f spelt =>
      unfold State.offerFrame; split
      · refine ⟨ends held, fun g of => ?_⟩
        rcases List.mem_append.1 of with of | of
        · exact earlier g of
        · rw [List.mem_singleton.1 of, wire_of_frameOf spelt]
          exact (ends (whole l rfl)).isInfix
      · exact ⟨ends held, earlier⟩
    · exact ⟨ends held, earlier⟩
  · next step =>
    rw [step] at held
    exact ⟨ends held, earlier⟩

theorem rxBytes_heard {all : List Byte} {s : State} (h : s.Heard all) (l : List Byte) :
    (l.foldl State.rxByte s).Heard (all ++ l) := by
  induction l generalizing all s with
  | nil => simpa using h
  | cons b l ih => simpa using ih (rxByte_heard h b)

/-- R198: after a gap one byte completes no frame. -/
theorem rxByte_after_gap (s : State) (b : Byte) : ((s.setRx []).rxByte b).sp.intake = s.sp.intake := rfl

/-- Table 11-4: a frame that verifies a zone is the COMMAND of its two payload bytes. -/
theorem verifies_iff (f : Frame) (z : ZoneId) :
    f.verifies z ↔ ∃ code n : Byte, (code = 0x20 ∨ code = 0x21) ∧ n.toNat = z.val
      ∧ f = { dst := 0, src := 0x40, kind := 0x20, seqByte := f.seqByte, payload := [code, n] } := by
  obtain ⟨dst, src, kind, seqByte, payload⟩ := f
  simp only [Frame.verifies, verifiesZone, stationAddress, kindCommand, codeZoneVerifyClear, codeZoneVerifyKeep,
    Frame.mk.injEq]
  constructor
  · rintro ⟨rfl, rfl, rfl, code, _, rfl, named, n, rfl, number⟩
    exact ⟨code, n, named, number, rfl, rfl, rfl, trivial, rfl⟩
  · rintro ⟨code, n, named, number, rfl, rfl, rfl, -, rfl⟩
    exact ⟨rfl, rfl, rfl, code, [n], rfl, named, n, rfl, number⟩

end Sys2Proof.Machine
end

section
namespace Sys2Proof.Machine

/-! ## What every command does to RU -/

/-- Table 7-2: the command verifies the zone: as its row, inside a frame that the bytes complete, or by the key of the line. -/
def State.verifiedBy (s : State) : Instr → ZoneId → Prop
  | .zoneVerifyClear _ n, z | .zoneVerifyKeep _ n, z => n.toNat = z.val
  | .stationFrameReceived l, z => ∃ f ∈ (l.foldl State.rxByte s).sp.intake, f.verifies z
  | .stationFrameGap b, z => ∃ f ∈ ((s.setRx []).rxByte b).sp.intake, f.verifies z
  | .settleTimerExpiry l, z => ∃ g, l = .general g ∧ s.lineFunction g = .zoneClearKey z ∧ (s.line l).raw = true
  | _, _ => False

/-- Chapter 7: RU's part in a command: credentials move, or entries leave and zones are verified. -/
def State.rosterStep (s : State) (c : Instr) (t : State) : Prop :=
  s.ru.Moves t.ru ∨ s.ru.Removes (s.verifiedBy c) t.ru

namespace State.rosterStep

variable {s t : State} {c : Instr}

theorem keepsLaws (h : s.rosterStep c t) : s.ru.KeepsLaws t.ru := h.elim Ru.Moves.laws Ru.Removes.keepsLaws

theorem known (h : s.rosterStep c t) {z : ZoneId} (tracked : z ≠ 0) (before : s.zoneStatus z = .unknown)
    (now : t.zoneStatus z = .known) : s.verifiedBy c z := by
  have stayed : s.zoneStatus z ≠ .known := by simp [before]
  exact h.elim (fun moves => absurd (moves.known z tracked now) stayed) fun removes =>
    (removes.known z tracked now).resolve_left stayed

/-- Work on other blocks than RU. -/
theorem elsewhere (ru : t.ru = s.ru) : s.rosterStep c t := .inr (.of_eq ru)

/-- A command that acts only under a condition. -/
theorem ite {p : Prop} [Decidable p] (ru : t.ru = s.ru) : s.rosterStep c (if p then t else s) := by
  split
  · exact elsewhere ru
  · exact elsewhere rfl

end State.rosterStep

/-- R212: a power-on reset empties the lists, and every zone is UNKNOWN. -/
theorem powerOn_removes (s : State) (b : Bool) (verified : ZoneId → Prop) :
    s.ru.Removes verified (s.powerOn b).ru := by
  rw [powerOn_ru]
  refine ⟨fun z => by simp [State.reset], fun z tracked known => ?_⟩
  have start : State.reset.ru.status.get z = if z = 0 then .known else (Vector.replicate 12 .unknown).get z :=
    get_set _ (0 : ZoneId) z _
  rw [start, if_neg tracked, get_replicate] at known
  cases known

/-- Chapter 7: a command does its own work, and both transmitters take what is next. -/
theorem exec_rosterStep (c : Instr) (s : State) : ∃ u : State, exec c s = u.done ∧ s.rosterStep c u := by
  cases c with
  | powerOnReset b => exact ⟨_, rfl, .inr (powerOn_removes s b _)⟩
  | clockAdvance => exact ⟨s.tickClock.refreshAfterHours.tickChannels, rfl, .elsewhere (by simp)⟩
  | loopFrameReceived arrival ms bytes =>
    exact ⟨_, rfl, .inl ((State.Moves.elsewhere (reachMs_ru ..)).trans (.loopBytes _ arrival bytes))⟩
  | bucketReadComplete slots => exact ⟨_, rfl, .inl (State.Moves.readCompletes s slots)⟩
  | bucketReadTimeout => exact ⟨_, rfl, .inl (State.Moves.readEndsFaulted s)⟩
  | stationFrameReceived bytes =>
    have arrived : (bytes.foldl State.rxByte s).ru = s.ru :=
      foldl_keeps State.ru _ (rxByte_keeps State.ru (by simp) (by simp)) bytes s
    exact ⟨_, rfl, .inr (arrived ▸ Ru.Removes.takeIntake (bytes.foldl State.rxByte s))⟩
  | stationFrameGap next =>
    have arrived : ((s.setRx []).rxByte next).ru = s.ru := rxByte_keeps State.ru (by simp) (by simp) _ next
    exact ⟨_, rfl, .inr (arrived ▸ Ru.Removes.takeIntake ((s.setRx []).rxByte next))⟩
  | settleTimerExpiry line =>
    exact ⟨_, rfl, .inr (.settleExpired s line fun g z general function on => ⟨g, general, function, on⟩)⟩
  | tableWrite seq entries => exact ⟨_, rfl, .inr (.takeCommand (.cmdTableWrite s entries) seq _)⟩
  | zoneVerifyClear seq zone => exact ⟨_, rfl, .inr (.takeCommand (.verifyBody s zone .clear fun _ => id) seq _)⟩
  | zoneVerifyKeep seq zone => exact ⟨_, rfl, .inr (.takeCommand (.verifyBody s zone .keep fun _ => id) seq _)⟩
  | zoneUnknown seq zone => exact ⟨_, rfl, .inr (.takeCommand (.cmdZoneUnknown s zone) seq _)⟩
  | doorGrant seq door => exact ⟨_, rfl, .inr (.takeCommand (.cmdDoorGrant s door) seq _)⟩
  | tablePoint seq | tableRead seq | credPut seq | credDrop seq | credLook seq | holidayAdd seq | holidayDrop seq
  | clockSet seq | channelReset seq | channelLockout seq | channelRestore seq | alarmAck seq | alarmClear seq
  | alarmClearZone seq | strongroomCancel seq | status seq | restart seq =>
    exact ⟨_, rfl, .inr (.takeCommand (.of_eq (by simp)) seq _)⟩
  | timebaseDegraded | timebaseRestored | crystalGapWhileDegraded | sweepDue | sweepUnreturned | silenceTimerExpiry
  | deviceMissing | unlockTimerExpiry | heldOpenTimerExpiry | pairingTimerExpiry | custodyPairingExpiry
  | displayTimerExpiry | delayTimerExpiry | confirmTimerExpiry | strongroomUnlockExpiry | boltSettleExpiry
  | countdownExpiry | driveTimerExpiry | valveConfirmTimeout | soakTimerExpiry | toneRefresh | driveFault
  | driveFaultCleared | intervalTimerExpiry | promptRepeat | graceTimerExpiry => exact ⟨_, rfl, .ite (by simp)⟩
  | slotWriteTimeout | readBackComplete | readBackTimeout | pressTimerExpiry | loopFrameSent | loopBoundStationFrame
  | stationFrameSent | slotWriteComplete | driveReadbackChange | levelLineChange | pulseLineChange | recoveryTimerExpiry
  | stationLenOver40 => exact ⟨_, rfl, .elsewhere (by simp)⟩

theorem rosterStep_of_exec {c : Instr} {s t : State} (h : exec c s = .next t) : s.rosterStep c t := by
  obtain ⟨u, done, step⟩ := exec_rosterStep c s
  obtain rfl : u.settle = t := Host.Outcome.next.inj (done.symm.trans h)
  rw [State.rosterStep, settle_ru]
  exact step

/-- 7.1: laws 3 and 4 and the limits outlast every step. -/
theorem step_keepsLaws {s t : State} (h : step s = .next t) : s.ru.KeepsLaws t.ru := by
  unfold step at h
  split at h
  · cases h; exact (Ru.Removes.refl (verified := fun _ => False) s.ru).keepsLaws
  · exact (rosterStep_of_exec h).keepsLaws

/-- R198: with no frame waiting, a frame that verifies a zone stands whole among the bytes held and received. -/
theorem intake_verifies {s : State} (empty : s.intakeEmpty) {l : List Byte} {z : ZoneId} {f : Frame}
    (of : f ∈ (l.foldl State.rxByte s).sp.intake) (verifies : f.verifies z) :
    ∃ (pre post : List Byte) (code n seqByte : Byte), (code = 0x20 ∨ code = 0x21) ∧ n.toNat = z.val
      ∧ s.sp.rx ++ l =
        pre ++ (Frame.wire { dst := 0, src := 0x40, kind := 0x20, seqByte, payload := [code, n] }).drop 1 ++ post := by
  have none : s.sp.intake = [] := empty
  have heard : s.Heard s.sp.rx := ⟨List.suffix_rfl, by simp [none]⟩
  obtain ⟨pre, post, bytes⟩ := (rxBytes_heard heard l).intake f of
  obtain ⟨code, n, named, number, frame⟩ := (verifies_iff f z).1 verifies
  exact ⟨pre, post, code, n, f.seqByte, named, number, by rw [← frame]; exact bytes.symm⟩

end Sys2Proof.Machine
end

section
open Sys2Proof Sys2Proof.Machine

/-- Settles O38: RU's part in a command is to move credentials, to take entries out or to verify zones; each keeps the laws, and
only a verification makes a zone KNOWN. -/
theorem rostersStaySound : Obligations.RostersStaySound := by
  refine ⟨fun s t h => ?_, fun c s t z empty h tracked before now => ?_⟩
  · obtain ⟨once, pool, room⟩ := step_keepsLaws h
    exact ⟨once, pool, room⟩
  · have verified := (rosterStep_of_exec h).known tracked before now
    cases c
    case zoneVerifyClear seq n => exact .inl ⟨seq, n, .inl rfl, verified⟩
    case zoneVerifyKeep seq n => exact .inl ⟨seq, n, .inr rfl, verified⟩
    case stationFrameReceived l =>
      obtain ⟨f, of, verifies⟩ := verified
      obtain ⟨pre, post, code, n, seqByte, named, number, bytes⟩ := intake_verifies empty of verifies
      exact .inr (.inl ⟨l, pre, post, code, n, seqByte, rfl, named, number, bytes⟩)
    case stationFrameGap b =>
      obtain ⟨f, of, -⟩ := verified
      have none : s.sp.intake = [] := empty
      rw [rxByte_after_gap, none] at of
      cases of
    case settleTimerExpiry line =>
      obtain ⟨g, rfl, function, raw⟩ := verified
      exact .inr (.inr ⟨g, rfl, function, raw⟩)
    all_goals exact verified.elim

end

section
namespace Sys2Proof.Machine

/-! ## What a zone notice leaves of SC's devices -/

section
variable (s : State)

@[simp] theorem changeTone_sc_devs (c : ChannelId) (t : Tone) : (s.changeTone c t).sc.devs = s.sc.devs := by
  unfold State.changeTone State.notifyTone State.toneNotice State.sendTone State.restartRefresh
  dsimp only; (repeat' split) <;> simp
@[simp] theorem recompute_sc_devs (c : ChannelId) : (s.recompute c).sc.devs = s.sc.devs := by
  unfold State.recompute State.holdCountdown State.resumeCountdown; dsimp only; (repeat' split) <;> simp
@[simp] theorem scZoneNotice_sc_devs (z : ZoneId) (status : ZoneStatus) (n : Nat) :
    (s.scZoneNotice z status n).sc.devs = s.sc.devs := by
  unfold State.scZoneNotice State.recomputeZone; split <;> simp
@[simp] theorem zoneNotices_sc_devs (before : State) : (before.zoneNotices s).sc.devs = s.sc.devs :=
  foldl_keeps (fun t => t.sc.devs) _ (fun t z => by split <;> simp [State.giveZoneNotice]) _ _

end

/-! ## Notices of a zone with no channel, outside after hours -/

section
variable {s : State} {z : ZoneId}

/-- R190: outside after hours there is no lone condition, and the notice only records the new values. -/
theorem giveZoneNotice_staffed (noChannel : s.channelOf z = none) (staffed : (s.lone z).afterHours = false) (n : ZoneNotice) :
    s.giveZoneNotice z n =
      (s.setZoneView z { s.zoneView z with status := n.status, count := n.count }).setLone z
        { s.lone z with count := n.count, sole := n.sole } := by
  have view (v : ZoneView) : (s.setZoneView z v).channelOf z = none := noChannel
  have timer (v : ZoneView) : (s.setZoneView z v).lone z = s.lone z := rfl
  have before : (s.lone z).condition = none := by simp [Lone.condition, staffed]
  have now : Lone.condition { s.lone z with count := n.count, sole := n.sole } = none := by simp [Lone.condition, staffed]
  simp only [State.giveZoneNotice, State.scZoneNotice, State.recomputeZone, view, State.loneZoneNotice, State.loneChanged,
    timer, lone_setLone_self]
  exact if_pos (now.trans before.symm)

/-- R152: where such a zone alone has changed, the notices send and post nothing. -/
theorem zoneNotices_staffed {before : State} (others : ∀ k, k ≠ z → s.zoneNow k = before.zoneNow k)
    (noChannel : s.channelOf z = none) (staffed : (s.lone z).afterHours = false) :
    (before.zoneNotices s).rm = s.rm ∧ (before.zoneNotices s).sp = s.sp := by
  obtain ⟨rm, sp, -⟩ : (before.zoneNotices s).rm = s.rm ∧ (before.zoneNotices s).sp = s.sp
      ∧ (before.zoneNotices s).channelOf z = none ∧ ((before.zoneNotices s).lone z).afterHours = false := by
    refine List.foldlRecOn (motive := fun t : State =>
      t.rm = s.rm ∧ t.sp = s.sp ∧ t.channelOf z = none ∧ (t.lone z).afterHours = false) trackedZones _
      ⟨rfl, rfl, noChannel, staffed⟩ fun t ⟨rm, sp, free, day⟩ k _ => ?_
    split
    · exact ⟨rm, sp, free, day⟩
    · next changed =>
      obtain rfl : k = z := not_not.1 fun other => changed (others k other)
      rw [giveZoneNotice_staffed free day]
      exact ⟨rm, sp, free, by rw [lone_setLone_self]; exact day⟩
  exact ⟨rm, sp⟩

end

/-! ## What a zone command leaves -/

/-- R147 to R149: `t` comes from `s` by a zone command that changed zone `z` alone, its event being `r`. -/
structure State.ZoneWork (s : State) (z : ZoneId) (r : EventRecord) (t : State) : Prop where
  replies : t.sp.replies = s.sp.replies
  alarms : t.sau.alarms = s.sau.alarms
  devs : t.sc.devs = s.sc.devs
  front : t.pending = s.pending ∧ t.fc = s.fc ∧ t.csu = s.csu ∧ t.csc = s.csc ∧ t.pe = s.pe ∧ t.dc = s.dc
  quiet : s.channelOf z = none → (s.lone z).afterHours = false → t.sp.events = (s.sp.enqueue r).events ∧ t.rm = s.rm

section
variable {s : State} {z : ZoneId}

/-- R152: RU changes zone `z` and posts the event, and the notices follow. -/
theorem zoneWork_of_notices {u : State} (r : EventRecord) (others : ∀ k, k ≠ z → u.zoneNow k = s.zoneNow k)
    (rest : u = { s with ru := u.ru, sp := s.sp.enqueue r }) : s.ZoneWork z r (s.zoneNotices u) := by
  have kept := zoneNotices_alarmsAndReplies u s
  simp only [State.alarmsAndReplies, Prod.mk.injEq] at kept
  obtain ⟨alarms, replies⟩ := kept
  refine ⟨?_, ?_, ?_, ?_, fun noChannel staffed => ?_⟩
  · rw [replies, rest, enqueue_replies]
  · rw [alarms, rest]
  · rw [zoneNotices_sc_devs, rest]
  · rw [zoneNotices_pending, zoneNotices_fc, zoneNotices_csu, zoneNotices_csc, zoneNotices_pe, zoneNotices_dc, rest]
    exact ⟨rfl, rfl, rfl, rfl, rfl, rfl⟩
  · obtain ⟨rm, sp⟩ := zoneNotices_staffed others (by rw [rest]; exact noChannel) (by rw [rest]; exact staffed)
    rw [sp, rm, rest]
    exact ⟨rfl, rfl⟩

/-- R148, R149: a verification. -/
theorem verify_zoneWork (r : VerifyReason) :
    s.ZoneWork z (s.event .zoneVerified (zone := some z)
      (reason := some (paired r.code (r.kept (s.roster z)).length))) (s.verify z r) := by
  rw [verify_eq]
  refine zoneWork_of_notices _ (fun k other => ?_) rfl
  have roster : (s.setRoster z (r.kept (s.roster z))).roster k = s.roster k := by rw [roster_setRoster, if_neg other]
  have status : (s.setZoneStatus z .known).zoneStatus k = s.zoneStatus k := by rw [zoneStatus_setZoneStatus, if_neg other]
  exact congrArg₂ (fun l st => ({ status := st, count := l.length, sole := soleOf l } : ZoneNotice)) roster status

/-- R147: a KNOWN zone becomes UNKNOWN. -/
theorem makeUnknown_zoneWork (tracked : z ≠ 0) (known : s.zoneStatus z = .known) :
    s.ZoneWork z (s.event .zoneUnknown (zone := some z) (reason := some 3))
      (s.zoneNotices (s.makeUnknown z .station)) := by
  rw [makeUnknown_eq, if_pos ⟨tracked, known⟩]
  refine zoneWork_of_notices _ (fun k other => ?_) rfl
  have status : (s.setZoneStatus z .unknown).zoneStatus k = s.zoneStatus k := by rw [zoneStatus_setZoneStatus, if_neg other]
  exact congrArg (fun st => ({ status := st, count := (s.roster k).length, sole := soleOf (s.roster k) } : ZoneNotice)) status

end

/-! ## The zone commands -/

section
variable {s t : State} {seq : BitVec 4} {n : Byte} {z : ZoneId} {r : ReplyCode}

theorem exec_zoneVerifyClear_taken (taken : s.takesCommands) (answered : verifyBody n .clear s = (t, .now r [])) :
    exec (.zoneVerifyClear seq n) s = .next (t.addReply seq (.ready [0x20, BitVec.ofNat 8 r.code])).settle :=
  takeCommand_now taken seq codeZoneVerifyClear answered

theorem exec_zoneVerifyKeep_taken (taken : s.takesCommands) (answered : verifyBody n .keep s = (t, .now r [])) :
    exec (.zoneVerifyKeep seq n) s = .next (t.addReply seq (.ready [0x21, BitVec.ofNat 8 r.code])).settle :=
  takeCommand_now taken seq codeZoneVerifyKeep answered

theorem exec_zoneUnknown_taken (taken : s.takesCommands) (answered : cmdZoneUnknown n s = (t, .now r [])) :
    exec (.zoneUnknown seq n) s = .next (t.addReply seq (.ready [0x22, BitVec.ofNat 8 r.code])).settle :=
  takeCommand_now taken seq codeZoneUnknown answered

theorem verifyBody_badIndex (untracked : trackedZoneOf n.toNat = none) (v : VerifyReason) :
    verifyBody n v s = s.no .badIndex := by
  simp only [verifyBody, untracked]

theorem cmdZoneUnknown_badIndex (untracked : trackedZoneOf n.toNat = none) : cmdZoneUnknown n s = s.no .badIndex := by
  simp only [cmdZoneUnknown, untracked]

theorem zoneReleasing_iff :
    s.zoneReleasing z = true ↔ ∃ c, s.channelOf z = some c ∧ (s.channel c).state = .releasing := by
  unfold State.zoneReleasing
  split <;> simp [*]

section
variable (number : trackedZoneOf n.toNat = some z)
include number

theorem verifyBody_releasing (releasing : s.zoneReleasing z = true) (v : VerifyReason) :
    verifyBody n v s = s.no .refusedState := by
  simp only [verifyBody, number, releasing, if_true]

theorem verifyBody_verifies (free : s.zoneReleasing z = false) (v : VerifyReason) :
    verifyBody n v s = (s.verify z v).yes := by
  simp only [verifyBody, number, free, Bool.false_eq_true, if_false]

theorem cmdZoneUnknown_tracked : cmdZoneUnknown n s = (s.zoneNotices (s.makeUnknown z .station)).yes := by
  simp only [cmdZoneUnknown, number]

/-- R147: an UNKNOWN zone stays as it is, and nothing is told. -/
theorem cmdZoneUnknown_unknown (unknown : s.zoneStatus z = .unknown) : cmdZoneUnknown n s = s.yes := by
  have same : s.makeUnknown z .station = s := by rw [makeUnknown_eq, if_neg (by simp [unknown])]
  have silent : s.zoneNotices s = s := foldl_unchanged _ _ _ fun k _ => if_pos rfl
  rw [cmdZoneUnknown_tracked number, same, silent]

end

end
end Sys2Proof.Machine
end

section
open Sys2Proof Sys2Proof.Machine

/-- Settles O37: each command is refused, or changes its zone alone and is followed by the notices of that zone. -/
theorem zoneCommandsResult : Obligations.ZoneCommandsResult := by
  intro s seq n taken answers
  refine ⟨fun outside => ?_, fun z tracked number => ?_⟩
  · have untracked : trackedZoneOf n.toNat = none :=
      trackedZoneOf_none.2 (outside.imp_left fun zero => by rw [zero]; rfl)
    exact ⟨exec_zoneVerifyClear_taken taken (verifyBody_badIndex untracked .clear),
      exec_zoneVerifyKeep_taken taken (verifyBody_badIndex untracked .keep),
      exec_zoneUnknown_taken taken (cmdZoneUnknown_badIndex untracked)⟩
  intro done
  have of : trackedZoneOf n.toNat = some z := trackedZoneOf_some.2 ⟨tracked, number⟩
  have answered {c : Instr} {u : State} {r : EventRecord} {payload : List Byte}
      (runs : exec c s = .next (u.addReply seq (.ready payload)).settle) (work : s.ZoneWork z r u) :
      done c u.ru r payload := by
    obtain ⟨replies, alarms, devs, ⟨pending, fc, csu, csc, pe, dc⟩, quiet⟩ := work
    refine ⟨_, runs, rfl, ?_, quiet, pending, fc, csu, csc, pe, dc, devs, alarms⟩
    rw [addReply_sp_replies, replies]
    rfl
  refine ⟨fun c bound releasing => ?_, fun free => ?_, fun known => ?_, fun unknown => ?_⟩
  · have refused := verifyBody_releasing of (zoneReleasing_iff.2 ⟨c, bound, releasing⟩)
    exact ⟨exec_zoneVerifyClear_taken taken (refused .clear), exec_zoneVerifyKeep_taken taken (refused .keep)⟩
  · have notReleasing : s.zoneReleasing z = false := by
      rw [← Bool.not_eq_true, zoneReleasing_iff]
      exact fun ⟨c, bound, releasing⟩ => free c bound releasing
    have verifies := verifyBody_verifies of notReleasing
    refine ⟨?_, ?_⟩
    · have cleared := answered (exec_zoneVerifyClear_taken taken (verifies .clear)) (verify_zoneWork .clear)
      rw [verify_ru] at cleared
      exact cleared
    · have kept := answered (exec_zoneVerifyKeep_taken taken (verifies .keep)) (verify_zoneWork .keep)
      rw [verify_ru] at kept
      have same : s.ru.rosters.set z (VerifyReason.keep.kept (s.roster z)) z.isLt = s.ru.rosters := by
        apply Vector.ext
        intro i hi
        simp [VerifyReason.kept, State.roster, Vector.get_eq_getElem]
      rw [same] at kept
      exact kept
  · have told := answered (exec_zoneUnknown_taken taken (cmdZoneUnknown_tracked of)) (makeUnknown_zoneWork tracked known)
    rw [zoneNotices_ru, makeUnknown_ru, Ru.unknownAt, if_neg tracked] at told
    exact told
  · exact exec_zoneUnknown_taken taken (cmdZoneUnknown_unknown of unknown)

end

section
namespace Sys2Proof.Machine

/-! ## What the laws of chapter 8 read -/

/-- R160: what of SC's own the hold-cause sets are formed from. -/
def Sc.inputs (p : Sc) :
    Vector (Option ZoneId × Bool) 6 × Vector Bool 63 × Vector ZoneView 12 × Vector (Option DoorView) 16 :=
  (p.channels.map fun ch => (ch.zone, ch.abortLine), p.devs.map ScDevice.abortHeld, p.zoneViews, p.doorViews)

/-- R166 to R169: what the laws read of a channel besides. -/
structure ChannelCore where
  hold : HoldSet
  state : ChannelState
  driveOn : Bool

def Channel.core (x : Channel) : ChannelCore := { hold := x.hold, state := x.state, driveOn := x.driveOn }

def Sc.cores (p : Sc) : Vector ChannelCore 6 := p.channels.map Channel.core

/-- R159: the roles of the devices, among which the abort stations are found. -/
def Fc.roles (f : Fc) : Vector DevRole 63 := f.devices.map Device.role

/-- R187: what the alarm conditions of the zones are read from. -/
def Sau.raised (a : Sau) : List ZoneId × Vector Bool 12 := (a.alarms.map AlarmRecord.zone, a.overflow)

/-- R161: what DC reports of the doors. -/
def Dc.views (x : Dc) : Vector (Option DoorView) 16 := x.doors.map Door.view

/-- A map reads an entry that is written as it was. -/
theorem map_set_same {α β : Type} {n : Nat} {v : Vector α n} {f : α → β} {i : Fin n} {x : α} (h : f x = f (v.get i)) :
    (v.set i.val x i.isLt).map f = v.map f := by
  apply Vector.ext
  intro j hj
  have same : f x = f v[i.val] := h
  simp only [Vector.getElem_map, Vector.getElem_set]
  split
  · next here => subst here; exact same
  · rfl

theorem get_of_map_eq {α β : Type} {n : Nat} {v w : Vector α n} {f : α → β} (h : v.map f = w.map f) (i : Fin n) :
    f (v.get i) = f (w.get i) := by
  have at_i := congrArg (fun u => u.get i) h
  simpa using at_i

section
variable {s t : State}

theorem inputs_zone (h : t.sc.inputs = s.sc.inputs) (c : ChannelId) : (t.channel c).zone = (s.channel c).zone :=
  congrArg Prod.fst (get_of_map_eq (congrArg Prod.fst h) c)

theorem inputs_abortLine (h : t.sc.inputs = s.sc.inputs) (c : ChannelId) :
    (t.channel c).abortLine = (s.channel c).abortLine :=
  congrArg Prod.snd (get_of_map_eq (congrArg Prod.fst h) c)

theorem inputs_abortHeld (h : t.sc.inputs = s.sc.inputs) (d : DevIx) : (t.scDev d).abortHeld = (s.scDev d).abortHeld :=
  get_of_map_eq (congrArg (fun x => x.2.1) h) d

theorem inputs_zoneView (h : t.sc.inputs = s.sc.inputs) (z : ZoneId) : t.zoneView z = s.zoneView z :=
  congrArg (fun x => x.2.2.1.get z) h

theorem inputs_doorView (h : t.sc.inputs = s.sc.inputs) (d : DoorId) : t.doorView d = s.doorView d :=
  congrArg (fun x => x.2.2.2.get d) h

theorem roles_role (h : t.fc.roles = s.fc.roles) (d : DevIx) : (t.device d).role = (s.device d).role := get_of_map_eq h d

theorem views_view (h : t.dc.views = s.dc.views) (d : DoorId) : (t.door d).view = (s.door d).view := get_of_map_eq h d

theorem cores_core (h : t.sc.cores = s.sc.cores) (c : ChannelId) : (t.channel c).core = (s.channel c).core :=
  get_of_map_eq h c

theorem cores_state (h : t.sc.cores = s.sc.cores) (c : ChannelId) : (t.channel c).state = (s.channel c).state :=
  congrArg ChannelCore.state (cores_core h c)

/-- R187: the alarm condition of a zone. -/
theorem raised_alarmCondition (h : t.sau.raised = s.sau.raised) (z : ZoneId) : t.alarmCondition z = s.alarmCondition z := by
  have zones : t.sau.alarms.map AlarmRecord.zone = s.sau.alarms.map AlarmRecord.zone := congrArg Prod.fst h
  have overflow : t.alarmOverflow z = s.alarmOverflow z := congrArg (fun x => x.2.get z) h
  have any (u : State) : u.sau.alarms.any (fun r => r.zone == z) = (u.sau.alarms.map AlarmRecord.zone).any (· == z) := by
    rw [List.any_map]; rfl
  rw [State.alarmCondition, State.alarmCondition, any, any, zones, overflow]

/-- R160: the hold-cause sets are formed from the roles and from SC's own inputs. -/
theorem holdCauses_congr (roles : t.fc.roles = s.fc.roles) (inputs : t.sc.inputs = s.sc.inputs) (c : ChannelId) :
    t.holdCauses c = s.holdCauses c := by
  simp only [State.holdCauses, State.abortPresent, State.enclosureOpen, inputs_zone inputs, inputs_abortLine inputs,
    inputs_abortHeld inputs, inputs_zoneView inputs, inputs_doorView inputs, roles_role roles]

end

/-! ## Work that leaves these alone -/

section
variable (s : State)

@[simp] theorem inputs_setChannel {c : ChannelId} {x : Channel} (zone : x.zone = (s.channel c).zone)
    (abortLine : x.abortLine = (s.channel c).abortLine) : (s.setChannel c x).sc.inputs = s.sc.inputs :=
  Prod.ext (map_set_same (Prod.ext zone abortLine)) rfl

theorem cores_setChannel {c : ChannelId} {x : Channel} (core : x.core = (s.channel c).core) :
    (s.setChannel c x).sc.cores = s.sc.cores :=
  map_set_same core

@[simp] theorem setScDev_cores (d : DevIx) (x : ScDevice) : (s.setScDev d x).sc.cores = s.sc.cores := rfl
@[simp] theorem inputs_setScDev {d : DevIx} {x : ScDevice} (held : x.abortHeld = (s.scDev d).abortHeld) :
    (s.setScDev d x).sc.inputs = s.sc.inputs :=
  Prod.ext rfl (Prod.ext (map_set_same held) rfl)

@[simp] theorem setKey_inputs (g : GiId) (x : Option ChannelId) : (s.setKey g x).sc.inputs = s.sc.inputs := rfl
@[simp] theorem setKey_cores (g : GiId) (x : Option ChannelId) : (s.setKey g x).sc.cores = s.sc.cores := rfl

@[simp] theorem roles_setDevice {d : DevIx} {x : Device} (role : x.role = (s.device d).role) :
    (s.setDevice d x).fc.roles = s.fc.roles := map_set_same role

theorem Door.view_congr {x y : Door} (entry : x.entry = y.entry) (contact : x.contact = y.contact) : x.view = y.view := by
  rw [Door.view, Door.view, entry, contact]

@[simp] theorem setDoor_views {d : DoorId} {x : Door} (entry : x.entry = (s.door d).entry)
    (contact : x.contact = (s.door d).contact) : (s.setDoor d x).dc.views = s.dc.views :=
  map_set_same (Door.view_congr entry contact)

/-! ### DC -/

@[simp] theorem setBolt_views (d : DoorId) (b : Bolt) : (s.setBolt d b).dc.views = s.dc.views := by
  simp [State.setBolt]
@[simp] theorem driveBolt_views (d : DoorId) (b : Bolt) : (s.driveBolt d b).dc.views = s.dc.views := by
  simp [State.driveBolt]
@[simp] theorem cancelSequence_views (d : DoorId) (r : CancelReason) : (s.cancelSequence d r).dc.views = s.dc.views := by
  have ended : (s.setDoor d (s.door d).endSequence).dc.views = s.dc.views := setDoor_views s rfl rfl
  unfold State.cancelSequence; dsimp only; split <;> simp [ended]
@[simp] theorem rebolt_views (d : DoorId) (r : CancelReason) : (s.rebolt d r).dc.views = s.dc.views := by
  simp [State.rebolt]
@[simp] theorem lockoutEntered_views (z : ZoneId) : (s.lockoutEntered z).dc.views = s.dc.views :=
  foldl_keeps (fun t => t.dc.views) _ (fun t d => by unfold State.lockoutDoor; dsimp only; (repeat' split) <;> simp) _ _
@[simp] theorem notifyLockout_views (c : ChannelId) : (s.notifyLockout c).dc.views = s.dc.views := by
  unfold State.notifyLockout; split <;> simp
@[simp] theorem setOpen_views (d : DoorId) : (s.setOpen d).dc.views = s.dc.views := by simp [State.setOpen]
@[simp] theorem setHeldOpen_views (d : DoorId) : (s.setHeldOpen d).dc.views = s.dc.views := by simp [State.setHeldOpen]
@[simp] theorem lockDoor_views (d : DoorId) : (s.lockDoor d).dc.views = s.dc.views := by simp [State.lockDoor]
@[simp] theorem unlockFor_views (d : DoorId) (p : Passage) : (s.unlockFor d p).dc.views = s.dc.views := by
  simp [State.unlockFor]
@[simp] theorem secure_views (d : DoorId) : (s.secure d).dc.views = s.dc.views := by simp [State.secure]
@[simp] theorem refuseEscort_views (d : DoorId) (m : Message) (r : DenyReason) :
    (s.refuseEscort d m r).dc.views = s.dc.views := by
  unfold State.refuseEscort; split <;> simp
@[simp] theorem plainFault_views (d : DoorId) : (s.plainFault d).dc.views = s.dc.views := by
  unfold State.plainFault; dsimp only; (repeat' split) <;> simp
@[simp] theorem completePairing_views (g : Grant) (e : Escort) : (s.completePairing g e).dc.views = s.dc.views := by
  simp [State.completePairing]
@[simp] theorem escortPresented_views (d : DoorId) (e : Escort) : (s.escortPresented d e).dc.views = s.dc.views := by
  unfold State.escortPresented; dsimp only; (repeat' split) <;> simp
@[simp] theorem unlockExpired_views (d : DoorId) : (s.unlockExpired d).dc.views = s.dc.views := by
  unfold State.unlockExpired; dsimp only; split <;> simp
@[simp] theorem firstCustodian_views (c : Custody) : (s.firstCustodian c).dc.views = s.dc.views := by
  unfold State.firstCustodian; split <;> simp
@[simp] theorem startDelay_views (c : Custody) (b : Budget) : (s.startDelay c b).dc.views = s.dc.views := by
  simp [State.startDelay]
@[simp] theorem secondCustodian_views (c : Custody) (a : Custodian) : (s.secondCustodian c a).dc.views = s.dc.views := by
  unfold State.secondCustodian; dsimp only; (repeat' split) <;> simp
@[simp] theorem unboltForEntry_views (c : Custody) : (s.unboltForEntry c).dc.views = s.dc.views := by
  simp [State.unboltForEntry]
@[simp] theorem confirmCustody_views (c : Custody) : (s.confirmCustody c).dc.views = s.dc.views := by
  unfold State.confirmCustody; dsimp only; (repeat' split) <;> simp
@[simp] theorem unboltForExit_views (g : Grant) : (s.unboltForExit g).dc.views = s.dc.views := by
  simp [State.unboltForExit]
@[simp] theorem strongroomFault_views (d : DoorId) : (s.strongroomFault d).dc.views = s.dc.views := by
  unfold State.strongroomFault; dsimp only; (repeat' split) <;> simp
@[simp] theorem compareBolt_views (d : DoorId) (b : Bolt) : (s.compareBolt d b).dc.views = s.dc.views := by
  unfold State.compareBolt; dsimp only; (repeat' split) <;> simp
@[simp] theorem unboltExpired_views (d : DoorId) : (s.unboltExpired d).dc.views = s.dc.views := by
  unfold State.unboltExpired; dsimp only; split <;> simp
@[simp] theorem delayExpired_views (d : DoorId) : (s.delayExpired d).dc.views = s.dc.views := by
  unfold State.delayExpired; dsimp only; (repeat' split) <;> simp
@[simp] theorem displayExpired_views (d : DoorId) : (s.displayExpired d).dc.views = s.dc.views := by
  simp [State.displayExpired]

/-! ### SAU -/

@[simp] theorem setAlarms_raised (l : List AlarmRecord) :
    (s.setAlarms l).sau.raised = (l.map AlarmRecord.zone, s.sau.overflow) := rfl
@[simp] theorem setLone_raised (z : ZoneId) (l : Lone) : (s.setLone z l).sau.raised = s.sau.raised := rfl
@[simp] theorem setZoneTone_raised (z : ZoneId) (t : Tone) : (s.setZoneTone z t).sau.raised = s.sau.raised := rfl
@[simp] theorem setLineFunction_raised (g : GiId) (f : LineFunction) : (s.setLineFunction g f).sau.raised = s.sau.raised := rfl
@[simp] theorem setLine_raised (l : InputLine) (x : Line) : (s.setLine l x).sau.raised = s.sau.raised := by cases l <;> rfl
@[simp] theorem toneNotice_raised (z : ZoneId) (t : Tone) : (s.toneNotice z t).sau.raised = s.sau.raised := by
  unfold State.toneNotice; dsimp only; split <;> simp
@[simp] theorem notifyTone_raised (c : ChannelId) (t : Tone) : (s.notifyTone c t).sau.raised = s.sau.raised := by
  unfold State.notifyTone; split <;> simp
@[simp] theorem changeTone_raised (c : ChannelId) (t : Tone) : (s.changeTone c t).sau.raised = s.sau.raised := by
  unfold State.changeTone; dsimp only; split <;> simp
@[simp] theorem toneOff_raised (c : ChannelId) (t : Tone) : (s.toneOff c t).sau.raised = s.sau.raised := by
  unfold State.toneOff; split <;> simp
@[simp] theorem recompute_raised (c : ChannelId) : (s.recompute c).sau.raised = s.sau.raised := by
  unfold State.recompute State.holdCountdown State.resumeCountdown; dsimp only; (repeat' split) <;> simp
@[simp] theorem recomputeZone_raised (z : ZoneId) : (s.recomputeZone z).sau.raised = s.sau.raised := by
  unfold State.recomputeZone; split <;> simp
@[simp] theorem recomputeZones_raised (p : ZoneId → Bool) : (s.recomputeZones p).sau.raised = s.sau.raised :=
  foldl_keeps (fun t => t.sau.raised) _ (fun t z => by split <;> simp) _ _
@[simp] theorem goIdle_raised (z : ZoneId) : (s.goIdle z).sau.raised = s.sau.raised := by
  unfold State.goIdle; dsimp only; split <;> simp
@[simp] theorem startRunning_raised (z : ZoneId) (n : Nat) : (s.startRunning z n).sau.raised = s.sau.raised := by
  simp [State.startRunning]
@[simp] theorem loneChanged_raised (z : ZoneId) (old : Option Nat) : (s.loneChanged z old).sau.raised = s.sau.raised := by
  unfold State.loneChanged; dsimp only; (repeat' split) <;> simp
@[simp] theorem loneZoneNotice_raised (z : ZoneId) (n : Nat) (sole : Option Nat) :
    (s.loneZoneNotice z n sole).sau.raised = s.sau.raised := by
  simp [State.loneZoneNotice]
@[simp] theorem loneAfterHours_raised (z : ZoneId) (flag : Bool) : (s.loneAfterHours z flag).sau.raised = s.sau.raised := by
  simp [State.loneAfterHours]
@[simp] theorem setAfterHours_raised (z : ZoneId) (flag : Bool) : (s.setAfterHours z flag).sau.raised = s.sau.raised := rfl
@[simp] theorem refreshAfterHours_raised : s.refreshAfterHours.sau.raised = s.sau.raised := by
  unfold State.refreshAfterHours
  exact foldl_keeps (fun u => u.sau.raised) _ (fun u z => by dsimp only; split <;> simp) _ _
@[simp] theorem leaveOverdue_raised (z : ZoneId) : (s.leaveOverdue z).sau.raised = s.sau.raised := by
  unfold State.leaveOverdue; (repeat' split) <;> simp
@[simp] theorem checkIn_raised (z : ZoneId) : (s.checkIn z).sau.raised = s.sau.raised := by
  unfold State.checkIn; dsimp only; (repeat' split) <;> simp
@[simp] theorem badgeCheckIn_raised (door : DoorId) (n : Nat) : (s.badgeCheckIn door n).sau.raised = s.sau.raised := by
  unfold State.badgeCheckIn
  exact foldl_keeps (fun u => u.sau.raised) _ (fun u z => by split <;> simp) _ _
@[simp] theorem enterPrompt_raised (z : ZoneId) : (s.enterPrompt z).sau.raised = s.sau.raised := by
  simp [State.enterPrompt]
@[simp] theorem repeatPrompt_raised (z : ZoneId) : (s.repeatPrompt z).sau.raised = s.sau.raised := by
  simp [State.repeatPrompt]
@[simp] theorem recoveryExpired_raised (l : InputLine) : (s.recoveryExpired l).sau.raised = s.sau.raised := by
  unfold State.recoveryExpired; dsimp only; (repeat' split) <;> simp

/-! ### SC -/

@[simp] theorem restartRefresh_inputs (c : ChannelId) (t : Tone) : (s.restartRefresh c t).sc.inputs = s.sc.inputs :=
  inputs_setChannel s rfl rfl
@[simp] theorem restartRefresh_cores (c : ChannelId) (t : Tone) : (s.restartRefresh c t).sc.cores = s.sc.cores :=
  cores_setChannel s rfl
@[simp] theorem changeTone_inputs (c : ChannelId) (t : Tone) : (s.changeTone c t).sc.inputs = s.sc.inputs := by
  unfold State.changeTone; dsimp only; split <;> simp
@[simp] theorem changeTone_cores (c : ChannelId) (t : Tone) : (s.changeTone c t).sc.cores = s.sc.cores := by
  unfold State.changeTone; dsimp only; split <;> simp
@[simp] theorem toneOff_inputs (c : ChannelId) (t : Tone) : (s.toneOff c t).sc.inputs = s.sc.inputs := by
  unfold State.toneOff; split <;> simp
@[simp] theorem toneOff_cores (c : ChannelId) (t : Tone) : (s.toneOff c t).sc.cores = s.sc.cores := by
  unfold State.toneOff; split <;> simp

end
end Sys2Proof.Machine
end

section
namespace Sys2Proof.Machine

/-! ## What the work of the controller keeps of the channels, their hold causes and SC's copies -/

namespace ChannelCore

/-- R169: law 1 at one channel. -/
def driven (k : ChannelCore) : Prop := k.driveOn = true → k.state = .releasing

/-- R165 to R167: no cause stands in PRE_DISCHARGE, and one at least in HELD. -/
def acted (k : ChannelCore) : Prop := (k.state = .preDischarge → k.hold = .empty) ∧ (k.state = .held → k.hold ≠ .empty)

end ChannelCore

theorem drivesOnlyReleasing_iff (s : State) : s.drivesOnlyReleasing ↔ ∀ c : ChannelId, (s.channel c).core.driven := Iff.rfl

theorem holdsActed_iff (s : State) : s.holdsActed ↔ ∀ c : ChannelId, (s.channel c).core.acted := Iff.rfl

/-- R160: the hold-cause set of one channel is current. -/
def State.holdCurrent (s : State) (c : ChannelId) : Prop := (s.channel c).hold = s.holdCauses c

/-- R139, R156: no zone has two channels. -/
def State.zonesApart (s : State) : Prop :=
  ∀ (c e : ChannelId) (z : ZoneId), (s.channel c).zone = some z → (s.channel e).zone = some z → c = e

/-- `t` comes from `s` by work that keeps the hold-cause sets current and acted on, and law 1. -/
structure State.KeepsHolds (s t : State) : Prop where
  driven : ∀ c, (s.channel c).core.driven → (t.channel c).core.driven
  acted : ∀ c, (s.channel c).core.acted → (t.channel c).core.acted
  holds : s.holdsCurrent → t.holdsCurrent

/-- Such work that brings no channel into RELEASING. -/
structure State.Withholds (s t : State) : Prop extends s.KeepsHolds t where
  withheld : ∀ c, (t.channel c).state = .releasing → (s.channel c).state = .releasing

/-- Such work after which SC's copies are as current as before. -/
structure State.Informs (s t : State) : Prop extends s.Withholds t where
  copies : s.copiesCurrent → t.copiesCurrent

section
variable {r s t : State}

theorem zonesApart_congr (inputs : t.sc.inputs = s.sc.inputs) (h : s.zonesApart) : t.zonesApart := fun c e z hc he =>
  h c e z ((inputs_zone inputs c).symm.trans hc) ((inputs_zone inputs e).symm.trans he)

theorem holdCurrent_congr {c : ChannelId} (roles : t.fc.roles = s.fc.roles) (inputs : t.sc.inputs = s.sc.inputs)
    (hold : (t.channel c).hold = (s.channel c).hold) (h : s.holdCurrent c) : t.holdCurrent c := by
  rw [State.holdCurrent, hold, holdCauses_congr roles inputs]
  exact h

theorem holdsCurrent_congr (roles : t.fc.roles = s.fc.roles) (inputs : t.sc.inputs = s.sc.inputs)
    (cores : t.sc.cores = s.sc.cores) (h : s.holdsCurrent) : t.holdsCurrent :=
  ⟨fun c => holdCurrent_congr roles inputs (congrArg ChannelCore.hold (cores_core cores c)) (h.1 c),
    zonesApart_congr inputs h.2⟩

theorem copiesCurrent_congr (inputs : t.sc.inputs = s.sc.inputs) (rosters : t.ru.rosters = s.ru.rosters)
    (status : t.ru.status = s.ru.status) (raised : t.sau.raised = s.sau.raised) (views : t.dc.views = s.dc.views)
    (h : s.copiesCurrent) : t.copiesCurrent := by
  have roster (z) : t.roster z = s.roster z := congrArg (fun v => v.get z) rosters
  have zoneStatus (z) : t.zoneStatus z = s.zoneStatus z := congrArg (fun v => v.get z) status
  refine ⟨fun z tracked => ?_, fun d => ?_⟩
  · rw [inputs_zoneView inputs, zoneStatus, roster, raised_alarmCondition raised]
    exact h.1 z tracked
  · rw [inputs_doorView inputs, views_view views]
    exact h.2 d

theorem State.KeepsHolds.trans (h : r.KeepsHolds s) (k : s.KeepsHolds t) : r.KeepsHolds t :=
  ⟨fun c => k.driven c ∘ h.driven c, fun c => k.acted c ∘ h.acted c, k.holds ∘ h.holds⟩

namespace State.Withholds

theorem refl (s : State) : s.Withholds s := ⟨⟨fun _ => id, fun _ => id, id⟩, fun _ => id⟩

theorem trans (h : r.Withholds s) (k : s.Withholds t) : r.Withholds t :=
  ⟨h.toKeepsHolds.trans k.toKeepsHolds, fun c => h.withheld c ∘ k.withheld c⟩

/-- Work on what the sets and the laws are not read from. -/
theorem elsewhere (h : t.fc.roles = s.fc.roles ∧ t.sc.inputs = s.sc.inputs ∧ t.sc.cores = s.sc.cores) : s.Withholds t := by
  obtain ⟨roles, inputs, cores⟩ := h
  refine ⟨⟨fun c => ?_, fun c => ?_, holdsCurrent_congr roles inputs cores⟩, fun c releasing => ?_⟩
  · rw [cores_core cores]; exact id
  · rw [cores_core cores]; exact id
  · exact (congrArg ChannelCore.state (cores_core cores c)).symm.trans releasing

theorem foldl {β : Type} {f : State → β → State} (h : ∀ (t : State) (x : β), t.Withholds (f t x)) (l : List β) (s : State) :
    s.Withholds (l.foldl f s) := by
  induction l generalizing s with
  | nil => exact refl s
  | cons x l ih => exact (h s x).trans (ih _)

/-- A command that acts only under a condition. -/
theorem ite {p : Prop} [Decidable p] (h : p → s.Withholds t) : s.Withholds (if p then t else s) := by
  split
  · next hp => exact h hp
  · exact refl s

end State.Withholds

end

/-! ## A channel is written -/

section
variable {s : State} {c : ChannelId} {x : Channel}

theorem core_setChannel (e : ChannelId) :
    ((s.setChannel c x).channel e).core = if e = c then x.core else (s.channel e).core := by
  rw [channel_setChannel, apply_ite Channel.core]

/-- The state of a channel changes while what its hold causes are formed from, and their set, stand. -/
theorem State.KeepsHolds.setChannel (zone : x.zone = (s.channel c).zone) (abortLine : x.abortLine = (s.channel c).abortLine)
    (hold : x.hold = (s.channel c).hold) (driven : (s.channel c).core.driven → x.core.driven)
    (acted : (s.channel c).core.acted → x.core.acted) : s.KeepsHolds (s.setChannel c x) := by
  have inputs : (s.setChannel c x).sc.inputs = s.sc.inputs := inputs_setChannel s zone abortLine
  refine ⟨fun e => ?_, fun e => ?_, fun h => ⟨fun e => ?_, zonesApart_congr inputs h.2⟩⟩
  · rw [core_setChannel]
    split
    · next here => subst here; exact driven
    · exact id
  · rw [core_setChannel]
    split
    · next here => subst here; exact acted
    · exact id
  · refine holdCurrent_congr (s := s) rfl inputs ?_ (h.1 e)
    rw [channel_setChannel]
    split
    · next here => subst here; exact hold
    · rfl

theorem State.Withholds.setChannel (zone : x.zone = (s.channel c).zone) (abortLine : x.abortLine = (s.channel c).abortLine)
    (hold : x.hold = (s.channel c).hold) (driven : (s.channel c).core.driven → x.core.driven)
    (acted : (s.channel c).core.acted → x.core.acted) (withheld : x.state = .releasing → (s.channel c).state = .releasing) :
    s.Withholds (s.setChannel c x) := by
  refine ⟨.setChannel zone abortLine hold driven acted, fun e => ?_⟩
  rw [channel_setChannel]
  split
  · next here => subst here; exact withheld
  · exact id

/-- R173 to R175: a channel without an active drive goes to a state in which the laws ask nothing. -/
theorem State.Withholds.setChannelAtRest (zone : x.zone = (s.channel c).zone)
    (abortLine : x.abortLine = (s.channel c).abortLine) (hold : x.hold = (s.channel c).hold)
    (driveOn : x.driveOn = (s.channel c).driveOn) (from' : (s.channel c).state ≠ .releasing)
    (rest : x.state ≠ .releasing ∧ x.state ≠ .preDischarge ∧ x.state ≠ .held) : s.Withholds (s.setChannel c x) := by
  obtain ⟨notReleasing, notCounting, notHeld⟩ := rest
  refine setChannel zone abortLine hold (fun lawful on => ?_) (fun _ => ⟨?_, ?_⟩) (absurd · notReleasing)
  · exact absurd (lawful (driveOn.symm.trans on)) from'
  · exact (absurd · notCounting)
  · exact (absurd · notHeld)

end

/-! ## The hold-cause set is formed again -/

/-- R166, R167: the state that a channel in `st` takes when its hold-cause set becomes `h`. -/
def ChannelState.onCauses (st : ChannelState) (h : HoldSet) : ChannelState :=
  match st with
  | .preDischarge | .held => if h.isEmpty then .preDischarge else .held
  | .unused | .normal | .firstAlarm | .releasing | .discharged | .lockedOut => st

theorem onCauses_releasing {st : ChannelState} {h : HoldSet} : st.onCauses h = .releasing ↔ st = .releasing := by
  cases st <;> simp only [ChannelState.onCauses] <;> split <;> simp

theorem onCauses_acted (st : ChannelState) (h : HoldSet) (driveOn : Bool) :
    ChannelCore.acted { hold := h, state := st.onCauses h, driveOn } := by
  have empty := isEmpty_iff h
  constructor <;> intro state <;> simp only at state ⊢
  · refine empty.1 (by_contra fun standing => ?_)
    cases st <;> simp [ChannelState.onCauses, standing] at state
  · intro none
    have isEmpty := empty.2 none
    cases st <;> simp [ChannelState.onCauses, isEmpty] at state

section
variable (s : State) (c : ChannelId)

/-- R160: the set is formed again, and of what it is formed from nothing changes. -/
@[simp] theorem recompute_inputs : (s.recompute c).sc.inputs = s.sc.inputs := by
  unfold State.recompute State.holdCountdown State.resumeCountdown; dsimp only
  (repeat' split) <;> simp

@[simp] theorem core_postSc (kind : EventKind) (e : ChannelId) (reason : Option Nat) :
    ((s.postSc kind c reason).channel e).core = (s.channel e).core := rfl
@[simp] theorem core_changeTone (old : Tone) (e : ChannelId) : ((s.changeTone c old).channel e).core = (s.channel e).core :=
  cores_core (changeTone_cores s c old) e
@[simp] theorem core_postJoining (new old : HoldSet) (e : ChannelId) :
    ((s.postJoining c new old).channel e).core = (s.channel e).core :=
  cores_core (congrArg Sc.cores (postJoining_sc s c new old)) e

/-- R160, R166, R167: the set that SC's copies give, and the state that it asks for. -/
def State.formed : ChannelCore :=
  { hold := s.holdCauses c, state := (s.channel c).state.onCauses (s.holdCauses c), driveOn := (s.channel c).driveOn }

theorem recompute_core (e : ChannelId) :
    ((s.recompute c).channel e).core = if e = c then s.formed c else (s.channel e).core := by
  have written {x : Channel} (hold : x.hold = s.holdCauses c)
      (st : x.state = (s.channel c).state.onCauses (s.holdCauses c)) (driveOn : x.driveOn = (s.channel c).driveOn) :
      ((s.setChannel c x).channel e).core = if e = c then s.formed c else (s.channel e).core := by
    rw [core_setChannel, Channel.core, hold, st, driveOn]; rfl
  unfold State.recompute; dsimp only
  cases state : (s.channel c).state <;> dsimp only
  case preDischarge =>
    split
    · next none => apply written <;> simp [state, ChannelState.onCauses, none]
    · next standing =>
      rw [State.holdCountdown, core_postSc, core_changeTone, setChannel_setChannel]
      apply written <;> simp [state, ChannelState.onCauses, standing]
  case held =>
    split
    · next none =>
      rw [State.resumeCountdown, core_postSc, core_changeTone, setChannel_setChannel]
      apply written <;> simp [state, ChannelState.onCauses, none]
    · next standing =>
      rw [setChannel_setChannel, apply_ite (fun t : State => (t.channel e).core), core_postSc, ite_self]
      apply written <;> simp [state, ChannelState.onCauses, standing]
  case releasing =>
    rw [core_postJoining]
    apply written <;> simp [state, ChannelState.onCauses]
  case discharged =>
    rw [apply_ite (fun t : State => (t.channel e).core), core_postJoining, ite_self]
    apply written <;> simp [state, ChannelState.onCauses]
  all_goals apply written <;> simp [state, ChannelState.onCauses]

theorem recompute_holdCurrent (e : ChannelId) (h : e = c ∨ s.holdCurrent e) : (s.recompute c).holdCurrent e := by
  have causes : (s.recompute c).holdCauses e = s.holdCauses e := holdCauses_congr (by simp) (recompute_inputs s c) e
  have hold := congrArg ChannelCore.hold (recompute_core s c e)
  rw [State.holdCurrent, causes]
  refine hold.trans ?_
  split
  · next here => subst here; rfl
  · next other => exact h.resolve_left other

theorem State.Withholds.recompute : s.Withholds (s.recompute c) := by
  have inputs := recompute_inputs s c
  refine ⟨⟨fun e => ?_, fun e => ?_, fun h => ⟨fun e => recompute_holdCurrent s c e (.inr (h.1 e)), zonesApart_congr inputs h.2⟩⟩,
    fun e => ?_⟩
  · rw [recompute_core]
    split
    · next here => subst here; exact fun lawful on => onCauses_releasing.2 (lawful on)
    · exact id
  · rw [recompute_core]
    split
    · exact fun _ => onCauses_acted ..
    · exact id
  · intro releasing
    have state := congrArg ChannelCore.state (recompute_core s c e)
    split at state
    · next here => subst here; exact onCauses_releasing.1 (state.symm.trans releasing)
    · exact state.symm.trans releasing

end

/-! ## Notices to SC -/

/-- R139: in a state in which no zone has two channels, a zone's channel is the one that is bound to it. -/
theorem channelOf_of_zone {s : State} {c : ChannelId} {z : ZoneId} (apart : s.zonesApart) (bound : (s.channel c).zone = some z) :
    s.channelOf z = some c := by
  cases found : s.channelOf z with
  | none =>
    have unbound := List.find?_eq_none.1 found c (List.mem_finRange c)
    exact absurd (by simp [bound]) unbound
  | some e =>
    have at_e := List.find?_some found
    exact congrArg some (apart e c z (by simpa using at_e) bound)

theorem State.Withholds.recomputeZone (s : State) (z : ZoneId) : s.Withholds (s.recomputeZone z) := by
  unfold State.recomputeZone; split
  · exact recompute s _
  · exact refl s

theorem State.Withholds.recomputeZones (s : State) (p : ZoneId → Bool) : s.Withholds (s.recomputeZones p) :=
  foldl (fun t z => ite fun _ => recomputeZone t z) allZones s

@[simp] theorem recomputeZone_inputs (s : State) (z : ZoneId) : (s.recomputeZone z).sc.inputs = s.sc.inputs := by
  unfold State.recomputeZone; split <;> simp

@[simp] theorem recomputeZones_inputs (s : State) (p : ZoneId → Bool) : (s.recomputeZones p).sc.inputs = s.sc.inputs :=
  foldl_keeps (fun t => t.sc.inputs) _ (fun t z => by split <;> simp) _ _

/-- R160: the set of a zone's channel is formed again; those of the others stay as they are. -/
theorem recomputeZone_holdCurrent {s : State} {z : ZoneId} {c : ChannelId} (apart : s.zonesApart)
    (h : (s.channel c).zone = some z ∨ s.holdCurrent c) : (s.recomputeZone z).holdCurrent c := by
  unfold State.recomputeZone
  rcases h with bound | current
  · rw [channelOf_of_zone apart bound]
    exact recompute_holdCurrent s c c (.inl rfl)
  · split
    · exact recompute_holdCurrent s _ c (.inr current)
    · exact current

/-- R160: the sets of the channels of some zones are formed again. -/
theorem recomputeZones_holdCurrent {s : State} {p : ZoneId → Bool} {c : ChannelId} (apart : s.zonesApart)
    (h : (∃ z, p z = true ∧ (s.channel c).zone = some z) ∨ s.holdCurrent c) : (s.recomputeZones p).holdCurrent c := by
  have inTurn (l : List ZoneId) : ∀ t : State, t.zonesApart →
      (∃ z ∈ l, p z = true ∧ (t.channel c).zone = some z) ∨ t.holdCurrent c →
      (l.foldl (fun t z => if p z then t.recomputeZone z else t) t).holdCurrent c := by
    induction l with
    | nil => exact fun t _ h => h.resolve_left (by simp)
    | cons z l ih =>
      intro t apart h
      rw [List.foldl_cons]
      split
      · next told =>
        refine ih _ (zonesApart_congr (recomputeZone_inputs t z) apart) ?_
        rw [inputs_zone (recomputeZone_inputs t z)]
        rcases h with ⟨k, at_k, told_k, bound⟩ | current
        · rcases List.mem_cons.1 at_k with rfl | later
          · exact .inr (recomputeZone_holdCurrent apart (.inl bound))
          · exact .inl ⟨k, later, told_k, bound⟩
        · exact .inr (recomputeZone_holdCurrent apart (.inr current))
      · next silent =>
        refine ih t apart (h.imp_left fun ⟨k, at_k, told_k, bound⟩ => ⟨k, ?_, told_k, bound⟩)
        exact (List.mem_cons.1 at_k).resolve_left fun here => silent (here ▸ told_k)
  exact inTurn allZones s apart (h.imp_left fun ⟨z, told, bound⟩ => ⟨z, List.mem_finRange z, told, bound⟩)

/-! ### What a notice changes of the copies -/

section
variable (s : State)

/-- R160: a set is formed from the copy of the channel's own zone. -/
theorem holdCauses_setZoneView {z : ZoneId} {c : ChannelId} (elsewhere : (s.channel c).zone ≠ some z) (v : ZoneView) :
    (s.setZoneView z v).holdCauses c = s.holdCauses c := by
  have views (k : ZoneId) (bound : (s.channel c).zone = some k) : (s.setZoneView z v).zoneView k = s.zoneView k := by
    rw [zoneView_setZoneView, if_neg (show k ≠ z from fun here => elsewhere (here ▸ bound))]
  have channel : (s.setZoneView z v).channel c = s.channel c := rfl
  simp only [State.holdCauses, channel]
  split
  · rfl
  · next k bound =>
    rw [views k bound]; rfl

/-- R160: the copy of a door gives the zone ENCLOSURE. -/
def DoorView.opens (z : ZoneId) : Option DoorView → Bool
  | some v => v.encloses z
  | none => false

theorem enclosureOpen_eq (z : ZoneId) : s.enclosureOpen z = allDoors.any fun d => DoorView.opens z (s.doorView d) := rfl

theorem opens_of_apart {z : ZoneId} {v : Option DoorView} (apart : DoorView.bounds z v = false) :
    DoorView.opens z v = false := by
  cases v with
  | none => rfl
  | some v =>
    have bounds : (v.outer == z || v.inner == z) = false := apart
    simp only [DoorView.opens, DoorView.encloses, bounds, Bool.false_and]

/-- R160: a set is formed from the copies of the doors that bound the channel's zone. -/
theorem holdCauses_setDoorView {d : DoorId} {c : ChannelId} {v : Option DoorView}
    (apart : ∀ z, (s.channel c).zone = some z → DoorView.bounds z (s.doorView d) = false ∧ DoorView.bounds z v = false) :
    (s.setDoorView d v).holdCauses c = s.holdCauses c := by
  have enclosure (z : ZoneId) (bound : (s.channel c).zone = some z) :
      (s.setDoorView d v).enclosureOpen z = s.enclosureOpen z := by
    obtain ⟨old, new⟩ := apart z bound
    rw [enclosureOpen_eq, enclosureOpen_eq]
    refine congrArg allDoors.any (funext fun k => ?_)
    rw [doorView_setDoorView]
    split
    · next here => subst here; rw [opens_of_apart old, opens_of_apart new]
    · rfl
  have channel : (s.setDoorView d v).channel c = s.channel c := rfl
  simp only [State.holdCauses, channel]
  split
  · rfl
  · next z bound => rw [enclosure z bound]; rfl

end

namespace State.Withholds

variable (s : State)

/-- R161, R187: a copy of a zone's values changes, and its channel's set is formed again. -/
theorem setZoneView (z : ZoneId) (v : ZoneView) : s.Withholds ((s.setZoneView z v).recomputeZone z) := by
  obtain ⟨⟨driven, acted, -⟩, withheld⟩ := recomputeZone (s.setZoneView z v) z
  refine ⟨⟨driven, acted, fun ⟨current, apart⟩ => ⟨fun c => recomputeZone_holdCurrent apart ?_,
    zonesApart_congr (recomputeZone_inputs _ z) apart⟩⟩, withheld⟩
  by_cases bound : (s.channel c).zone = some z
  · exact .inl bound
  · refine .inr ?_
    rw [State.holdCurrent, holdCauses_setZoneView s bound]
    exact current c

theorem scZoneNotice (z : ZoneId) (st : ZoneStatus) (n : Nat) : s.Withholds (s.scZoneNotice z st n) := setZoneView s z _

theorem scAlarmNotice (z : ZoneId) (present : Bool) : s.Withholds (s.scAlarmNotice z present) := setZoneView s z _

/-- R161: the copy of a door changes, and the sets of the channels at its zones are formed again. -/
theorem scDoorNotice (d : DoorId) (v : Option DoorView) : s.Withholds (s.scDoorNotice d v) := by
  obtain ⟨⟨driven, acted, -⟩, withheld⟩ := recomputeZones (s.setDoorView d v)
    fun z => DoorView.bounds z (s.doorView d) || DoorView.bounds z v
  refine ⟨⟨driven, acted, fun ⟨current, apart⟩ => ⟨fun c => recomputeZones_holdCurrent apart ?_,
    zonesApart_congr (recomputeZones_inputs _ _) apart⟩⟩, withheld⟩
  by_cases told : ∃ z, (DoorView.bounds z (s.doorView d) || DoorView.bounds z v) = true ∧ (s.channel c).zone = some z
  · exact .inl told
  · refine .inr ?_
    rw [State.holdCurrent, holdCauses_setDoorView s fun z bound => ?_]
    · exact current c
    · simpa using fun bounds => told ⟨z, bounds, bound⟩

theorem loneZoneNotice (z : ZoneId) (n : Nat) (sole : Option Nat) : s.Withholds (s.loneZoneNotice z n sole) :=
  elsewhere (by simp)

theorem giveZoneNotice (z : ZoneId) (n : ZoneNotice) : s.Withholds (s.giveZoneNotice z n) :=
  (scZoneNotice s z n.status n.count).trans (loneZoneNotice _ z n.count n.sole)

end State.Withholds

end Sys2Proof.Machine
end

section
namespace Sys2Proof.Machine

/-! ## Copies stay current -/

namespace State.Informs

section
variable {r s t : State}

theorem refl (s : State) : s.Informs s := ⟨.refl s, id⟩

theorem trans (h : r.Informs s) (k : s.Informs t) : r.Informs t :=
  ⟨h.toWithholds.trans k.toWithholds, k.copies ∘ h.copies⟩

/-- Work on what neither the laws nor the copies are read from. -/
theorem elsewhere (h : t.fc.roles = s.fc.roles ∧ t.sc.inputs = s.sc.inputs ∧ t.sc.cores = s.sc.cores
    ∧ t.ru.rosters = s.ru.rosters ∧ t.ru.status = s.ru.status ∧ t.sau.raised = s.sau.raised ∧ t.dc.views = s.dc.views) :
    s.Informs t := by
  obtain ⟨roles, inputs, cores, rosters, status, raised, views⟩ := h
  exact ⟨.elsewhere ⟨roles, inputs, cores⟩, copiesCurrent_congr inputs rosters status raised views⟩

/-- Such work follows. -/
theorem frame (h : r.Informs s) (rest : t.fc.roles = s.fc.roles ∧ t.sc.inputs = s.sc.inputs ∧ t.sc.cores = s.sc.cores
    ∧ t.ru.rosters = s.ru.rosters ∧ t.ru.status = s.ru.status ∧ t.sau.raised = s.sau.raised ∧ t.dc.views = s.dc.views) :
    r.Informs t :=
  h.trans (elsewhere rest)

theorem foldl {β : Type} {f : State → β → State} (h : ∀ (t : State) (x : β), t.Informs (f t x)) (l : List β) (s : State) :
    s.Informs (l.foldl f s) := by
  induction l generalizing s with
  | nil => exact refl s
  | cons x l ih => exact (h s x).trans (ih _)

/-- A command that acts only under a condition. -/
theorem ite {p : Prop} [Decidable p] (h : p → s.Informs t) : s.Informs (if p then t else s) := by
  split
  · next hp => exact h hp
  · exact refl s

end

end State.Informs

/-! ### Zones -/

/-- R161: a copy that takes the status and the count of a zone notice. -/
def ZoneView.given (v : ZoneView) (n : ZoneNotice) : ZoneView := { v with status := n.status, count := n.count }

section
variable (s : State) (z k : ZoneId)

theorem scZoneNotice_inputs (st : ZoneStatus) (n : Nat) :
    (s.scZoneNotice z st n).sc.inputs = (s.setZoneView z { s.zoneView z with status := st, count := n }).sc.inputs := by
  simp [State.scZoneNotice]

theorem scAlarmNotice_inputs (present : Bool) :
    (s.scAlarmNotice z present).sc.inputs = (s.setZoneView z { s.zoneView z with alarm := present }).sc.inputs := by
  simp [State.scAlarmNotice]

theorem giveZoneNotice_inputs (n : ZoneNotice) :
    (s.giveZoneNotice z n).sc.inputs =
      (s.setZoneView z { s.zoneView z with status := n.status, count := n.count }).sc.inputs := by
  rw [State.giveZoneNotice, loneZoneNotice_sc, scZoneNotice_inputs]

/-- R161: the zone's copy takes the status and the count of a zone notice. -/
theorem giveZoneNotice_zoneView (n : ZoneNotice) :
    (s.giveZoneNotice z n).zoneView k =
      if k = z then (s.zoneView k).given n else s.zoneView k := by
  rw [inputs_zoneView (giveZoneNotice_inputs s z n), zoneView_setZoneView]
  split
  · next here => rw [here]; rfl
  · rfl

theorem giveZoneNotice_doorView (n : ZoneNotice) (d : DoorId) : (s.giveZoneNotice z n).doorView d = s.doorView d :=
  inputs_doorView (giveZoneNotice_inputs s z n) d

/-- R187: the zone's copy takes the alarm condition of an alarm notice. -/
theorem scAlarmNotice_zoneView (present : Bool) :
    (s.scAlarmNotice z present).zoneView k = if k = z then { s.zoneView k with alarm := present } else s.zoneView k := by
  rw [inputs_zoneView (scAlarmNotice_inputs s z present), zoneView_setZoneView]
  split
  · next here => rw [here]
  · rfl

theorem scAlarmNotice_doorView (present : Bool) (d : DoorId) : (s.scAlarmNotice z present).doorView d = s.doorView d :=
  inputs_doorView (scAlarmNotice_inputs s z present) d

end

/-- Notices go to the zones of a list for which `p` does not hold, and each moves the copy of its own zone as `g` says. -/
theorem notices_views {f : State → ZoneId → State} {g : ZoneId → ZoneView → ZoneView}
    (zone : ∀ t z k, (f t z).zoneView k = if k = z then g k (t.zoneView k) else t.zoneView k)
    (door : ∀ t z d, (f t z).doorView d = t.doorView d) (again : ∀ z v, g z (g z v) = g z v)
    (p : ZoneId → Prop) [DecidablePred p] (l : List ZoneId) (s : State) :
    let t := l.foldl (fun t z => if p z then t else f t z) s
    (∀ k, t.zoneView k = if k ∈ l ∧ ¬ p k then g k (s.zoneView k) else s.zoneView k)
      ∧ ∀ d, t.doorView d = s.doorView d := by
  induction l generalizing s with
  | nil => exact ⟨by simp, fun _ => rfl⟩
  | cons z l ih =>
    simp only [List.foldl_cons]
    by_cases silent : p z
    · rw [if_pos silent]
      obtain ⟨zones, doors⟩ := ih s
      refine ⟨fun k => (zones k).trans ?_, doors⟩
      by_cases here : k = z
      · subst here; simp [silent]
      · simp [here]
    · rw [if_neg silent]
      obtain ⟨zones, doors⟩ := ih (f s z)
      refine ⟨fun k => (zones k).trans ?_, fun d => (doors d).trans (door s z d)⟩
      rw [zone]
      by_cases here : k = z
      · subst here; simp [silent, again]
      · simp [here]

/-- R152: zones are given their notices. -/
theorem giveZoneNotices_views (n : ZoneId → ZoneNotice) (p : ZoneId → Prop) [DecidablePred p] (l : List ZoneId) (s : State) :
    let t := l.foldl (fun t z => if p z then t else t.giveZoneNotice z (n z)) s
    (∀ k, t.zoneView k = if k ∈ l ∧ ¬ p k then (s.zoneView k).given (n k) else s.zoneView k)
      ∧ ∀ d, t.doorView d = s.doorView d :=
  notices_views (g := fun z v => v.given (n z))
    (fun t z k => by
      rw [giveZoneNotice_zoneView]
      split
      · next here => rw [here]
      · rfl)
    (fun t z d => giveZoneNotice_doorView t z (n z) d) (fun _ _ => rfl) p l s

/-- R187: zones are given their alarm notices. -/
theorem scAlarmNotices_views (a : ZoneId → Bool) (p : ZoneId → Prop) [DecidablePred p] (l : List ZoneId) (s : State) :
    let t := l.foldl (fun t z => if p z then t else t.scAlarmNotice z (a z)) s
    (∀ k, t.zoneView k = if k ∈ l ∧ ¬ p k then { s.zoneView k with alarm := a k } else s.zoneView k)
      ∧ ∀ d, t.doorView d = s.doorView d :=
  notices_views (g := fun z v => { v with alarm := a z })
    (fun t z k => by
      rw [scAlarmNotice_zoneView]
      split
      · next here => rw [here]
      · rfl)
    (fun t z d => scAlarmNotice_doorView t z (a z) d) (fun _ _ => rfl) p l s

@[simp] theorem zoneNotices_raised (b s : State) : (b.zoneNotices s).sau.raised = s.sau.raised :=
  foldl_keeps (fun t => t.sau.raised) _ (fun t z => by
    split
    · rfl
    · simp [State.giveZoneNotice, State.scZoneNotice]) _ _

@[simp] theorem alarmNotices_raised (b s : State) : (b.alarmNotices s).sau.raised = s.sau.raised :=
  foldl_keeps (fun t => t.sau.raised) _ (fun t z => by
    split
    · rfl
    · simp [State.scAlarmNotice]) _ _

namespace State.Informs

/-- R152: RU's work on the rosters, followed by the notices of what it changed. -/
theorem zoneNotices {s u : State} (h : u.fc.roles = s.fc.roles ∧ u.sc.inputs = s.sc.inputs ∧ u.sc.cores = s.sc.cores
    ∧ u.sau.raised = s.sau.raised ∧ u.dc.views = s.dc.views) : s.Informs (s.zoneNotices u) := by
  obtain ⟨roles, inputs, cores, raised, views⟩ := h
  have told : u.Withholds (s.zoneNotices u) := .foldl (fun t z => by
    split
    · exact .refl t
    · exact .giveZoneNotice t z _) _ u
  refine ⟨(Withholds.elsewhere ⟨roles, inputs, cores⟩).trans told, fun copies => ⟨fun z tracked => ?_, fun d => ?_⟩⟩
  · obtain ⟨status, count, alarm⟩ := copies.1 z tracked
    have view := (giveZoneNotices_views u.zoneNow (fun z => u.zoneNow z = s.zoneNow z) trackedZones u).1 z
    have condition : (s.zoneNotices u).alarmCondition z = s.alarmCondition z :=
      (raised_alarmCondition (zoneNotices_raised s u) z).trans (raised_alarmCondition raised z)
    have now : (s.zoneNotices u).zoneStatus z = (u.zoneNow z).status
        ∧ ((s.zoneNotices u).roster z).length = (u.zoneNow z).count := by
      simp [State.zoneNow, State.zoneStatus, State.roster]
    have before : u.zoneView z = s.zoneView z := inputs_zoneView inputs z
    rw [condition, now.1, now.2]
    by_cases same : u.zoneNow z = s.zoneNow z
    · have kept : (s.zoneNotices u).zoneView z = s.zoneView z := view.trans ((if_neg fun h => h.2 same).trans before)
      rw [kept, same]
      exact ⟨status, count, alarm⟩
    · have given := view.trans (if_pos ⟨mem_trackedZones.2 tracked, same⟩)
      refine ⟨congrArg ZoneView.status given, congrArg ZoneView.count given, ?_⟩
      exact (congrArg ZoneView.alarm given).trans ((congrArg ZoneView.alarm before).trans alarm)
  · have view := (giveZoneNotices_views u.zoneNow (fun z => u.zoneNow z = s.zoneNow z) trackedZones u).2 d
    have doors : ((s.zoneNotices u).door d).view = (s.door d).view := by
      rw [← views_view views d]; simp [State.door]
    exact view.trans ((inputs_doorView inputs d).trans ((copies.2 d).trans doors.symm))

/-- R187: SAU's work on the alarm table, followed by the notices of what it changed. -/
theorem alarmNotices {s u : State} (h : u.fc.roles = s.fc.roles ∧ u.sc.inputs = s.sc.inputs ∧ u.sc.cores = s.sc.cores
    ∧ u.ru.rosters = s.ru.rosters ∧ u.ru.status = s.ru.status ∧ u.dc.views = s.dc.views) : s.Informs (s.alarmNotices u) := by
  obtain ⟨roles, inputs, cores, rosters, status, views⟩ := h
  have told : u.Withholds (s.alarmNotices u) := .foldl (fun t z => by
    split
    · exact .refl t
    · exact .scAlarmNotice t z _) _ u
  refine ⟨(Withholds.elsewhere ⟨roles, inputs, cores⟩).trans told, fun copies => ⟨fun z tracked => ?_, fun d => ?_⟩⟩
  · obtain ⟨oldStatus, oldCount, oldAlarm⟩ := copies.1 z tracked
    have view := (scAlarmNotices_views u.alarmCondition (fun z => u.alarmCondition z = s.alarmCondition z) allZones u).1 z
    have condition : (s.alarmNotices u).alarmCondition z = u.alarmCondition z :=
      raised_alarmCondition (alarmNotices_raised s u) z
    have zoneStatus : (s.alarmNotices u).zoneStatus z = s.zoneStatus z := by simp [State.zoneStatus, status]
    have roster : (s.alarmNotices u).roster z = s.roster z := by simp [State.roster, rosters]
    have before : u.zoneView z = s.zoneView z := inputs_zoneView inputs z
    rw [condition, zoneStatus, roster]
    by_cases same : u.alarmCondition z = s.alarmCondition z
    · have kept : (s.alarmNotices u).zoneView z = s.zoneView z := view.trans ((if_neg fun h => h.2 same).trans before)
      rw [kept, same]
      exact ⟨oldStatus, oldCount, oldAlarm⟩
    · have given := view.trans (if_pos ⟨List.mem_finRange z, same⟩)
      refine ⟨(congrArg ZoneView.status given).trans ((congrArg ZoneView.status before).trans oldStatus), ?_,
        congrArg ZoneView.alarm given⟩
      exact (congrArg ZoneView.count given).trans ((congrArg ZoneView.count before).trans oldCount)
  · have view := (scAlarmNotices_views u.alarmCondition (fun z => u.alarmCondition z = s.alarmCondition z) allZones u).2 d
    have doors : ((s.alarmNotices u).door d).view = (s.door d).view := by
      rw [← views_view views d]; simp [State.door]
    exact view.trans ((inputs_doorView inputs d).trans ((copies.2 d).trans doors.symm))

/-- R154: every tracked zone is announced again. -/
theorem reannounce (s : State) : s.Informs s.reannounce := by
  have given : s.Withholds s.reannounce := .foldl (fun t z => .giveZoneNotice t z _) trackedZones s
  obtain ⟨zones, doors⟩ := giveZoneNotices_views s.zoneNow (fun _ => False) trackedZones s
  simp only [if_false, not_false_eq_true, and_true] at zones doors
  have raised : s.reannounce.sau.raised = s.sau.raised :=
    foldl_keeps (fun t => t.sau.raised) _ (fun t z => by simp [State.giveZoneNotice, State.scZoneNotice]) _ _
  refine ⟨given, fun copies => ⟨fun z tracked => ?_, fun d => ?_⟩⟩
  · have view := (zones z).trans (if_pos (mem_trackedZones.2 tracked))
    refine ⟨(congrArg ZoneView.status view).trans ?_, (congrArg ZoneView.count view).trans ?_, ?_⟩
    · simp [ZoneView.given, State.zoneNow, State.zoneStatus]
    · simp [ZoneView.given, State.zoneNow, State.roster]
    · rw [raised_alarmCondition raised]
      exact (congrArg ZoneView.alarm view).trans (copies.1 z tracked).2.2
  · have door : s.reannounce.door d = s.door d := by simp [State.door]
    rw [door]
    exact (doors d).trans (copies.2 d)

/-! ### Doors -/

/-- R161: a door is written, and SC is told what it then is. -/
theorem scDoorNotice {s u : State} {d : DoorId} {v : Option DoorView}
    (h : u.fc.roles = s.fc.roles ∧ u.sc.inputs = s.sc.inputs ∧ u.sc.cores = s.sc.cores
      ∧ u.ru.rosters = s.ru.rosters ∧ u.ru.status = s.ru.status ∧ u.sau.raised = s.sau.raised)
    (view : (u.door d).view = v) (others : ∀ k, k ≠ d → (u.door k).view = (s.door k).view) :
    s.Informs (u.scDoorNotice d v) := by
  obtain ⟨roles, inputs, cores, rosters, status, raised⟩ := h
  refine ⟨(Withholds.elsewhere ⟨roles, inputs, cores⟩).trans (.scDoorNotice u d v), fun copies => ?_⟩
  have told : (u.scDoorNotice d v).sc.inputs = (u.setDoorView d v).sc.inputs := by simp [State.scDoorNotice]
  refine ⟨fun z tracked => ?_, fun k => ?_⟩
  · have zoneView : (u.scDoorNotice d v).zoneView z = s.zoneView z :=
      (inputs_zoneView told z).trans (inputs_zoneView inputs z)
    have zoneStatus : (u.scDoorNotice d v).zoneStatus z = s.zoneStatus z := by simp [State.zoneStatus, status]
    have roster : (u.scDoorNotice d v).roster z = s.roster z := by simp [State.roster, rosters]
    have condition : (u.scDoorNotice d v).alarmCondition z = s.alarmCondition z :=
      raised_alarmCondition ((by simp [State.scDoorNotice] : _ = u.sau.raised).trans raised) z
    rw [zoneView, zoneStatus, roster, condition]
    exact copies.1 z tracked
  · have door : (u.scDoorNotice d v).door k = u.door k := by simp [State.door]
    rw [door, inputs_doorView told, doorView_setDoorView]
    split
    · next here => rw [here, view]
    · next other => rw [others k other, inputs_doorView inputs]; exact copies.2 k

/-- R97: a contact is recorded, and SC is told of it. -/
theorem setContact (s : State) (d : DoorId) (c : Contact) : s.Informs (s.setContact d c) := by
  have written (k : DoorId) (other : k ≠ d) (x : Door) : ((s.setDoor d x).door k).view = (s.door k).view := by
    rw [door_setDoor, if_neg other]
  unfold State.setContact; dsimp only; split
  · next absent =>
    refine elsewhere ⟨rfl, rfl, rfl, rfl, rfl, rfl, map_set_same ?_⟩
    exact (if_pos absent).trans (if_pos absent).symm
  · exact scDoorNotice ⟨rfl, rfl, rfl, rfl, rfl, rfl⟩ (by rw [door_setDoor_self]) fun k other => written k other _

end State.Informs

end Sys2Proof.Machine
end

section
namespace Sys2Proof.Machine

/-! ## Channels -/

section
variable (s : State) (c : ChannelId)

@[simp] theorem clearLatches_inputs : (s.clearLatches c).sc.inputs = s.sc.inputs :=
  foldl_keeps (fun t => t.sc.inputs) _ (fun t d => by split <;> simp) _ _
@[simp] theorem clearLatches_cores : (s.clearLatches c).sc.cores = s.sc.cores :=
  foldl_keeps (fun t => t.sc.cores) _ (fun t d => by split <;> simp) _ _
@[simp] theorem scDev_postSc (kind : EventKind) (reason : Option Nat) (d : DevIx) :
    (s.postSc kind c reason).scDev d = s.scDev d := rfl
@[simp] theorem refreshMissing_inputs : (s.refreshMissing c).sc.inputs = s.sc.inputs := inputs_setChannel s rfl rfl
@[simp] theorem refreshMissing_cores : (s.refreshMissing c).sc.cores = s.sc.cores := cores_setChannel s rfl
@[simp] theorem confirmRelease_inputs (late : Bool) : (s.confirmRelease c late).sc.inputs = s.sc.inputs :=
  inputs_setChannel s rfl rfl
@[simp] theorem confirmRelease_cores (late : Bool) : (s.confirmRelease c late).sc.cores = s.sc.cores :=
  cores_setChannel s rfl
@[simp] theorem failConfirm_inputs : (s.failConfirm c).sc.inputs = s.sc.inputs := inputs_setChannel s rfl rfl
@[simp] theorem failConfirm_cores : (s.failConfirm c).sc.cores = s.sc.cores := cores_setChannel s rfl
@[simp] theorem endSoak_inputs : (s.endSoak c).sc.inputs = s.sc.inputs := inputs_setChannel s rfl rfl
@[simp] theorem endSoak_cores : (s.endSoak c).sc.cores = s.sc.cores := cores_setChannel s rfl
@[simp] theorem setDriveFault_inputs : (s.setDriveFault c).sc.inputs = s.sc.inputs := inputs_setChannel s rfl rfl
@[simp] theorem setDriveFault_cores : (s.setDriveFault c).sc.cores = s.sc.cores := cores_setChannel s rfl
@[simp] theorem clearDriveFault_inputs : (s.clearDriveFault c).sc.inputs = s.sc.inputs := inputs_setChannel s rfl rfl
@[simp] theorem clearDriveFault_cores : (s.clearDriveFault c).sc.cores = s.sc.cores := cores_setChannel s rfl
@[simp] theorem refreshTone_inputs : (s.refreshTone c).sc.inputs = s.sc.inputs := by
  rw [State.refreshTone, sendTone_sc]; exact inputs_setChannel s rfl rfl
@[simp] theorem refreshTone_cores : (s.refreshTone c).sc.cores = s.sc.cores := by
  rw [State.refreshTone, sendTone_sc]; exact cores_setChannel s rfl
@[simp] theorem valveNotice_inputs (active : Bool) : (s.valveNotice c active).sc.inputs = s.sc.inputs := by
  unfold State.valveNotice; dsimp only; (repeat' split) <;> simp
@[simp] theorem valveNotice_cores (active : Bool) : (s.valveNotice c active).sc.cores = s.sc.cores := by
  have recorded : (s.setChannel c { s.channel c with valveLine := active }).sc.cores = s.sc.cores := cores_setChannel s rfl
  unfold State.valveNotice; dsimp only; (repeat' split) <;> simp [recorded]

end

/-- R160: what one channel's set is formed from has changed, and the set is formed again. -/
theorem State.Withholds.recomputeAfter {s u : State} {c : ChannelId}
    (others : ∀ e, e ≠ c → (u.channel e).core = (s.channel e).core)
    (driven : (s.channel c).core.driven → (u.channel c).core.driven)
    (withheld : (u.channel c).state = .releasing → (s.channel c).state = .releasing)
    (apart : s.zonesApart → u.zonesApart) (current : ∀ e, e ≠ c → s.holdsCurrent → u.holdCurrent e) :
    s.Withholds (u.recompute c) := by
  have formed := recompute u c
  refine ⟨⟨fun e lawful => formed.driven e ?_, fun e lawful => ?_, fun h => ⟨fun e => recompute_holdCurrent u c e ?_,
    zonesApart_congr (recompute_inputs u c) (apart h.2)⟩⟩, fun e releasing => ?_⟩
  · by_cases here : e = c
    · subst here; exact driven lawful
    · rw [others e here]; exact lawful
  · by_cases here : e = c
    · subst here
      rw [recompute_core, if_pos rfl]
      exact onCauses_acted ..
    · rw [recompute_core, if_neg here, others e here]; exact lawful
  · by_cases here : e = c
    · exact .inl here
    · exact .inr (current e here h)
  · have before := formed.withheld e releasing
    by_cases here : e = c
    · subst here; exact withheld before
    · exact (congrArg ChannelCore.state (others e here)).symm.trans before

section
variable {s : State} {d : DevIx} {c : ChannelId}

/-- R159: an abort station counts for its own channel. -/
theorem holdCauses_setScDev {x : ScDevice} (own : (s.device d).role ≠ .abortStation c) :
    (s.setScDev d x).holdCauses c = s.holdCauses c := by
  have present : (s.setScDev d x).abortPresent c = s.abortPresent c := by
    refine congrArg ((s.channel c).abortLine || ·) (congrArg allDevices63.any (funext fun k => ?_))
    rw [scDev_setScDev]
    split
    · next here => subst here; simp only [device_setScDev, beq_eq_false_iff_ne.2 own, Bool.false_and]
    · rfl
  have channel : (s.setScDev d x).channel c = s.channel c := rfl
  simp only [State.holdCauses, channel, present]; rfl

/-- R159: an abort line counts for its own channel. -/
theorem holdCauses_setChannel {e : ChannelId} {x : Channel} (other : e ≠ c) :
    (s.setChannel c x).holdCauses e = s.holdCauses e := by
  have channel : (s.setChannel c x).channel e = s.channel e := by rw [channel_setChannel, if_neg other]
  simp only [State.holdCauses, State.abortPresent, channel]; rfl

theorem holdCurrent_setChannel {e : ChannelId} {x : Channel} (other : e ≠ c) (h : s.holdCurrent e) :
    (s.setChannel c x).holdCurrent e := by
  rw [State.holdCurrent, holdCauses_setChannel other, channel_setChannel, if_neg other]
  exact h

end

namespace State.Informs

/-- The state of a channel changes while its set, and what it is formed from, stand. -/
theorem ofSetChannel {s : State} {c : ChannelId} {x : Channel} (zone : x.zone = (s.channel c).zone)
    (abortLine : x.abortLine = (s.channel c).abortLine) (written : s.Withholds (s.setChannel c x)) :
    s.Informs (s.setChannel c x) :=
  ⟨written, copiesCurrent_congr (inputs_setChannel s zone abortLine) rfl rfl rfl rfl⟩

theorem recompute (s : State) (c : ChannelId) : s.Informs (s.recompute c) :=
  ⟨.recompute s c, copiesCurrent_congr (by simp) (by simp) (by simp) (by simp) (by simp)⟩

/-! ### The countdown -/

/-- R165: a countdown starts from NORMAL or FIRST_ALARM, HELD exactly if a cause stands. -/
theorem startCountdown {s : State} {c : ChannelId} (h : (s.channel c).state = .normal ∨ (s.channel c).state = .firstAlarm) :
    s.Informs (s.startCountdown c) := by
  have from' : (s.channel c).state ≠ .releasing := by rcases h with h | h <;> simp [h]
  have started (x : Channel) (zone : x.zone = (s.channel c).zone) (abortLine : x.abortLine = (s.channel c).abortLine)
      (hold : x.hold = (s.channel c).hold) (driveOn : x.driveOn = (s.channel c).driveOn)
      (state : x.state = if !(s.channel c).hold.isEmpty then ChannelState.held else .preDischarge) :
      s.Informs (s.setChannel c x) := by
    refine ofSetChannel zone abortLine (.setChannel zone abortLine hold (fun lawful on => ?_) (fun _ => ⟨?_, ?_⟩) ?_)
    · exact absurd (lawful (driveOn.symm.trans on)) from'
    · intro counting
      refine hold.trans ((isEmpty_iff _).1 (by_contra fun standing => ?_))
      simp [Channel.core, state, standing] at counting
    · intro held none
      have isEmpty := (isEmpty_iff _).2 (hold.symm.trans none)
      simp [Channel.core, state, isEmpty] at held
    · intro releasing
      rw [state] at releasing
      split at releasing <;> cases releasing
  unfold State.startCountdown; dsimp only
  refine (started
    { s.channel c with
      state := if !(s.channel c).hold.isEmpty then .held else .preDischarge
      countdown := (s.channel c).countdownLength, countdownDue := false, abortSeen := (s.channel c).hold.abort }
    rfl rfl rfl rfl rfl).frame ?_
  refine ⟨?_, ?_, ?_, ?_, ?_, ?_, ?_⟩ <;> (repeat' split) <;> simp

/-- R162: FIRST_ALARM is entered from NORMAL. -/
theorem firstAlarm {s : State} {c : ChannelId} (normal : (s.channel c).state = .normal) (g : Group) :
    s.Informs (s.firstAlarm c g) := by
  have entered : s.Informs (s.setChannel c { s.channel c with state := .firstAlarm }) :=
    ofSetChannel rfl rfl (.setChannelAtRest rfl rfl rfl rfl (by simp [normal]) (by simp))
  unfold State.firstAlarm
  exact entered.frame (by simp)

theorem offerLatch (s : State) (c : ChannelId) (g : Group) : s.Informs (s.offerLatch c g) := by
  unfold State.offerLatch; dsimp only; split
  · next normal =>
    split
    · exact startCountdown (.inl normal)
    · exact firstAlarm normal g
  · next first => exact ite fun _ => startCountdown (.inr first)
  all_goals exact refl s

theorem detectorReport (s : State) (d : DevIx) (c : ChannelId) (g : Group) (level : DetectorLevel) :
    s.Informs (s.detectorReport d c g level) := by
  have reported : s.Informs (if (s.scDev d).level = some level then s
      else (s.postSc level.event c (some (addressOf d))).setScDev d { s.scDev d with level := some level }) := by
    split
    · exact refl s
    · have posted : s.Informs (s.postSc level.event c (some (addressOf d))) := elsewhere (by simp)
      exact posted.frame ⟨rfl, inputs_setScDev _ rfl, rfl, rfl, rfl, rfl, rfl⟩
  unfold State.detectorReport; dsimp only
  refine reported.trans (ite fun _ => ?_)
  exact (elsewhere (by simp)).trans (offerLatch _ c g)

theorem manualRelease (s : State) (c : ChannelId) (source : Option DevIx) : s.Informs (s.manualRelease c source) := by
  have told : s.Informs (s.postSc .manualRelease c (some (manualSource source))) := elsewhere (by simp)
  unfold State.manualRelease; dsimp only; split
  · next normal => exact told.trans (startCountdown (.inl normal))
  · next first => exact told.trans (startCountdown (.inr first))
  all_goals exact told

theorem releaseStationReport (s : State) (d : DevIx) (c : ChannelId) (operated : Bool) :
    s.Informs (s.releaseStationReport d c operated) := by
  have recorded : s.Informs (s.setScDev d { s.scDev d with release := some operated }) := elsewhere (by simp)
  unfold State.releaseStationReport; dsimp only; split
  · exact recorded.trans (manualRelease _ c _)
  · exact recorded

/-! ### Aborts -/

/-- R159: the state of an abort station of the channel. -/
theorem setAbortStation {s : State} {d : DevIx} {c : ChannelId} (bound : (s.device d).role = .abortStation c) (held : Bool) :
    s.Informs (s.setAbortStation d c held) := by
  refine ⟨.recomputeAfter (fun _ _ => rfl) id id id fun e other h => ?_, fun copies => ?_⟩
  · rw [State.holdCurrent, holdCauses_setScDev (by rw [bound]; simpa using other.symm)]
    exact h.1 e
  · exact (recompute (s.setScDev d { s.scDev d with abortHeld := held }) c).copies copies

/-- R159: the level of an abort line. -/
theorem abortLineNotice (s : State) (c : ChannelId) (active : Bool) : s.Informs (s.abortLineNotice c active) := by
  have zone (e : ChannelId) : ((s.setChannel c { s.channel c with abortLine := active }).channel e).zone
      = (s.channel e).zone := by
    rw [channel_setChannel]
    split
    · next here => rw [here]
    · rfl
  refine ⟨.recomputeAfter (fun e other => ?_) (fun lawful => ?_) (fun releasing => ?_) (fun apart => ?_)
    fun e other h => holdCurrent_setChannel other (h.1 e), fun copies => ?_⟩
  · rw [core_setChannel, if_neg other]
  · rw [core_setChannel, if_pos rfl]; exact lawful
  · rw [channel_setChannel_self] at releasing; exact releasing
  · exact fun e k z => by rw [zone, zone]; exact apart e k z
  · exact (recompute (s.setChannel c { s.channel c with abortLine := active }) c).copies copies

/-- R25, R176: the presence of a detector or of an abort station has changed. -/
theorem scPresence {s : State} {d : DevIx} {r : DevRole} (role : (s.device d).role = r) : s.Informs (s.scPresence d r) := by
  have refreshed (c : ChannelId) : s.Informs (s.refreshMissing c) := elsewhere (by simp)
  unfold State.scPresence; split
  · exact refreshed _
  · exact (refreshed _).trans (setAbortStation (by simpa [State.device] using role) false)
  all_goals exact refl s

/-! ### Release -/

/-- R171: the drive ends, and the channel is DISCHARGED. -/
theorem endRelease (s : State) (c : ChannelId) : s.Informs (s.endRelease c) := by
  have off : s.Informs (s.setChannel c (Channel.recount { s.channel c with driveOn := false, drive := none })) :=
    ofSetChannel rfl rfl (.setChannel rfl rfl rfl (fun _ on => nomatch on) id id)
  have discharged (u : State) (off : (u.channel c).driveOn = false) : u.Informs (u.setChannel c
      { u.channel c with
        state := .discharged, confirm := none, phase := .idle, soak := u.after (u.channel c).soakTime
        soakComplete := false }) :=
    ofSetChannel rfl rfl (.setChannel rfl rfl rfl (fun _ on => absurd (off.symm.trans on) (by decide))
      (fun _ => ⟨nofun, nofun⟩) nofun)
  have written (u : State) (core : (u.channel c).core.driveOn = false) :
      ((if (u.channel c).phase = .waiting then u.failConfirm c else u).channel c).core.driveOn = false := by
    split
    · rw [cores_core (failConfirm_cores u c)]; exact core
    · exact core
  have confirmed (u : State) : u.Informs (if (u.channel c).phase = .waiting then u.failConfirm c else u) :=
    ite fun _ => elsewhere (by simp)
  unfold State.endRelease; dsimp only
  refine (off.trans (confirmed _)).trans (discharged _ (written _ ?_))
  rw [channel_setChannel_self]; rfl

/-! ### Lockout -/

theorem lockOut (s : State) (c : ChannelId) (r : LockoutReason) : s.Informs (s.lockOut c r) := by
  unfold State.lockOut; dsimp only
  refine ite fun active => ?_
  have from' : (s.channel c).state ≠ .releasing := fun releasing => by simp [releasing, ChannelState.locksOut] at active
  have locked : s.Informs (s.setChannel c
      { s.channel c with state := .lockedOut, countdown := 0, countdownDue := false, abortSeen := false }) :=
    ofSetChannel rfl rfl (.setChannelAtRest rfl rfl rfl rfl from' (by simp))
  exact locked.frame (by simp)

theorem leaveLockout (s : State) (c : ChannelId) (r : LockoutReason) : s.Informs (s.leaveLockout c r) := by
  have restored (u : State) (lockedOut : (u.channel c).state = .lockedOut) :
      u.Informs ((u.setChannel c { u.channel c with state := (u.channel c).restState, abortSeen := false }).postSc
        .channelRestored c (some r.code)) := by
    have written : u.Informs (u.setChannel c { u.channel c with state := (u.channel c).restState, abortSeen := false }) :=
      ofSetChannel rfl rfl (.setChannelAtRest rfl rfl rfl rfl (by simp [lockedOut])
        (by unfold Channel.restState; split <;> simp))
    exact written.frame (by simp)
  have cleared : s.Informs (s.clearLatches c) := elsewhere (by simp)
  refine ite fun ⟨lockedOut, _⟩ => cleared.trans (restored _ ?_)
  rw [cores_state (clearLatches_cores s c)]
  exact lockedOut

theorem keyNotice (s : State) (g : GiId) (c : ChannelId) (active : Bool) : s.Informs (s.keyNotice g c active) := by
  have recorded (x : Option ChannelId) : s.Informs (s.setKey g x) := elsewhere (by simp)
  unfold State.keyNotice; split
  · exact (recorded _).trans (lockOut _ c .key)
  · exact (recorded _).trans (leaveLockout _ c .key)

/-- R173: a channel that is not RELEASING is reset. -/
theorem resetChannel {s : State} {c : ChannelId} (active : (s.channel c).resettable = true) : s.Informs (s.resetChannel c) := by
  have cleared : s.Informs (s.clearLatches c) := elsewhere (by simp)
  have from' : (s.channel c).state ≠ .releasing := fun releasing => by simp [Channel.resettable, releasing] at active
  have kept : ((s.clearLatches c).channel c).state ≠ .releasing := by
    rw [cores_state (clearLatches_cores s c)]
    exact from'
  have reset (u : State) (st : ChannelState) (old : Tone) (from' : (u.channel c).state ≠ .releasing)
      (rest : st ≠ .releasing ∧ st ≠ .preDischarge ∧ st ≠ .held) :
      u.Informs (((u.setChannel c
        { u.channel c with
          countdown := 0, countdownDue := false, soak := none, soakComplete := false, abortSeen := false
          flags := { (u.channel c).flags with confirmFailed := false }, phase := .idle, state := st }).toneOff c old).postSc
        .channelReset c) := by
    have written : u.Informs (u.setChannel c
        { u.channel c with
          countdown := 0, countdownDue := false, soak := none, soakComplete := false, abortSeen := false
          flags := { (u.channel c).flags with confirmFailed := false }, phase := .idle, state := st }) :=
      ofSetChannel rfl rfl (.setChannelAtRest rfl rfl rfl rfl from' rest)
    exact written.frame (by simp)
  exact cleared.trans (reset _ _ _ kept (by split <;> simp))

end State.Informs

end Sys2Proof.Machine
end

section
namespace Sys2Proof.Machine

/-! ## Alarms -/

namespace State.Informs

/-- R185 to R187: a raise request, and its notices. -/
theorem raiseAlarm (s : State) (i : AlarmIdentity) (z : ZoneId) (door : Option DoorId) : s.Informs (s.raiseAlarm i z door) :=
  alarmNotices (by simp)

theorem pendantReport (s : State) (z : ZoneId) (pendant : Nat) (kind : PendantKind) :
    s.Informs (s.pendantReport z pendant kind) := by
  cases kind
  · exact raiseAlarm s _ z none
  · exact raiseAlarm s _ z none
  · exact elsewhere (t := s.checkIn z) (by simp)

theorem enterOverdue (s : State) (z : ZoneId) : s.Informs (s.enterOverdue z) := by
  have held : s.Informs (s.setLone z { s.lone z with state := .overdue, graceTimer := none, repeatTimer := none }) :=
    elsewhere (by simp)
  unfold State.enterOverdue; dsimp only; split
  · next n _ => exact (held.trans (raiseAlarm _ (.overdue n) z none)).frame (by simp)
  · exact held.frame (by simp)

theorem clearAlarm (s : State) (i : Nat) : s.Informs (s.clearAlarm i) := alarmNotices (by simp)

theorem clearOverflow (s : State) (z : ZoneId) : s.Informs (s.clearOverflow z) := by
  unfold State.clearOverflow; dsimp only; split <;> exact alarmNotices (by simp)

/-- R188: an acknowledged record stays in its zone. -/
theorem ackAlarm {s : State} {i : Nat} {r : AlarmRecord} (at_i : s.sau.alarms[i]? = some r) : s.Informs (s.ackAlarm i r) := by
  have zones : (s.sau.alarms.set i { r with acked := some s.stamp }).map AlarmRecord.zone
      = s.sau.alarms.map AlarmRecord.zone := by
    obtain ⟨inside, here⟩ := List.getElem?_eq_some_iff.1 at_i
    refine List.ext_getElem (by simp) fun j _ _ => ?_
    simp only [List.getElem_map, List.getElem_set]
    split
    · next same => subst same; rw [here]
    · rfl
  exact elsewhere ⟨rfl, rfl, rfl, rfl, rfl, Prod.ext zones rfl, rfl⟩

/-! ## Zones -/

theorem openingNotice (s : State) (outer inner : ZoneId) : s.Informs (s.openingNotice outer inner) := zoneNotices (by simp)

theorem verify (s : State) (z : ZoneId) (r : VerifyReason) : s.Informs (s.verify z r) := zoneNotices (by simp)

theorem clearKeyNotice (s : State) (z : ZoneId) : s.Informs (s.clearKeyNotice z) := by
  unfold State.clearKeyNotice; split
  · exact elsewhere (by simp)
  · exact verify s z .key

/-! ## Doors -/

theorem confirmPassage (s : State) (d : DoorId) (p : Passage) : s.Informs (s.confirmPassage d p) := by
  have applied : s.Informs (s.zoneNotices (s.applyPassage d p)) := zoneNotices (by simp)
  unfold State.confirmPassage; exact applied.frame (by simp)

theorem confirmWithEgress (s : State) (d : DoorId) (p : Passage) : s.Informs (s.confirmWithEgress d p) := by
  unfold State.confirmWithEgress; exact zoneNotices (by simp)

theorem unattributed (s : State) (d : DoorId) (r : EgressReason) : s.Informs (s.unattributed d r) := by
  have told : s.Informs (s.postDoor .unattributedEgress d (reason := some r.code)) := elsewhere (by simp)
  exact told.trans (openingNotice _ _ _)

theorem judgeOpening (s : State) (d : DoorId) (c : Contact) (handle : Bool) : s.Informs (s.judgeOpening d c handle) := by
  have opened (r : EgressReason) : s.Informs ((s.setOpen d).unattributed d r) :=
    (elsewhere (t := s.setOpen d) (by simp)).trans (unattributed _ d r)
  have forced : s.Informs ((s.setDoor d { s.door d with state := .forced }).postDoor .doorForced d) := elsewhere (by simp)
  unfold State.judgeOpening; split
  · exact opened .contact
  all_goals
    split
    · exact opened .handle
    · exact forced.trans (openingNotice _ _ _)

theorem faultEndsOpen (s : State) (d : DoorId) : s.Informs (s.faultEndsOpen d) := by
  have opened : s.Informs ((s.setOpen d).postDoor .doorFaultCleared d (reason := some (faultClearedReason true))) :=
    elsewhere (by simp)
  exact opened.trans (unattributed _ d .contact)

theorem confirmHeld (s : State) (d : DoorId) (handle : Bool) : s.Informs (s.confirmHeld d handle) := by
  have opened : s.Informs (s.setOpen d) := elsewhere (by simp)
  unfold State.confirmHeld; dsimp only; split
  · exact refl s
  · split
    · exact opened.trans (confirmWithEgress _ d _)
    · exact opened.trans (confirmPassage _ d _)

theorem plainContact (s : State) (d : DoorId) (c : Contact) (opened handle : Bool) :
    s.Informs (s.plainContact d c opened handle) := by
  unfold State.plainContact; dsimp only; split
  · split
    · exact judgeOpening s d c handle
    · exact refl s
  · split
    · exact confirmHeld s d handle
    · exact refl s
  iterate 3
    split
    · exact refl s
    · split <;> exact elsewhere (by simp)
  · split
    · exact faultEndsOpen s d
    · exact elsewhere (by simp)
  all_goals exact refl s

theorem plainGrant (s : State) (g : Grant) : s.Informs (s.plainGrant g).1 := by
  have confirmed (list : List PassageCred) : s.Informs (s.confirmAtOnce g list false) := confirmPassage s g.door _
  unfold State.plainGrant; dsimp only; split
  · split <;> exact elsewhere (by simp)
  · split
    · split <;> exact elsewhere (by simp)
    · exact elsewhere (by simp)
  iterate 3
    split
    · next e _ => exact (confirmed (g.pairedList e)).frame (by simp)
    · exact (confirmed g.list).frame (by simp)
  · have shown : s.Informs ((s.driveOpt (s.door g.door).entry.unit (.unlock (s.door g.door).entry.unlockWindow)).display
        g.reader .granted) := elsewhere (by simp)
    dsimp only
    exact shown.trans (unattributed _ g.door .fault)
  all_goals exact elsewhere (by simp)

theorem strongroomExit (s : State) (g : Grant) : s.Informs (s.strongroomExit g).1 := by
  have confirmed : s.Informs (s.confirmAtOnce g g.list false) := confirmPassage s g.door _
  unfold State.strongroomExit; dsimp only; split
  case h_5 =>
    split
    · split <;> exact elsewhere (by simp)
    · exact elsewhere (by simp)
  case h_6 | h_7 | h_8 => exact confirmed.frame (by simp)
  all_goals exact elsewhere (by simp)

theorem takeGrant (s : State) (g : Grant) : s.Informs (s.takeGrant g).1 := by
  unfold State.takeGrant; split
  · exact plainGrant s g
  · exact strongroomExit s g
  · exact elsewhere (by simp)

theorem custodyOpen (s : State) (c : Custody) : s.Informs (s.custodyOpen c) := by
  have confirmed (g : Grant) : s.Informs (s.confirmAtOnce g [c.cred] true) := confirmPassage s g.door _
  unfold State.custodyOpen; split
  · exact (confirmed { reader := c.reader, door := c.door, direction := .entry, list := [c.cred] }).frame (by simp)
  · exact elsewhere (by simp)

theorem custodyPresented (s : State) (c : Custody) : s.Informs (s.custodyPresented c) := by
  unfold State.custodyPresented; dsimp only; split
  case h_2 => split <;> exact elsewhere (by simp)
  case h_6 | h_7 | h_8 => exact custodyOpen s c
  all_goals exact elsewhere (by simp)

theorem strongroomContact (s : State) (d : DoorId) (c : Contact) (opened handle : Bool) :
    s.Informs (s.strongroomContact d c opened handle) := by
  have cancelled : s.Informs (s.cancelSequence d .opened) := elsewhere (by simp)
  unfold State.strongroomContact; dsimp only; split
  · split
    · exact judgeOpening s d c handle
    · exact refl s
  iterate 3
    split
    · exact cancelled.trans (judgeOpening _ d c handle)
    · exact refl s
  · split
    · exact confirmHeld s d handle
    · exact refl s
  iterate 3
    split
    · exact refl s
    · split <;> exact elsewhere (by simp)
  · split
    · exact faultEndsOpen s d
    · exact elsewhere (by simp)
  all_goals exact refl s

theorem contactChange (s : State) (d : DoorId) (c : Contact) (handle : Bool) : s.Informs (s.contactChange d c handle) := by
  have told := setContact s d c
  unfold State.contactChange; dsimp only; split
  · exact told.trans (plainContact _ d _ _ handle)
  · exact told.trans (strongroomContact _ d _ _ handle)
  · exact told

theorem doorStatusReport (s : State) (d : DoorId) (c : Contact) (b : Bolt) (handle : Bool) :
    s.Informs (s.doorStatusReport d c b handle) := by
  have reported : s.Informs (s.setDoor d { s.door d with bolt := some b }) := elsewhere (by simp)
  unfold State.doorStatusReport; dsimp only; split
  · exact reported.frame (by simp)
  · exact (reported.trans (contactChange _ d c handle)).frame (by simp)

theorem doorUnitMissing (s : State) (d : DoorId) : s.Informs (s.doorUnitMissing d) := by
  have told := setContact s d .unknown
  unfold State.doorUnitMissing; dsimp only; split
  · exact told.frame (by simp)
  · exact told.frame (by simp)
  · exact told

/-! ## Presentations -/

theorem handGrant (s : State) (p : Presentation) (list : List PassageCred) : s.Informs (s.handGrant p list) := by
  have answered := takeGrant s { reader := p.reader, door := p.door, direction := p.direction, list }
  unfold State.handGrant; dsimp only; split
  · next u taken =>
    rw [taken] at answered
    split <;> exact answered.frame (by simp)
  · next u dropped =>
    rw [dropped] at answered
    exact answered.frame (by simp)

theorem handOff (s : State) (p : Presentation) (r : CredRecord) (duress : Bool) : s.Informs (s.handOff p r duress) := by
  unfold State.handOff; dsimp only; split
  · exact elsewhere (by simp)
  · split
    · exact custodyPresented s _
    · exact handGrant s p _

theorem checkZone (s : State) (p : Presentation) (r : CredRecord) (duress : Bool) : s.Informs (s.checkZone p r duress) := by
  unfold State.checkZone; split
  · exact elsewhere (by simp)
  · split
    · exact elsewhere (by simp)
    · exact handOff s p r duress

theorem checkPassback (s : State) (p : Presentation) (r : CredRecord) (duress : Bool) :
    s.Informs (s.checkPassback p r duress) := by
  unfold State.checkPassback; split
  · exact checkZone s p r duress
  · next z _ =>
    have warned : s.Informs (s.post .passbackSoft (door := some p.door) (zone := some z)
      (subject := some (.credential p.number))) := elsewhere (by simp)
    split
    · exact elsewhere (by simp)
    · exact warned.trans (checkZone _ p r duress)
    · exact checkZone s p r duress

theorem checkCredential (s : State) (p : Presentation) (r : CredRecord) : s.Informs (s.checkCredential p r) := by
  unfold State.checkCredential; split
  · split <;> exact elsewhere (by simp)
  · split
    · exact elsewhere (by simp)
    · exact (raiseAlarm s _ _ _).trans (checkPassback _ p r true)
    · exact checkPassback s p r false

theorem decideEntry (s : State) (p : Presentation) (a : Answer) : s.Informs (s.decideEntry p a) := by
  unfold State.decideEntry; split
  · exact elsewhere (by simp)
  · split
    case h_1 => exact checkCredential s p _
    all_goals exact elsewhere (by simp)

theorem decideExit (s : State) (p : Presentation) (a : Answer) : s.Informs (s.decideExit p a) := by
  unfold State.decideExit; split
  · exact elsewhere (by simp)
  · exact handGrant s p _

theorem decidePresentation (s : State) (p : Presentation) (a : Answer) : s.Informs (s.decidePresentation p a) := by
  unfold State.decidePresentation; split
  · exact decideEntry s p a
  · exact decideExit s p a

theorem listFull (s : State) (p : Presentation) : s.Informs (s.listFull p) := by
  unfold State.listFull; split
  · exact elsewhere (by simp)
  · exact decideExit s p .busy

theorem waitForStore (s : State) (p : Presentation) : s.Informs (s.waitForStore p) := by
  unfold State.waitForStore; split
  · exact (elsewhere (t := s.setCsc _) (by simp)).trans (listFull _ p)
  · exact elsewhere (by simp)

theorem present (s : State) (p : Presentation) : s.Informs (s.present p) := by
  have looked (c : Csc) : s.Informs (s.setCsc c) := elsewhere (by simp)
  unfold State.present; split
  · exact elsewhere (by simp)
  · split
    · exact decidePresentation s p .notEnrolled
    · split
      · exact (looked _).trans (waitForStore _ p)
      · exact (looked _).trans (decidePresentation _ p _)

theorem arrive (s : State) (p : Presentation) : s.Informs (s.arrive p) := by
  unfold State.arrive; split
  · exact elsewhere (by simp)
  · split
    · exact listFull s p
    · exact present s p

theorem resume (s : State) (reader : DevIx) (a : Answer) : s.Informs (s.resume reader a) := by
  unfold State.resume; split
  · next p _ =>
    have dropped : s.Informs { s with pe := { s.pe with waiting := s.pe.waiting.filter (fun q => q.reader != reader) } } :=
      elsewhere (by simp)
    exact dropped.trans (decidePresentation _ p a)
  · exact refl s

end State.Informs

/-! ## Loop frames -/

/-- R10: only the frame of an abort station is a report of its state. -/
theorem reportOf_abortStation {role : DevRole} {f : Frame} {c : ChannelId} {held : Bool}
    (h : reportOf role f = some (.abortStation c held)) : role = .abortStation c := by
  unfold reportOf at h; dsimp only at h
  split at h
  · split at h
    · exact nomatch h
    · exact nomatch h
  · cases role with
    | abortStation k =>
      dsimp only at h
      split at h
      · split at h
        · next a payload =>
          obtain ⟨_, _, ⟨⟩⟩ := Option.map_eq_some_iff.1 h
          rfl
        · exact nomatch h
      · exact nomatch h
    | detector k g | releaseStation k | pendantReceiver z =>
      dsimp only at h
      split at h
      · split at h
        · obtain ⟨_, _, ⟨⟩⟩ := Option.map_eq_some_iff.1 h
        · exact nomatch h
      · exact nomatch h
    | reader k side =>
      dsimp only at h
      split at h
      · exact nomatch h
      · split at h <;> exact nomatch h
    | doorUnit k =>
      dsimp only at h
      split at h
      · split at h
        · split at h <;> exact nomatch h
        · exact nomatch h
      · exact nomatch h
    | _ => exact nomatch h

section
variable (s : State) (d : DevIx)

@[simp] theorem foreignFrame_roles : (s.foreignFrame d).fc.roles = s.fc.roles := by
  unfold State.foreignFrame; split <;> simp
@[simp] theorem healthReport_roles (health : Byte) : (s.healthReport d health).fc.roles = s.fc.roles := by
  unfold State.healthReport; dsimp only; (repeat' split) <;> simp
@[simp] theorem acceptFrame_roles (arrival : LoopEnd) (f : Frame) : (s.acceptFrame d arrival f).fc.roles = s.fc.roles := by
  unfold State.acceptFrame; dsimp only; split <;> simp

end

namespace State.Informs

theorem route {s : State} {d : DevIx} {r : Report}
    (bound : ∀ c held, r = .abortStation c held → (s.device d).role = .abortStation c) : s.Informs (s.route d r) := by
  cases r with
  | badge door side number issue pin =>
    show s.Informs (s.badgeReport d door side number issue pin)
    unfold State.badgeReport
    exact (elsewhere (by simp)).trans (arrive (s.badgeCheckIn door number) _)
  | doorStatus door contact bolt handle => exact doorStatusReport s door contact bolt handle
  | detector c g level => exact detectorReport s d c g level
  | abortStation c held => exact setAbortStation (bound c held rfl) held
  | releaseStation c operated => exact releaseStationReport s d c operated
  | pendant z id kind => exact pendantReport s z id kind
  | heartbeat health => exact elsewhere (t := s.healthReport d health) (by simp)

theorem acceptFrame (s : State) (d : DevIx) (arrival : LoopEnd) (f : Frame) : s.Informs (s.acceptFrame d arrival f) := by
  unfold State.acceptFrame; dsimp only; split
  · refine (elsewhere (by simp)).trans (scPresence ?_)
    simp [State.postFc, State.post, State.device]
  · exact elsewhere (by simp)

theorem deviceFrame (s : State) (d : DevIx) (arrival : LoopEnd) (f : Frame) : s.Informs (s.deviceFrame d arrival f) := by
  have forwarded : s.Informs (if (s.device d).report then (s.acceptFrame d arrival f).forward { frame := f, arrival }
      else s.acceptFrame d arrival f) := by
    split
    · exact (acceptFrame s d arrival f).frame (by simp)
    · exact acceptFrame s d arrival f
  unfold State.deviceFrame; dsimp only; split
  · exact elsewhere (by simp)
  · split
    · exact refl s
    · split
      · next r report =>
        refine forwarded.trans (route fun c held abort => ?_)
        have roles : (if (s.device d).report then (s.acceptFrame d arrival f).forward { frame := f, arrival }
            else s.acceptFrame d arrival f).fc.roles = s.fc.roles := by split <;> simp
        rw [roles_role roles]
        exact reportOf_abortStation (report.trans (congrArg some abort))
      · exact forwarded

theorem classify (s : State) (arrival : LoopEnd) (f : Frame) : s.Informs (s.classify arrival f) := by
  unfold State.classify; split
  · split
    · exact elsewhere (by simp)
    · exact refl s
  · split
    · split
      · exact deviceFrame s _ arrival f
      · exact refl s
    · exact refl s

theorem loopBytes (s : State) (arrival : LoopEnd) (bytes : List Byte) : s.Informs (s.loopBytes arrival bytes) := by
  have heard : s.Informs s.frameHeard := elsewhere (by simp)
  unfold State.loopBytes; split
  · exact heard.trans (classify _ arrival _)
  · exact refl s

theorem reachMs (s : State) (ms : Nat) : s.Informs (s.reachMs ms) := elsewhere ⟨rfl, rfl, rfl, rfl, rfl, rfl, rfl⟩

theorem ownerOfMissing {s : State} {d : DevIx} {r : DevRole} (role : (s.device d).role = r) :
    s.Informs (s.ownerOfMissing d r) := by
  cases r with
  | doorUnit door => exact doorUnitMissing s door
  | detector c g => exact scPresence role
  | abortStation c => exact scPresence role
  | _ => exact refl s

/-- R24, R25: a device becomes MISSING, and its owner is told. -/
theorem deviceGone (s : State) (d : DevIx) : s.Informs (s.deviceGone d) := by
  unfold State.deviceGone; dsimp only
  refine (elsewhere (t := (s.setDevice d { s.device d with presence := .missing }).postFc .deviceMissing d) (by simp)).trans ?_
  exact ownerOfMissing (by simp [State.postFc, State.post, State.device])

/-! ## Local lines -/

theorem lineNotice (s : State) (l : InputLine) (active : Bool) : s.Informs (s.lineNotice l active) := by
  unfold State.lineNotice; split
  · exact abortLineNotice s _ active
  · exact elsewhere (by simp)
  · exact refl s
  · split
    · split
      · exact clearKeyNotice s _
      · exact refl s
    · exact keyNotice s _ _ active
    all_goals exact refl s

theorem settleExpired (s : State) (l : InputLine) : s.Informs (s.settleExpired l) := by
  unfold State.settleExpired; dsimp only; split
  · exact (elsewhere (t := s.setLine l _) (by simp)).trans (lineNotice _ l _)
  all_goals exact refl s

theorem latchNotice (s : State) (l : InputLine) : s.Informs (s.latchNotice l) := by
  unfold State.latchNotice; split
  · exact manualRelease s _ none
  · split
    · exact raiseAlarm s _ _ none
    all_goals exact refl s
  all_goals exact refl s

theorem pressExpired (s : State) (l : InputLine) : s.Informs (s.pressExpired l) := by
  unfold State.pressExpired; dsimp only; split
  · exact (elsewhere (t := s.setLine l _) (by simp)).trans (latchNotice _ l)
  all_goals exact refl s

end State.Informs

end Sys2Proof.Machine
end

section
namespace Sys2Proof.Machine

/-! ## RESTART -/

namespace State.Informs

/-- R26, R27: every device's runtime part is taken back, and the owners of the MISSING ones are told. -/
theorem restartFc (s : State) : s.Informs s.restartFc := by
  have device (t : State) (d : DevIx) (x : Device) (role : x.role = (t.device d).role) : t.Informs (t.setDevice d x) :=
    elsewhere ⟨roles_setDevice t role, rfl, rfl, rfl, rfl, rfl, rfl⟩
  have devices : s.Informs (allDevices63.foldl (fun t d => t.setDevice d ((t.device d).restart s.uptime s.csu.ticks)) s) :=
    foldl (fun t d => device t d _ (by rw [Device.restart])) _ s
  unfold State.restartFc; dsimp only
  exact devices.trans (foldl (fun t d => scPresence rfl) _ _)

/-- R115, R136: a door is LOCKED or SECURED again, its contact UNKNOWN. -/
theorem restartDoor (s : State) (d : DoorId) : s.Informs (s.restartDoor d) := by
  have told : s.Informs ((s.setDoor d (s.door d).restart).scDoorNotice d (s.door d).restart.view) :=
    scDoorNotice ⟨rfl, rfl, rfl, rfl, rfl, rfl⟩ (by rw [door_setDoor_self])
      fun k other => by rw [door_setDoor, if_neg other]
  unfold State.restartDoor; dsimp only; split
  · next kind =>
    have none' : (s.door d).restart.view = (s.door d).view := by
      have entry : (s.door d).entry.kind = .noDoor := kind
      simp [Door.view, Door.restart, entry]
    exact elsewhere ⟨rfl, rfl, rfl, rfl, rfl, rfl, map_set_same none'⟩
  · exact told.frame (by simp)
  · exact told.frame (by simp)

/-- R197: SAU forgets what it was told, and a zone whose alarm number the table could not take stays in alarm. -/
theorem restartZone (s : State) (z : ZoneId) : s.Informs (s.restartZone z) := by
  have alarmed (overflow : s.alarmOverflow z = true) : s.Informs (s.scAlarmNotice z true) := by
    refine ⟨.scAlarmNotice s z true, fun copies => ⟨fun k tracked => ?_, fun d => ?_⟩⟩
    · obtain ⟨status, count, alarm⟩ := copies.1 k tracked
      have zoneStatus : (s.scAlarmNotice z true).zoneStatus k = s.zoneStatus k := by simp [State.zoneStatus]
      have roster : (s.scAlarmNotice z true).roster k = s.roster k := by simp [State.roster]
      have condition : (s.scAlarmNotice z true).alarmCondition k = s.alarmCondition k :=
        raised_alarmCondition (by simp [State.scAlarmNotice]) k
      rw [scAlarmNotice_zoneView, zoneStatus, roster, condition]
      split
      · next here =>
        subst here
        exact ⟨status, count, by simp [State.alarmCondition, overflow]⟩
      · exact ⟨status, count, alarm⟩
    · have door : (s.scAlarmNotice z true).door d = s.door d := by simp [State.door]
      rw [scAlarmNotice_doorView, door]
      exact copies.2 d
  have told : s.Informs (if s.alarmOverflow z then s.scAlarmNotice z true else s) := ite alarmed
  unfold State.restartZone; dsimp only
  exact told.frame (by simp)

/-- What the station link holds is no part of what the laws and the copies are read from. -/
theorem setSp (s : State) (x : Sp) : s.Informs { s with sp := x } := elsewhere ⟨rfl, rfl, rfl, rfl, rfl, rfl, rfl⟩

theorem restartAll (s : State) : s.Informs s.restartAll := by
  have posted : s.Informs { s.postRestarted with rm := s.postRestarted.rm.restart s.postRestarted.csu.ticks } :=
    elsewhere ⟨rfl, rfl, rfl, rfl, rfl, rfl, rfl⟩
  have devices : s.Informs s.restartedFc := posted.trans (restartFc _)
  have store : s.Informs { s.restartedFc.refreshAfterHours.restartCsc with pe := { waiting := [] } } :=
    devices.frame (by simp)
  have doors : s.Informs s.restartedDoors := store.trans (foldl restartDoor allDoors _)
  have silenced : s.Informs s.restartedSounders := by
    unfold State.restartedSounders; exact doors.frame (by simp)
  have zones := silenced.trans (foldl restartZone allZones _)
  rw [restartAll_eq]
  exact (zones.trans (setSp _ _)).trans (reannounce _)

theorem testRestart (s : State) : s.Informs s.testRestart := by
  have tested : s.Informs { s with sp := { s.sp with restartWaiting := false } } := setSp s _
  unfold State.testRestart; dsimp only; split
  · split
    · exact (tested.trans (restartAll _)).frame (by simp)
    · exact tested.frame (by simp)
  · exact refl s

/-! ## The store -/

theorem endWrite (s : State) (w : WriteRecord) (e : WriteEnd) : s.Informs (s.endWrite w e) := by
  have ended : s.Informs (((s.setCsc ({ s.csc with write := none }.handOn)).completeReply .write (e.reply w) []).postWriteEnd
    w e) := elsewhere (by simp)
  exact ended.trans (testRestart _)

theorem answerWaiter (s : State) (a : Waiter → Answer) (w : Waiter) : s.Informs (s.answerWaiter a w) := by
  unfold State.answerWaiter; split
  · exact resume s _ _
  · exact elsewhere (by simp)

theorem fetchGood (s : State) (r : FetchRequest) (slots : List (List Byte)) : s.Informs (s.fetchGood r slots) := by
  have installed : s.Informs (s.setCsc (r.numbers.foldl (fun c n => c.install n (r.result slots n)) s.csc)) :=
    elsewhere (by simp)
  have answered := installed.trans
    (foldl (fun t w => answerWaiter t (fun w => (r.result slots w.number).answer) w) r.waiters _)
  exact answered.frame (t := State.leaveQueue _) (by simp)

theorem fetchFault (s : State) (r : FetchRequest) : s.Informs (s.fetchFault r) := by
  have reported (c : Csc) : s.Informs ((s.postStoreFault r.named .fetch).setCsc c) := elsewhere (by simp)
  have answered := (reported ((s.postStoreFault r.named .fetch).csc.dropFetching r)).trans
    (foldl (fun t w => answerWaiter t (fun _ => .storeFault) w) r.waiters _)
  exact answered.frame (t := State.leaveQueue _) (by simp)

theorem readEndsFaulted (s : State) : s.Informs s.readEndsFaulted := by
  unfold State.readEndsFaulted; split
  · exact refl s
  · split
    · split
      · exact elsewhere (by simp)
      · exact fetchFault s _
    · exact refl s
  · split
    · split
      · split
        · exact elsewhere (by simp)
        · exact endWrite s _ _
      all_goals exact refl s
    · exact refl s
  · split <;> exact elsewhere (by simp)

theorem readEndsGood (s : State) (slots : List (List Byte)) : s.Informs (s.readEndsGood slots) := by
  unfold State.readEndsGood; split
  · exact refl s
  · split
    · exact fetchGood s _ slots
    · exact refl s
  · split
    · split
      · split
        · exact elsewhere (by simp)
        · exact endWrite s _ _
      all_goals exact refl s
    · exact refl s
  · exact elsewhere (by simp)

theorem readCompletes (s : State) (slots : List (List Byte)) : s.Informs (s.readCompletes slots) := by
  unfold State.readCompletes; split
  · exact readEndsFaulted s
  · exact readEndsGood s slots

theorem slotWriteFails (s : State) : s.Informs s.slotWriteFails := by
  unfold State.slotWriteFails; split
  · split
    · exact endWrite s _ _
    all_goals exact refl s
  · exact refl s

theorem readBackEnds (s : State) (equal : WriteRecord → Bool) : s.Informs (s.readBackEnds equal) := by
  unfold State.readBackEnds; split
  · split
    · exact endWrite s _ _
    all_goals exact refl s
  · exact refl s

end State.Informs

end Sys2Proof.Machine
end

section
namespace Sys2Proof.Machine

/-! ## The tables -/

/-- R159: an abort station counts for the channel that it is bound to, and while it is HELD. -/
theorem holdCauses_rebind {s : State} {d : DevIx} {c : ChannelId} {x : Device} {y : ScDevice}
    (old : (s.device d).role ≠ .abortStation c) (unheld : y.abortHeld = false) :
    ((s.setDevice d x).setScDev d y).holdCauses c = s.holdCauses c := by
  have present : ((s.setDevice d x).setScDev d y).abortPresent c = s.abortPresent c := by
    refine congrArg ((s.channel c).abortLine || ·) (congrArg allDevices63.any (funext fun k => ?_))
    have device : ((s.setDevice d x).setScDev d y).device k = (s.setDevice d x).device k := rfl
    have scDev : ((s.setDevice d x).scDev k) = s.scDev k := rfl
    rw [scDev_setScDev, device, device_setDevice, scDev]
    split
    · next here => subst here; simp only [unheld, beq_eq_false_iff_ne.2 old, Bool.and_false, Bool.false_and]
    · rfl
  have channel : ((s.setDevice d x).setScDev d y).channel c = s.channel c := rfl
  simp only [State.holdCauses, channel, present]; rfl

/-- R139: the zone that is written to a channel has no other channel. -/
theorem channelZoneOf_apart {s : State} {c e : ChannelId} {code : Nat} {z : ZoneId}
    (written : s.channelZoneOf c code = some (some z)) (other : e ≠ c) : (s.channel e).zone ≠ some z := by
  intro taken
  unfold State.channelZoneOf at written
  split at written
  · cases written
  · split at written
    · cases written
    · split at written
      · cases written
      · next free =>
        cases written
        exact free (List.any_eq_true.2 ⟨e, List.mem_finRange e, by simp [other, taken]⟩)

theorem afterWrite_atRest (st : ChannelState) (zone : Option ZoneId) : st.afterWrite zone ≠ .releasing := by
  unfold ChannelState.afterWrite; split
  · nofun
  · split <;> nofun

namespace State.Informs

/-- R25, R159: a device entry is stored; the station that it was releases its channel's hold. -/
theorem storeDevice (s : State) (d : DevIx) (r : DevRole) (flags : Byte) : s.Informs (s.storeDevice d r flags) := by
  have unbound (x : Device) : s.Informs (((s.setDevice d x).setScDev d .powerOn).scPresence d (s.device d).role) := by
    have rebound (elsewhere : ∀ c, (s.device d).role ≠ .abortStation c) :
        s.Informs ((s.setDevice d x).setScDev d .powerOn) := by
      refine ⟨⟨⟨fun _ => id, fun _ => id, fun h => ⟨fun c => ?_, h.2⟩⟩, fun _ => id⟩, fun copies => copies⟩
      exact (h.1 c).trans (holdCauses_rebind (elsewhere c) rfl).symm
    cases role : (s.device d).role with
    | abortStation c =>
      have kept (u : State) (h : u.fc.roles = ((s.setDevice d x).setScDev d .powerOn).fc.roles
          ∧ u.sc.inputs = ((s.setDevice d x).setScDev d .powerOn).sc.inputs ∧ u.sc.cores = s.sc.cores)
          (copies : s.copiesCurrent → u.copiesCurrent) : s.Informs (u.recompute c) := by
        obtain ⟨roles, inputs, cores⟩ := h
        refine ⟨.recomputeAfter (fun e _ => cores_core cores e) (by rw [cores_core cores]; exact id)
          (by rw [cores_state cores]; exact id)
          (fun apart => zonesApart_congr (s := (s.setDevice d x).setScDev d .powerOn) inputs apart) fun e other h => ?_,
          fun h => (recompute u c).copies (copies h)⟩
        have hold : (u.channel e).hold = (s.channel e).hold := congrArg ChannelCore.hold (cores_core cores e)
        rw [State.holdCurrent, hold, holdCauses_congr roles inputs, holdCauses_rebind (by rw [role]; simpa using other.symm) rfl]
        exact h.1 e
      have inputs := refreshMissing_inputs ((s.setDevice d x).setScDev d .powerOn) c
      have unheld : ((((s.setDevice d x).setScDev d .powerOn).refreshMissing c).scDev d).abortHeld = false := by
        rw [inputs_abortHeld inputs, scDev_setScDev, if_pos rfl]; rfl
      refine kept ((((s.setDevice d x).setScDev d .powerOn).refreshMissing c).setScDev d
        { (((s.setDevice d x).setScDev d .powerOn).refreshMissing c).scDev d with abortHeld := false })
        ⟨rfl, (inputs_setScDev _ unheld.symm).trans inputs, refreshMissing_cores _ c⟩ fun copies => ?_
      exact copies
    | detector c g =>
      exact (rebound (by simp [role])).trans (elsewhere (t := State.refreshMissing _ c) (by simp))
    | _ => exact rebound (by simp [role])
  have bound (u : State) (role : (u.device d).role = r) : u.Informs ((u.scPresence d r).dropPresentation d) :=
    (scPresence role).frame (by simp)
  unfold State.storeDevice; dsimp only
  exact (unbound _).trans (bound _ (by simp [State.device]))

theorem writeDevice (s : State) (d : DevIx) (b : List Byte) : s.Informs (s.writeDevice d b).1 := by
  unfold State.writeDevice; split
  · exact refl s
  · split
    · exact refl s
    · split
      · exact refl s
      · exact storeDevice s d _ _

/-- R5, R96, R161: a door entry is stored, and SC is told of the door that it makes. -/
theorem storeDoor (s : State) (d : DoorId) (e : DoorEntry) : s.Informs (s.storeDoor d e) := by
  have others (x : Door) (k : DoorId) (other : k ≠ d) : ((s.setDoor d x).door k).view = (s.door k).view := by
    rw [door_setDoor, if_neg other]
  have told (u : State) (v : Option DoorView) (h : u.fc.roles = s.fc.roles ∧ u.sc.inputs = s.sc.inputs
      ∧ u.sc.cores = s.sc.cores ∧ u.ru.rosters = s.ru.rosters ∧ u.ru.status = s.ru.status ∧ u.sau.raised = s.sau.raised)
      (x : Door) (views : u.dc.views = (s.setDoor d x).dc.views) (view : x.view = v) : s.Informs (u.scDoorNotice d v) := by
    refine scDoorNotice h ?_ fun k other => (views_view views k).trans (others x k other)
    rw [views_view views d, door_setDoor_self, view]
  unfold State.storeDoor; dsimp only
  refine told _ _ ?_ (s.writtenDoor (s.door d) e) ?_ rfl
  · cases e.kind <;> dsimp only <;> (try split) <;> simp
  · cases e.kind <;> dsimp only <;> (try split) <;> simp

theorem writeDoor (s : State) (d : DoorId) (b : List Byte) : s.Informs (s.writeDoor d b).1 := by
  unfold State.writeDoor; dsimp only; split
  · split
    · exact refl s
    · split
      · exact storeDoor s d _
      · exact refl s
  · exact refl s

theorem writeZone (s : State) (z : ZoneId) (b : List Byte) : s.Informs (s.writeZone z b).1 := by
  unfold State.writeZone; dsimp only; split
  · exact refl s
  · split
    · exact refl s
    · dsimp only
      split
      · exact elsewhere ⟨rfl, rfl, rfl, rfl, rfl, rfl, rfl⟩
      · exact elsewhere (by simp)

/-- R156, R160: the entry of a channel at rest is stored, and its set is formed again for its new zone. -/
theorem writeChannel (s : State) (c : ChannelId) (b : List Byte) : s.Informs (s.writeChannel c b).1 := by
  have stored {x : Channel} {code : Nat} {zone : Option ZoneId} (quiet : (s.channel c).state.isQuiet = true)
      (found : s.channelZoneOf c code = some zone) (bound : x.zone = zone)
      (state : x.state = (s.channel c).state.afterWrite zone) (driveOn : x.driveOn = (s.channel c).driveOn) :
      s.Informs ((s.setChannel c x).recompute c) := by
    have idle : x.state ≠ .releasing := state ▸ afterWrite_atRest _ _
    refine ⟨.recomputeAfter (fun e other => ?_) (fun lawful => ?_) (fun releasing => ?_) (fun apart => ?_)
      fun e other h => holdCurrent_setChannel other (h.1 e), fun copies => (recompute (s.setChannel c x) c).copies copies⟩
    · rw [core_setChannel, if_neg other]
    · rw [core_setChannel, if_pos rfl]
      intro on
      have releasing : (s.channel c).state = .releasing := lawful (driveOn.symm.trans on)
      rw [releasing] at quiet; exact absurd quiet (by decide)
    · rw [channel_setChannel_self] at releasing; exact absurd releasing idle
    · intro e k z
      rw [channel_setChannel, channel_setChannel]
      split <;> split
      · next he hk => exact fun _ _ => he.trans hk.symm
      · next hk => exact fun he hk' => absurd hk' (channelZoneOf_apart (found.trans (congrArg some (bound.symm.trans he))) hk)
      · next he _ => exact fun he' hk => absurd he' (channelZoneOf_apart (found.trans (congrArg some (bound.symm.trans hk))) he)
      · exact apart e k z
  unfold State.writeChannel; dsimp only; split
  · exact refl s
  · next quiet =>
    split
    · exact refl s
    · split
      · exact refl s
      · next zone found => exact stored (by simpa using quiet) found rfl rfl rfl

theorem writeSchedule (s : State) (n : SchedId) (b : List Byte) : s.Informs (s.writeSchedule n b).1 := by
  unfold State.writeSchedule; split
  · exact refl s
  · dsimp only; exact elsewhere (by simp)

theorem endFunction (s : State) (g : GiId) : s.Informs (s.endFunction g) := by
  unfold State.endFunction; split
  · exact keyNotice s g _ false
  · exact refl s

theorem writeLine (s : State) (g : GiId) (b : List Byte) : s.Informs (s.writeLine g b).1 := by
  unfold State.writeLine; split
  · exact refl s
  · exact (endFunction s g).frame (by simp)

theorem writeEntry (s : State) (t : TableId) (i : Nat) (b : List Byte) : s.Informs (s.writeEntry t i b).1 := by
  have bad (c : ReplyCode) : s.Informs (s, c).1 := refl s
  unfold State.writeEntry; split
  · split; exacts [writeDevice s _ b, bad _]
  · split; exacts [writeDoor s _ b, bad _]
  · split; exacts [writeZone s _ b, bad _]
  · split; exacts [writeChannel s _ b, bad _]
  · split; exacts [writeSchedule s _ b, bad _]
  · split; exacts [writeLine s _ b, bad _]
  all_goals exact bad _

theorem writeNext (t : TableId) (r : State × List ReplyCode) (b : List Byte) : r.1.Informs (Machine.writeNext t r b).1 := by
  unfold Machine.writeNext; dsimp only; split
  · exact (writeEntry r.1 t r.1.sp.cursorIndex b).trans (setSp _ _)
  · exact refl r.1

theorem writeAll (t : TableId) (l : List (List Byte)) (r : State × List ReplyCode) :
    r.1.Informs (l.foldl (Machine.writeNext t) r).1 := by
  induction l generalizing r with
  | nil => exact refl r.1
  | cons b l ih => exact (writeNext t r b).trans (ih _)

/-! ## The management commands -/

theorem cmdTableWrite (entries : List Byte) (s : State) : s.Informs (Machine.cmdTableWrite entries s).1 := by
  unfold Machine.cmdTableWrite; dsimp only; split
  · exact refl s
  · split
    · exact refl s
    · exact writeAll _ _ (s, [])

theorem verifyBody (zone : Byte) (r : VerifyReason) (s : State) : s.Informs (Machine.verifyBody zone r s).1 := by
  unfold Machine.verifyBody; split
  · exact refl s
  · split
    · exact refl s
    · exact verify s _ r

theorem cmdZoneUnknown (zone : Byte) (s : State) : s.Informs (Machine.cmdZoneUnknown zone s).1 := by
  unfold Machine.cmdZoneUnknown; split
  · exact refl s
  · exact zoneNotices (by simp)

theorem cmdChannelReset (channel : Byte) (s : State) : s.Informs (Machine.cmdChannelReset channel s).1 := by
  unfold Machine.cmdChannelReset; split
  · exact refl s
  · split
    · next active => exact resetChannel active
    · exact refl s

theorem setStationLockout (s : State) (c : ChannelId) (flag : Bool) :
    s.Informs (s.setChannel c { s.channel c with stationLockout := flag }) :=
  ofSetChannel rfl rfl (.setChannel rfl rfl rfl id id id)

theorem cmdChannelLockout (channel : Byte) (s : State) : s.Informs (Machine.cmdChannelLockout channel s).1 := by
  unfold Machine.cmdChannelLockout; split
  · exact refl s
  · split
    · exact refl s
    · exact (setStationLockout s _ true).trans (lockOut _ _ .station)

theorem cmdChannelRestore (channel : Byte) (s : State) : s.Informs (Machine.cmdChannelRestore channel s).1 := by
  unfold Machine.cmdChannelRestore; split
  · exact refl s
  · split
    · exact (setStationLockout s _ false).trans (leaveLockout _ _ .station)
    · exact refl s

theorem cmdAlarmAck (number : Byte) (s : State) : s.Informs (Machine.cmdAlarmAck number s).1 := by
  unfold Machine.cmdAlarmAck; split
  · exact refl s
  · split
    · exact refl s
    · next stands =>
      split
      · exact refl s
      · exact ackAlarm stands

theorem cmdAlarmClear (number : Byte) (s : State) : s.Informs (Machine.cmdAlarmClear number s).1 := by
  unfold Machine.cmdAlarmClear; split
  · exact refl s
  · split
    · exact refl s
    · split
      · exact clearAlarm s _
      · exact refl s

theorem cmdAlarmClearZone (zone : Byte) (s : State) : s.Informs (Machine.cmdAlarmClearZone zone s).1 := by
  unfold Machine.cmdAlarmClearZone; split
  · exact refl s
  · split
    · exact clearOverflow s _
    · exact refl s

theorem stationGrant (s : State) (d : DoorId) : s.Informs (s.stationGrant d).1 := by
  unfold State.stationGrant; dsimp only; split
  · exact elsewhere (by simp)
  · have granted : s.Informs ((s.driveOpt (s.door d).entry.unit (.unlock (s.door d).entry.unlockWindow)).postDoor
        .stationGrant d) := elsewhere (by simp)
    exact granted.trans (openingNotice _ _ _)
  all_goals exact refl s

theorem cmdDoorGrant (door : Byte) (s : State) : s.Informs (Machine.cmdDoorGrant door s).1 := by
  unfold Machine.cmdDoorGrant; split
  · exact refl s
  · split
    · exact refl s
    · exact refl s
    · split
      · exact refl s
      · exact stationGrant s _

theorem cmdRestart (s : State) : s.Informs (Machine.cmdRestart s).1 := by
  unfold Machine.cmdRestart; split
  · exact refl s
  · split
    · exact setSp s _
    · rw [yes_fst]; exact restartAll s

theorem cmdStrongroomCancel (door : Byte) (s : State) : s.Informs (Machine.cmdStrongroomCancel door s).1 := by
  unfold Machine.cmdStrongroomCancel; split
  · exact refl s
  · dsimp only; (repeat' split) <;> exact elsewhere (by simp)

theorem cmdHolidayAdd (day : BitVec 16) (s : State) : s.Informs (Machine.cmdHolidayAdd day s).1 := by
  unfold Machine.cmdHolidayAdd; (repeat' split) <;> exact elsewhere (by simp)

theorem cmdHolidayDrop (day : BitVec 16) (s : State) : s.Informs (Machine.cmdHolidayDrop day s).1 := by
  unfold Machine.cmdHolidayDrop; split <;> exact elsewhere (by simp)

theorem cmdClockSet (day : BitVec 16) (weekday : Byte) (second : BitVec 24) (s : State) :
    s.Informs (Machine.cmdClockSet day weekday second s).1 := by
  unfold Machine.cmdClockSet; exact elsewhere (by simp)

/-- R201: every command that a code and parameters name. -/
theorem bodyOf (code : Byte) (l : List Byte) (body : Body) (h : Machine.bodyOf code l = some body) :
    ∀ s : State, s.Informs (body s).1 :=
  bodyOf_all (fun body => ∀ s : State, s.Informs (body s).1)
    (hTablePoint := fun _ _ s => elsewhere (by simp))
    (hTableRead := fun _ s => elsewhere (by simp))
    (hTableWrite := cmdTableWrite)
    (hCredPut := fun _ s => elsewhere (by simp))
    (hCredDrop := fun _ s => elsewhere (by simp))
    (hCredLook := fun _ s => elsewhere (by simp))
    (hHolidayAdd := cmdHolidayAdd)
    (hHolidayDrop := cmdHolidayDrop)
    (hClockSet := cmdClockSet)
    (hZoneVerifyClear := fun zone => verifyBody zone .clear)
    (hZoneVerifyKeep := fun zone => verifyBody zone .keep)
    (hZoneUnknown := cmdZoneUnknown)
    (hChannelReset := cmdChannelReset)
    (hChannelLockout := cmdChannelLockout)
    (hChannelRestore := cmdChannelRestore)
    (hAlarmAck := cmdAlarmAck)
    (hAlarmClear := cmdAlarmClear)
    (hAlarmClearZone := cmdAlarmClearZone)
    (hDoorGrant := cmdDoorGrant)
    (hStrongroomCancel := cmdStrongroomCancel)
    (hStatus := fun s => elsewhere (by simp))
    (hRestart := cmdRestart)
    code l body h

theorem takeCommand {s : State} {body : Body} (h : s.Informs (body s).1) (seq : BitVec 4) (code : Byte) :
    s.Informs (s.takeCommand seq code body) := by
  unfold State.takeCommand; split
  · exact setSp s _
  · split
    · exact elsewhere (by simp)
    · exact h.frame (by simp)

/-! ## Station frames -/

theorem stationFrameTaken (s : State) (f : Frame) : s.Informs (s.stationFrameTaken f) := by
  unfold State.stationFrameTaken; split
  · exact refl s
  · split
    · split
      · split
        · exact takeCommand (refl s) _ 0
        · next code l _ =>
          refine takeCommand ?_ _ code
          cases h : Machine.bodyOf code l with
          | none => exact refl s
          | some body => exact bodyOf code l body h s
      · exact refl s
    · split
      · exact elsewhere (by simp)
      · exact refl s

theorem rxByte (s : State) (b : Byte) : s.Informs (s.rxByte b) :=
  have keeps {β : Type} (f : State → β) (rx : ∀ (t : State) l, f (t.setRx l) = f t)
      (intake : ∀ (t : State) l, f (t.setIntake l) = f t) : f (s.rxByte b) = f s := rxByte_keeps f rx intake s b
  elsewhere ⟨keeps (fun t => t.fc.roles) (by simp) (by simp), keeps (fun t => t.sc.inputs) (by simp) (by simp),
    keeps (fun t => t.sc.cores) (by simp) (by simp), keeps (fun t => t.ru.rosters) (by simp) (by simp),
    keeps (fun t => t.ru.status) (by simp) (by simp), keeps (fun t => t.sau.raised) (by simp) (by simp),
    keeps (fun t => t.dc.views) (by simp) (by simp)⟩

theorem takeIntake (s : State) : s.Informs s.takeIntake := by
  have emptied : s.Informs (s.setIntake []) := setSp s _
  exact emptied.trans (foldl stationFrameTaken _ _)

theorem rxBytes (s : State) (l : List Byte) : s.Informs (s.rxBytes l) :=
  (foldl rxByte l s).trans (takeIntake _)

theorem rxGap (s : State) (b : Byte) : s.Informs (s.rxGap b) := by
  have abandoned : s.Informs (s.setRx []) := setSp s _
  exact abandoned.trans ((rxByte _ b).trans (takeIntake _))

end State.Informs

end Sys2Proof.Machine
end

section
namespace Sys2Proof.Machine

/-! ## Every command but three -/

/-- R168: everything but the release itself, a second tick and a power-on reset. -/
theorem State.Informs.of_exec (i : Instr) (s : State) (reset : ∀ b, i ≠ .powerOnReset b) (tick : i ≠ .clockAdvance)
    (expiry : ∀ c, i ≠ .countdownExpiry c) : ∃ u : State, exec i s = u.done ∧ s.Informs u := by
  cases i with
  | powerOnReset b => exact absurd rfl (reset b)
  | clockAdvance => exact absurd rfl tick
  | countdownExpiry c => exact absurd rfl (expiry c)
  | loopFrameReceived arrival ms bytes => exact ⟨_, rfl, (reachMs s ms).trans (loopBytes _ arrival bytes)⟩
  | stationFrameReceived bytes => exact ⟨_, rfl, rxBytes s bytes⟩
  | stationFrameGap next => exact ⟨_, rfl, rxGap s next⟩
  | deviceMissing device => exact ⟨_, rfl, ite fun _ => deviceGone s _⟩
  | tableWrite seq entries => exact ⟨_, rfl, takeCommand (cmdTableWrite entries s) seq _⟩
  | holidayAdd seq day => exact ⟨_, rfl, takeCommand (cmdHolidayAdd day s) seq _⟩
  | holidayDrop seq day => exact ⟨_, rfl, takeCommand (cmdHolidayDrop day s) seq _⟩
  | clockSet seq day weekday second => exact ⟨_, rfl, takeCommand (cmdClockSet day weekday second s) seq _⟩
  | zoneVerifyClear seq zone => exact ⟨_, rfl, takeCommand (verifyBody zone .clear s) seq _⟩
  | zoneVerifyKeep seq zone => exact ⟨_, rfl, takeCommand (verifyBody zone .keep s) seq _⟩
  | zoneUnknown seq zone => exact ⟨_, rfl, takeCommand (cmdZoneUnknown zone s) seq _⟩
  | channelReset seq channel => exact ⟨_, rfl, takeCommand (cmdChannelReset channel s) seq _⟩
  | channelLockout seq channel => exact ⟨_, rfl, takeCommand (cmdChannelLockout channel s) seq _⟩
  | channelRestore seq channel => exact ⟨_, rfl, takeCommand (cmdChannelRestore channel s) seq _⟩
  | alarmAck seq number => exact ⟨_, rfl, takeCommand (cmdAlarmAck number s) seq _⟩
  | alarmClear seq number => exact ⟨_, rfl, takeCommand (cmdAlarmClear number s) seq _⟩
  | alarmClearZone seq zone => exact ⟨_, rfl, takeCommand (cmdAlarmClearZone zone s) seq _⟩
  | doorGrant seq door => exact ⟨_, rfl, takeCommand (cmdDoorGrant door s) seq _⟩
  | strongroomCancel seq door => exact ⟨_, rfl, takeCommand (cmdStrongroomCancel door s) seq _⟩
  | restart seq => exact ⟨_, rfl, takeCommand (cmdRestart s) seq _⟩
  | tablePoint seq | tableRead seq | credPut seq | credDrop seq | credLook seq | status seq =>
    exact ⟨_, rfl, takeCommand (elsewhere (by simp)) seq _⟩
  | bucketReadComplete slots => exact ⟨_, rfl, readCompletes s slots⟩
  | bucketReadTimeout => exact ⟨_, rfl, readEndsFaulted s⟩
  | slotWriteTimeout => exact ⟨_, rfl, slotWriteFails s⟩
  | readBackComplete | readBackTimeout => exact ⟨_, rfl, readBackEnds s _⟩
  | settleTimerExpiry line => exact ⟨_, rfl, settleExpired s line⟩
  | pressTimerExpiry line => exact ⟨_, rfl, pressExpired s line⟩
  | driveTimerExpiry channel => exact ⟨_, rfl, ite fun _ => endRelease s channel⟩
  | graceTimerExpiry zone => exact ⟨_, rfl, ite fun _ => enterOverdue s _⟩
  | intervalTimerExpiry | promptRepeat
  | sweepDue | sweepUnreturned | silenceTimerExpiry | unlockTimerExpiry | heldOpenTimerExpiry
  | pairingTimerExpiry | custodyPairingExpiry | displayTimerExpiry | delayTimerExpiry | confirmTimerExpiry
  | strongroomUnlockExpiry | boltSettleExpiry | valveConfirmTimeout | soakTimerExpiry
  | toneRefresh | driveFault | driveFaultCleared
  | timebaseDegraded | timebaseRestored | crystalGapWhileDegraded => exact ⟨_, rfl, ite fun _ => elsewhere (by simp)⟩
  | driveReadbackChange channel active =>
    exact ⟨_, rfl, elsewhere ⟨rfl, inputs_setChannel s rfl rfl, cores_setChannel s rfl, rfl, rfl, rfl, rfl⟩⟩
  | loopFrameSent | loopBoundStationFrame | stationFrameSent | slotWriteComplete | levelLineChange
  | pulseLineChange | recoveryTimerExpiry | stationLenOver40 => exact ⟨_, rfl, elsewhere (by simp)⟩

end Sys2Proof.Machine
end

section
namespace Sys2Proof.Machine

/-! ## The power-on reset and the second tick -/

section
variable (s : State) (b : Bool)

/-- R156: after a power-on reset no channel has a zone, a cause or an active drive. -/
theorem powerOn_channel (c : ChannelId) : (s.powerOn b).channel c = (s.channel c).afterPowerOn := by
  cases b <;> simp [State.powerOn, State.channel]

theorem powerOn_zoneView (z : ZoneId) : (s.powerOn b).zoneView z = { status := .unknown, count := 0, alarm := false } := by
  cases b <;> simp [State.powerOn, State.zoneView, State.reset]

theorem powerOn_doorView (d : DoorId) : (s.powerOn b).doorView d = none := by
  cases b <;> simp [State.powerOn, State.doorView, State.reset]

theorem powerOn_door (d : DoorId) : (s.powerOn b).door d = Door.powerOn := by
  cases b <;> simp [State.powerOn, State.door, State.reset]

theorem powerOn_alarmCondition (z : ZoneId) : (s.powerOn b).alarmCondition z = false := by
  cases b <;> simp [State.powerOn, State.alarmCondition, State.alarmOverflow, Sau.powerOn, State.reset]

/-- R157, R161: after a power-on reset no channel is bound and the copies are what RU, SAU and DC hold. -/
theorem powerOn_informs : s.Informs (s.powerOn b) := by
  have zone (c : ChannelId) : ((s.powerOn b).channel c).zone = none := congrArg Channel.zone (powerOn_channel s b c)
  have state (c : ChannelId) : ((s.powerOn b).channel c).state = .unused := congrArg Channel.state (powerOn_channel s b c)
  have hold (c : ChannelId) : ((s.powerOn b).channel c).hold = .empty := congrArg Channel.hold (powerOn_channel s b c)
  have driveOn (c : ChannelId) : ((s.powerOn b).channel c).driveOn = false :=
    congrArg Channel.driveOn (powerOn_channel s b c)
  refine ⟨⟨⟨fun c _ on => ?_, fun c _ => ⟨fun counting => ?_, fun held => ?_⟩, fun _ => ⟨fun c => ?_, fun c _ z bound => ?_⟩⟩,
    fun c releasing => ?_⟩, fun _ => ⟨fun z tracked => ⟨?_, ?_, ?_⟩, fun d => ?_⟩⟩
  · exact absurd ((driveOn c).symm.trans on) (by decide)
  · exact absurd ((state c).symm.trans counting) (by decide)
  · exact absurd ((state c).symm.trans held) (by decide)
  · rw [hold, State.holdCauses, zone]
  · exact absurd ((zone c).symm.trans bound) nofun
  · exact absurd ((state c).symm.trans releasing) (by decide)
  · rw [powerOn_zoneView, State.zoneStatus, powerOn_ru]
    fin_cases z
    · exact absurd rfl tracked
    all_goals rfl
  · rw [powerOn_zoneView, State.roster, powerOn_ru]
    simp [State.reset]
  · rw [powerOn_zoneView, powerOn_alarmCondition]
  · rw [powerOn_doorView, powerOn_door]; rfl

/-- R166: the second tick moves a countdown, and nothing that the laws read. -/
theorem tick_core (x : Channel) : x.tick.core = x.core ∧ x.tick.zone = x.zone ∧ x.tick.abortLine = x.abortLine := by
  unfold Channel.tick; (repeat' split) <;> exact ⟨rfl, rfl, rfl⟩

theorem tickChannels_informs : s.Informs s.tickChannels := by
  refine .elsewhere ⟨rfl, Prod.ext ?_ rfl, ?_, rfl, rfl, rfl, rfl⟩
  · exact Vector.map_map.trans (congrArg (fun f => s.sc.channels.map f)
      (funext fun x => Prod.ext (tick_core x).2.1 (tick_core x).2.2))
  · exact Vector.map_map.trans (congrArg (fun f => s.sc.channels.map f) (funext fun x => (tick_core x).1))

end

/-! ## Every command -/

/-- R168, law 2: all but a COUNTDOWN_EXPIRY bring no channel into RELEASING. -/
theorem exec_informs {i : Instr} {s t : State} (h : exec i s = .next t) (expiry : ∀ c, i ≠ .countdownExpiry c) :
    s.Informs t := by
  by_cases reset : ∃ b, i = .powerOnReset b
  · obtain ⟨b, rfl⟩ := reset
    obtain rfl := Host.Outcome.next.inj h
    exact (powerOn_informs s b).frame (by simp)
  · by_cases tick : i = .clockAdvance
    · subst tick
      obtain rfl := Host.Outcome.next.inj ((exec_clockAdvance s).symm.trans h)
      have ticked : s.Informs s.tickClock.refreshAfterHours := .elsewhere (by simp)
      exact (ticked.trans (tickChannels_informs _)).frame (by simp)
    · obtain ⟨u, done, informs⟩ := State.Informs.of_exec i s (not_exists.1 reset) tick expiry
      obtain rfl : u.settle = t := Host.Outcome.next.inj (done.symm.trans h)
      exact informs.frame (by simp)

/-- R168: the channel that is released. -/
def State.released (s : State) (c : ChannelId) : Channel :=
  Channel.recount
    { s.channel c with
      state := .releasing, countdown := 0, countdownDue := false, driveOn := true, drive := s.after (s.channel c).driveTime
      phase := .waiting, confirm := s.after (s.channel c).confirmTimeout }

/-- R168 to R170, R177: the confirmation, the tones and the event of a release touch nothing that the laws read. -/
theorem release_informs (s : State) (c : ChannelId) : (s.setChannel c (s.released c)).Informs (s.release c) := by
  have confirmed (u : State) : u.Informs (if (s.channel c).valveLine then u.confirmRelease c false else u) :=
    .ite fun _ => .elsewhere (by simp)
  have told (u : State) : u.Informs ((u.changeTone c (s.channel c).state.tone).postSc .channelRelease c) :=
    .elsewhere (by simp)
  exact (confirmed _).trans (told _)

/-- R169: a release drives a channel that is RELEASING. -/
theorem release_keepsHolds (s : State) (c : ChannelId) : s.KeepsHolds (s.release c) := by
  have written : s.KeepsHolds (s.setChannel c (s.released c)) :=
    .setChannel rfl rfl rfl (fun _ _ => rfl) fun _ => ⟨nofun, nofun⟩
  exact written.trans (release_informs s c).toKeepsHolds

theorem release_copiesCurrent (s : State) (c : ChannelId) (h : s.copiesCurrent) : (s.release c).copiesCurrent := by
  have inputs : (s.setChannel c (s.released c)).sc.inputs = s.sc.inputs := inputs_setChannel s rfl rfl
  exact (release_informs s c).copies (copiesCurrent_congr inputs rfl rfl rfl rfl h)

theorem release_withheld {s : State} {c e : ChannelId} (other : e ≠ c) (releasing : ((s.release c).channel e).state = .releasing) :
    (s.channel e).state = .releasing := by
  have before := (release_informs s c).withheld e releasing
  rwa [channel_setChannel, if_neg other] at before

/-- R166: a countdown's end releases a channel in PRE_DISCHARGE, once it is due and no cause stands. -/
theorem exec_countdownExpiry (c : ChannelId) (s : State) :
    exec (.countdownExpiry c) s =
      .next (if (s.channel c).state = .preDischarge ∧ (s.channel c).countdownDue ∧ (s.channel c).hold.isEmpty then s.release c
        else s).settle := rfl

theorem settle_informs (s : State) : s.Informs s.settle := .elsewhere (by simp)

theorem exec_keepsHolds {i : Instr} {s t : State} (h : exec i s = .next t) : s.KeepsHolds t := by
  by_cases expiry : ∃ c, i = .countdownExpiry c
  · obtain ⟨c, rfl⟩ := expiry
    obtain rfl := Host.Outcome.next.inj ((exec_countdownExpiry c s).symm.trans h)
    split
    · exact (release_keepsHolds s c).trans (settle_informs _).toKeepsHolds
    · exact (settle_informs s).toKeepsHolds
  · exact (exec_informs h (not_exists.1 expiry)).toKeepsHolds

theorem exec_copiesCurrent {i : Instr} {s t : State} (h : exec i s = .next t) (copies : s.copiesCurrent) : t.copiesCurrent := by
  by_cases expiry : ∃ c, i = .countdownExpiry c
  · obtain ⟨c, rfl⟩ := expiry
    obtain rfl := Host.Outcome.next.inj ((exec_countdownExpiry c s).symm.trans h)
    refine (settle_informs _).copies ?_
    split
    · exact release_copiesCurrent s c copies
    · exact copies
  · exact (exec_informs h (not_exists.1 expiry)).copies copies

/-- R168, law 2: a channel enters RELEASING by its own countdown's end, in PRE_DISCHARGE with no cause. -/
theorem exec_releasing {i : Instr} {s t : State} {c : ChannelId} (h : exec i s = .next t)
    (before : (s.channel c).state ≠ .releasing) (after : (t.channel c).state = .releasing) :
    i = .countdownExpiry c ∧ (s.channel c).state = .preDischarge ∧ (s.channel c).countdownDue = true
      ∧ (s.channel c).hold = .empty := by
  by_cases expiry : ∃ e, i = .countdownExpiry e
  · obtain ⟨e, rfl⟩ := expiry
    obtain rfl := Host.Outcome.next.inj ((exec_countdownExpiry e s).symm.trans h)
    have releasing := (settle_informs _).withheld c after
    split at releasing
    · next due =>
      obtain ⟨counting, due, none⟩ := due
      by_cases own : c = e
      · subst own; exact ⟨rfl, counting, due, (isEmpty_iff _).1 none⟩
      · exact absurd (release_withheld own releasing) before
    · exact absurd releasing before
  · exact absurd ((exec_informs h (not_exists.1 expiry)).withheld c after) before

/-! ## What an empty hold-cause set tells -/

section
variable {s : State} {c : ChannelId} {z : ZoneId}

/-- R159: no abort is present at a channel: its line and its stations are released. -/
theorem abortPresent_false (h : s.abortPresent c = false) :
    (s.channel c).abortLine = false ∧ ∀ d : DevIx, (s.device d).role = .abortStation c → (s.scDev d).abortHeld = false := by
  obtain ⟨line, stations⟩ := Bool.or_eq_false_iff.1 h
  refine ⟨line, fun d role => ?_⟩
  have released := List.any_eq_false.1 stations d (List.mem_finRange d)
  simpa [role] using released

/-- R160: no door of the zone is known to be other than closed. -/
theorem enclosureOpen_false (h : s.enclosureOpen z = false) {d : DoorId} {v : DoorView} (view : s.doorView d = some v)
    (bounds : v.outer = z ∨ v.inner = z) : v.contact = .closed := by
  have shut := List.any_eq_false.1 ((enclosureOpen_eq s z).symm.trans h) d (List.mem_finRange d)
  rw [view] at shut
  rcases bounds with bound | bound <;> simpa [DoorView.opens, DoorView.encloses, bound] using shut

/-- R160, R161: a channel with a current, empty set has a KNOWN, empty, free zone. -/
theorem zone_of_hold_empty (holds : s.holdsCurrent) (copies : s.copiesCurrent) (tracked : z ≠ 0)
    (bound : (s.channel c).zone = some z) (empty : (s.channel c).hold = .empty) :
    (s.zoneStatus z = .known ∧ s.roster z = [] ∧ s.alarmCondition z = false) ∧ s.abortPresent c = false
      ∧ s.enclosureOpen z = false := by
  have causes := (holds.1 c).symm.trans empty
  rw [State.holdCauses, bound] at causes
  obtain ⟨abort, occupied, unknown, alarm, enclosure⟩ := HoldSet.mk.inj causes
  obtain ⟨status, count, condition⟩ := copies.1 z tracked
  rw [status] at unknown
  rw [count] at occupied
  refine ⟨⟨?_, ?_, condition.symm.trans alarm⟩, abort, enclosure⟩
  · cases known : s.zoneStatus z with
    | known => rfl
    | unknown => rw [known] at unknown; exact absurd unknown (by decide)
  · simpa using occupied

theorem alarmCondition_false (h : s.alarmCondition z = false) :
    (∀ r ∈ s.sau.alarms, r.zone ≠ z) ∧ s.alarmOverflow z = false := by
  obtain ⟨records, overflow⟩ := Bool.or_eq_false_iff.1 h
  exact ⟨fun r stands => by simpa using List.any_eq_false.1 records r stands, overflow⟩

/-- R161: SC's copy of a door that stands in the table. -/
theorem doorView_of_copies (copies : s.copiesCurrent) {k : DoorId} (stands : (s.door k).entry.kind ≠ .noDoor) :
    s.doorView k = some { outer := (s.door k).entry.outer, inner := (s.door k).entry.inner, contact := (s.door k).contact } :=
  (copies.2 k).trans (if_neg stands)

end

/-! ## Every step -/

theorem step_keepsHolds {s t : State} (h : step s = .next t) : s.KeepsHolds t := by
  unfold step at h
  split at h
  · obtain rfl := Host.Outcome.next.inj h
    exact ⟨fun _ => id, fun _ => id, id⟩
  · have kept := exec_keepsHolds h
    exact ⟨kept.driven, kept.acted, kept.holds⟩

theorem step_copiesCurrent {s t : State} (h : step s = .next t) : s.copiesCurrent → t.copiesCurrent :=
  step_keeps_of_exec (p := State.copiesCurrent) (fun _ _ => id) (fun _ _ _ => exec_copiesCurrent) h

end Sys2Proof.Machine
end

section
open Sys2Proof Sys2Proof.Machine

/-- Settles O44: by what every command other than a countdown's end withholds, and by what the empty set that the release asks for
tells of the zone. -/
theorem releasingOnlyFromCountdown : Obligations.ReleasingOnlyFromCountdown := by
  refine ⟨fun s t lawful h => ?_, fun i s t c h before after => ?_⟩
  · exact (drivesOnlyReleasing_iff t).2 fun c => (step_keepsHolds h).driven c ((drivesOnlyReleasing_iff s).1 lawful c)
  · obtain ⟨own, counting, due, empty⟩ := exec_releasing h before after
    refine ⟨own, counting, due, fun z tracked bound holds copies => ?_⟩
    obtain ⟨⟨known, nobody, condition⟩, abort, enclosure⟩ := zone_of_hold_empty holds copies tracked bound empty
    obtain ⟨records, overflow⟩ := alarmCondition_false condition
    obtain ⟨line, stations⟩ := abortPresent_false abort
    exact ⟨known, nobody, records, overflow, line, stations,
      fun k stands bounds => enclosureOpen_false enclosure (doorView_of_copies copies stands) bounds⟩

/-- Settles O45: every command forms a set again when what it is formed from changes, and gives SC the notice of what its copies
hold. -/
theorem holdsAndCopiesStayCurrent : Obligations.HoldsAndCopiesStayCurrent := fun s t h =>
  ⟨(step_keepsHolds h).holds, step_copiesCurrent h,
    fun acted => (holdsActed_iff t).2 fun c => (step_keepsHolds h).acted c ((holdsActed_iff s).1 acted c)⟩

end

section
namespace Sys2Proof.Machine

/-! ## The timers and the drive readback of a channel -/

/-- R169: the count of a channel whose drive is active. -/
theorem recount_on {x : Channel} (on : x.driveOn = true) :
    x.recount = { x with readCount :=
      if x.readback = true then (if x.flags.driveFault = true then .agreeing else .stopped)
      else (if x.flags.driveFault = true then .stopped else .disagreeing) } := by
  cases back : x.readback <;> simp [Channel.recount, on, back]

/-- R169: the count of a channel whose drive is inactive. -/
theorem recount_off {x : Channel} (off : x.driveOn = false) :
    x.recount = { x with readCount :=
      if x.readback = true then (if x.flags.driveFault = true then .stopped else .disagreeing)
      else (if x.flags.driveFault = true then .agreeing else .stopped) } := by
  cases back : x.readback <;> simp [Channel.recount, off, back]

section
variable {s : State} {c : ChannelId}

/-- R177: a change of pattern, and the event that follows it. -/
theorem changeTone_postSc {old : Tone} (kind : EventKind) (reason : Option Nat) (changes : (s.channel c).state.tone ≠ old) :
    (s.changeTone c old).postSc kind c reason =
      (s.patternTold c (s.channel c).state.tone).tells
        (s.event kind (zone := (s.channel c).zone) (channel := some c) (reason := reason)) := by
  rw [changeTone_eq changes, postSc_eq, patternTold_zone, event_congr (patternTold_csu s c _)]

/-- R206: an event of a channel that has been written. -/
theorem postSc_setChannel {x : Channel} (kind : EventKind) (reason : Option Nat) (zone : x.zone = (s.channel c).zone) :
    (s.setChannel c x).postSc kind c reason =
      (s.setChannel c x).tells
        (s.event kind (zone := (s.channel c).zone) (channel := some c) (reason := reason)) := by
  rw [postSc_eq, channel_setChannel_self, zone]; rfl

/-- R168: a channel of a released zone, its confirmation open if its valve line does not answer yet. -/
theorem release_eq (counting : (s.channel c).state = .preDischarge) :
    let told (kind : EventKind) : EventRecord := s.event kind (zone := (s.channel c).zone) (channel := some c)
    let v := s.setChannel c
      { s.released c with
        phase := if (s.channel c).valveLine = true then .confirmed else .waiting
        confirm := if (s.channel c).valveLine = true then none else s.after (s.channel c).confirmTimeout }
    s.release c =
      ((if (s.channel c).valveLine = true then v.tells (told .releaseConfirmed) else v).patternTold c .release).tells
        (told .channelRelease) := by
  have told (u : State) (releasing : (u.channel c).state = .releasing) (zone : (u.channel c).zone = (s.channel c).zone)
      (csu : u.csu = s.csu) :
      (u.changeTone c (s.channel c).state.tone).postSc .channelRelease c =
        (u.patternTold c .release).tells (s.event .channelRelease (zone := (s.channel c).zone) (channel := some c)) := by
    rw [changeTone_postSc _ _ (by rw [releasing, counting]; decide), releasing, zone, event_congr csu]; rfl
  have waits : s.setChannel c { s.released c with phase := .waiting, confirm := s.after (s.channel c).confirmTimeout } =
      s.setChannel c (s.released c) := rfl
  have confirms : (s.setChannel c (s.released c)).confirmRelease c false =
      (s.setChannel c { s.released c with phase := .confirmed, confirm := none }).tells
        (s.event .releaseConfirmed (zone := (s.channel c).zone) (channel := some c)) := by
    rw [State.confirmRelease, channel_setChannel_self, setChannel_setChannel]
    exact postSc_setChannel _ _ rfl
  dsimp only
  have begun : s.release c =
      ((if (s.channel c).valveLine = true then (s.setChannel c (s.released c)).confirmRelease c false
        else s.setChannel c (s.released c)).changeTone c (s.channel c).state.tone).postSc .channelRelease c := rfl
  by_cases valve : (s.channel c).valveLine = true
  · rw [begun, if_pos valve, if_pos valve, if_pos valve, if_pos valve, ← confirms]
    refine told _ ?_ ?_ ?_ <;> rw [confirms] <;> simp [State.released, Channel.recount]
  · rw [begun, if_neg valve, if_neg valve, if_neg valve, if_neg valve, waits]
    refine told _ ?_ ?_ ?_ <;> simp [State.released, Channel.recount]

/-- R171: the channel that a release leaves when its drive has ended as `x`; a confirmation that is still open has failed. -/
def Channel.discharge (x : Channel) (now : Nat) : Channel :=
  { x with
    state := .discharged, confirm := none, phase := .idle, soak := some (now + x.soakTime), soakComplete := false
    flags := { x.flags with confirmFailed := x.flags.confirmFailed || x.phase == .waiting } }

/-- R171: the confirmation fails where it is still open, and the channel is DISCHARGED. -/
theorem discharge_eq {x : Channel} (zone : x.zone = (s.channel c).zone) :
    (let u := if ((s.setChannel c x).channel c).phase = .waiting then (s.setChannel c x).failConfirm c else s.setChannel c x
     u.setChannel c
       { u.channel c with
         state := .discharged, confirm := none, phase := .idle, soak := u.after (u.channel c).soakTime
         soakComplete := false }) =
      if x.phase = .waiting then
        (s.setChannel c (x.discharge s.csu.ticks)).tells
          (s.event .releaseConfirmFailed (zone := (s.channel c).zone) (channel := some c))
      else s.setChannel c (x.discharge s.csu.ticks) := by
  rw [channel_setChannel_self]
  by_cases waiting : x.phase = .waiting
  · have failed : (s.setChannel c x).failConfirm c =
        (s.setChannel c { x with phase := .failed, confirm := none, flags := { x.flags with confirmFailed := true } }).tells
          (s.event .releaseConfirmFailed (zone := (s.channel c).zone) (channel := some c)) := by
      rw [State.failConfirm, channel_setChannel_self, setChannel_setChannel]
      exact postSc_setChannel _ _ zone
    rw [if_pos waiting, if_pos waiting, failed]
    simp [State.after, Channel.discharge, waiting, setChannel_tells]
  · have closed : (x.phase == .waiting) = false := beq_eq_false_iff_ne.2 waiting
    rw [if_neg waiting, if_neg waiting]
    simp [State.after, Channel.discharge, closed]

/-- R171: the end of the drive. -/
theorem endRelease_eq :
    let v := s.setChannel c ((Channel.recount { s.channel c with driveOn := false, drive := none }).discharge s.csu.ticks)
    s.endRelease c =
      if (s.channel c).phase = .waiting then
        v.tells (s.event .releaseConfirmFailed (zone := (s.channel c).zone) (channel := some c))
      else v :=
  discharge_eq (x := Channel.recount { s.channel c with driveOn := false, drive := none }) rfl

/-- R170: the release is not confirmed in time. -/
theorem failConfirm_eq :
    s.failConfirm c =
      (s.setChannel c
        { s.channel c with
          phase := .failed, confirm := none, flags := { (s.channel c).flags with confirmFailed := true } }).tells
        (s.event .releaseConfirmFailed (zone := (s.channel c).zone) (channel := some c)) :=
  postSc_setChannel _ _ rfl

/-- R172. -/
theorem endSoak_eq :
    s.endSoak c =
      (s.setChannel c { s.channel c with soak := none, soakComplete := true }).tells
        (s.event .soakComplete (zone := (s.channel c).zone) (channel := some c)) :=
  postSc_setChannel _ _ rfl

/-- R177: the SOUNDERs of a channel are found by its zone and the roles of the devices. -/
theorem sounders_setChannel {x : Channel} (zone : x.zone = (s.channel c).zone) : (s.setChannel c x).sounders c = s.sounders c := by
  unfold State.sounders; rw [channel_setChannel_self, zone]; rfl

/-- R177: the present pattern goes out again. -/
theorem refreshTone_eq {n : Nat} (refresh : (s.channel c).refresh = some n) :
    s.refreshTone c =
      (s.setChannel c { s.channel c with refresh := some (n + 30) }).toned (s.sounders c) (s.channel c).state.tone := by
  have soundsAlike := sounders_setChannel (s := s) (c := c)
    (x := { s.channel c with refresh := (s.channel c).refresh.map (· + 30) }) rfl
  rw [State.refreshTone, sendTone_eq, soundsAlike, refresh]; rfl

theorem setDriveFault_eq :
    s.setDriveFault c =
      (s.setChannel c (Channel.recount { s.channel c with flags := { (s.channel c).flags with driveFault := true } })).tells
        (s.event .driveFault (zone := (s.channel c).zone) (channel := some c)
          (reason := some (if (s.channel c).readback = true then 1 else 0))) := by
  have code : boolCode (s.channel c).readback = if (s.channel c).readback = true then 1 else 0 := by
    cases (s.channel c).readback <;> rfl
  rw [← code]
  exact postSc_setChannel _ _ rfl

theorem clearDriveFault_eq :
    s.clearDriveFault c =
      (s.setChannel c (Channel.recount { s.channel c with flags := { (s.channel c).flags with driveFault := false } })).tells
        (s.event .driveFaultCleared (zone := (s.channel c).zone) (channel := some c)) :=
  postSc_setChannel _ _ rfl

/-- R169: once DRIVE_FAULT is set, a readback that disagrees is no longer counted. -/
theorem recount_faulted {x : Channel} (differs : x.readback ≠ x.driveOn) :
    Channel.recount { x with flags := { x.flags with driveFault := true } } =
      { x with flags := { x.flags with driveFault := true }, readCount := .stopped } := by
  simp [Channel.recount, differs.symm]

theorem recount_agreeing {x : Channel} (agrees : x.readback = x.driveOn) :
    Channel.recount { x with flags := { x.flags with driveFault := false } } =
      { x with flags := { x.flags with driveFault := false }, readCount := .stopped } := by
  simp [Channel.recount, agrees]

end

end Sys2Proof.Machine
end

section
open Sys2Proof Sys2Proof.Machine

/-- Settles O42, with what each timer's end does as an equation. -/
theorem channelTimersResult : Obligations.ChannelTimersResult := by
  refine ⟨fun s c n due => ⟨fun counting ended none => ?_, fun releasing drive => ?_, fun waiting confirm => ?_,
    fun discharged soak => ?_, fun refresh => ?_⟩, fun s c => ⟨fun level => ?_, fun counts differs => ?_, fun counts agrees => ?_⟩⟩
  · have released := release_eq counting
    rw [State.released, recount_on rfl] at released
    have acts : exec (.countdownExpiry c) s = .next (s.release c).settle :=
      congrArg (fun t : State => t.done) (if_pos ⟨counting, ended, (isEmpty_iff _).2 none⟩)
    rw [acts, released]; rfl
  · have acts : exec (.driveTimerExpiry c) s = .next (s.endRelease c).settle :=
      congrArg (fun t : State => t.done) (if_pos ⟨releasing, due_of_le due drive⟩)
    rw [acts, endRelease_eq, recount_off rfl]; rfl
  · have acts : exec (.valveConfirmTimeout c) s = .next (s.failConfirm c).settle :=
      congrArg (fun t : State => t.done) (if_pos ⟨waiting, due_of_le due confirm⟩)
    rw [acts, failConfirm_eq]
  · have acts : exec (.soakTimerExpiry c) s = .next (s.endSoak c).settle :=
      congrArg (fun t : State => t.done) (if_pos ⟨discharged, due_of_le due soak⟩)
    rw [acts, endSoak_eq]
  · have acts : exec (.toneRefresh c) s = .next (s.refreshTone c).settle :=
      congrArg (fun t : State => t.done) (if_pos (due_of_le due refresh))
    rw [acts, refreshTone_eq refresh]
    refine congrArg (fun tone : Tone => Host.Outcome.next (State.settle (State.toned _ _ tone))) ?_
    cases (s.channel c).state <;> rfl
  · have written : Channel.recount { s.channel c with readback := level } =
        { s.channel c with
          readback := level
          readCount :=
            if level = (s.channel c).driveOn then (if (s.channel c).flags.driveFault = true then .agreeing else .stopped)
            else (if (s.channel c).flags.driveFault = true then .stopped else .disagreeing) } := by
      by_cases agrees : level = (s.channel c).driveOn
      · simp [Channel.recount, agrees]
      · simp [Channel.recount, agrees, Ne.symm agrees]
    exact congrArg (fun x => Host.Outcome.next (s.setChannel c x).settle) written
  · have acts : exec (.driveFault c) s = .next (s.setDriveFault c).settle :=
      congrArg (fun t : State => t.done) (if_pos counts)
    rw [acts, setDriveFault_eq, recount_faulted differs]
  · have acts : exec (.driveFaultCleared c) s = .next (s.clearDriveFault c).settle :=
      congrArg (fun t : State => t.done) (if_pos counts)
    rw [acts, clearDriveFault_eq, recount_agreeing agrees]

end

section
namespace Sys2Proof.Machine

/-! ## The latches of a channel's detectors -/

/-- R158: a detector of the channel, its latch cleared; any other device as it is. -/
def State.unlatched (s : State) (c : ChannelId) (d : DevIx) : ScDevice :=
  if (s.device d).role.isDetectorOf c then { s.scDev d with latch := false } else s.scDev d

/-- R158: one device's part of the clearing. -/
def State.clearLatch (c : ChannelId) (s : State) (d : DevIx) : State :=
  if (s.device d).role.isDetectorOf c then s.setScDev d { s.scDev d with latch := false } else s

section
variable (s : State) (c : ChannelId)

theorem clearLatches_foldl : s.clearLatches c = allDevices63.foldl (State.clearLatch c) s := rfl

theorem scDev_clearLatch (k d : DevIx) :
    (s.clearLatch c k).scDev d = if d = k then s.unlatched c d else s.scDev d := by
  unfold State.clearLatch State.unlatched
  by_cases here : d = k
  · subst here; split <;> simp
  · rw [if_neg here]
    split
    · rw [scDev_setScDev, if_neg here]
    · rfl

/-- R158: a clearing over some of the devices writes SC's records of them and nothing else. -/
theorem clearing_eq (l : List DevIx) :
    l.foldl (State.clearLatch c) s = { s with sc := { s.sc with devs := (l.foldl (State.clearLatch c) s).sc.devs } } := by
  induction l generalizing s with
  | nil => rfl
  | cons k l ih =>
    refine (ih (s.clearLatch c k)).trans ?_
    rw [List.foldl_cons]
    unfold State.clearLatch; split <;> rfl

theorem scDev_clearing (l : List DevIx) (d : DevIx) :
    (l.foldl (State.clearLatch c) s).scDev d = if d ∈ l then s.unlatched c d else s.scDev d := by
  induction l generalizing s with
  | nil => simp
  | cons k l ih =>
    have again : (s.clearLatch c k).unlatched c d = s.unlatched c d := by
      have role : ((s.clearLatch c k).device d).role = (s.device d).role := by unfold State.clearLatch; split <;> rfl
      rw [State.unlatched, role, scDev_clearLatch, State.unlatched]
      (repeat' split) <;> rfl
    rw [List.foldl_cons, ih, again, scDev_clearLatch]
    by_cases here : d = k <;> by_cases later : d ∈ l <;> simp [here, later]

/-- R158: the latches of all the channel's detectors are cleared. -/
theorem clearLatches_eq : s.clearLatches c = s.latchesCleared c := by
  have written : (allDevices63.foldl (State.clearLatch c) s).sc.devs = Vector.ofFn (s.unlatched c) := by
    apply Vector.ext
    intro i hi
    have at_i := (scDev_clearing s c allDevices63 ⟨i, hi⟩).trans (if_pos (List.mem_finRange _))
    simpa [State.scDev, Vector.get_eq_getElem] using at_i
  have cleared : s.latchesCleared c = { s with sc := { s.sc with devs := Vector.ofFn (s.unlatched c) } } := by
    have entries : s.unlatched c = fun d =>
        if (s.device d).role = .detector c .groupA ∨ (s.device d).role = .detector c .groupB then
          { s.scDev d with latch := false }
        else s.scDev d := by
      funext d; simp only [State.unlatched, DevRole.isDetectorOf, Bool.or_eq_true, beq_iff_eq]
    rw [entries, State.latchesCleared]
  rw [clearLatches_foldl, clearing_eq, written, cleared]

@[simp] theorem channel_latchesCleared (e : ChannelId) : (s.latchesCleared c).channel e = s.channel e := by
  simp only [State.latchesCleared, State.channel]
@[simp] theorem key_latchesCleared (g : GiId) : (s.latchesCleared c).key g = s.key g := by
  simp only [State.latchesCleared, State.key]
@[simp] theorem csu_latchesCleared : (s.latchesCleared c).csu = s.csu := by simp only [State.latchesCleared]

end

/-! ## Lockout, its end, and a reset -/

theorem keyDemand_iff {s : State} {c : ChannelId} : s.keyDemand c = true ↔ ∃ g, s.key g = some c := by
  simp [State.keyDemand, allInputs]

section
variable {s : State} {c : ChannelId}

theorem silenced_csu (s : State) (c : ChannelId) (old : ChannelState) : (s.silenced c old).csu = s.csu := by
  cases old <;> simp [State.silenced]

theorem silenced_zone (s : State) (c : ChannelId) (old : ChannelState) :
    ((s.silenced c old).channel c).zone = (s.channel c).zone := by
  have toned : ((s.toned (s.sounders c) .off).channel c).zone = (s.channel c).zone := by simp [State.channel]
  cases old <;> simp [State.silenced, patternTold_zone, toned]

/-- R173, R174: a channel that has become silent, and the event that follows. -/
theorem toneOff_postSc {x : Channel} (old : ChannelState) (kind : EventKind) (reason : Option Nat) (silent : x.state.tone = .off)
    (zone : x.zone = (s.channel c).zone) :
    ((s.setChannel c x).toneOff c old.tone).postSc kind c reason =
      ((s.setChannel c x).silenced c old).tells
        (s.event kind (zone := (s.channel c).zone) (channel := some c) (reason := reason)) := by
  rw [toneOff_eq _ _ _ (by rw [channel_setChannel_self, silent]), postSc_eq, silenced_zone, channel_setChannel_self, zone,
    event_congr (silenced_csu _ c old)]
  rfl

/-- R174: a demand locks the channel out where its state lets it. -/
theorem lockOut_eq (r : LockoutReason) (active : (s.channel c).state.locksOut = true) :
    s.lockOut c r =
      ((s.setChannel c
          { s.channel c with
            state := .lockedOut, countdown := 0, countdownDue := false, abortSeen := false }).silenced c
          (s.channel c).state).tells
        (s.event .channelLockedOut (zone := (s.channel c).zone) (channel := some c) (reason := some r.code)) := by
  rw [State.lockOut, if_pos active]
  exact toneOff_postSc _ _ _ rfl rfl

theorem lockOut_inert (r : LockoutReason) (inert : (s.channel c).state.locksOut = false) : s.lockOut c r = s := by
  rw [State.lockOut, inert]; rfl

/-- R175: a LOCKED_OUT channel on which no demand is left. -/
def State.undemanded (s : State) (c : ChannelId) : Prop :=
  (s.channel c).state = .lockedOut ∧ (s.channel c).stationLockout = false ∧ ∀ g, s.key g ≠ some c

theorem undemanded_iff : s.undemanded c ↔
    (s.channel c).state = .lockedOut ∧ ¬ (s.channel c).stationLockout = true ∧ ¬ s.keyDemand c = true := by
  rw [keyDemand_iff]; simp [State.undemanded]

/-- R175: the channel leaves LOCKED_OUT. -/
theorem leaveLockout_eq (r : LockoutReason) (free : s.undemanded c) :
    s.leaveLockout c r =
      ((s.latchesCleared c).setChannel c
        { s.channel c with
          state := match (s.channel c).zone with | some _ => .normal | none => .unused
          abortSeen := false }).tells
        (s.event .channelRestored (zone := (s.channel c).zone) (channel := some c) (reason := some r.code)) := by
  have rest : (s.channel c).restState = match (s.channel c).zone with | some _ => .normal | none => .unused := by
    unfold Channel.restState; cases (s.channel c).zone <;> rfl
  have told := postSc_setChannel (s := s.latchesCleared c) (c := c)
    (x := { s.channel c with state := (s.channel c).restState, abortSeen := false }) .channelRestored (some r.code)
    (by rw [channel_latchesCleared])
  rw [channel_latchesCleared, event_congr (csu_latchesCleared s c)] at told
  rw [State.leaveLockout, if_pos (undemanded_iff.1 free), clearLatches_eq, ← rest]
  dsimp only
  rw [channel_latchesCleared, told]

theorem leaveLockout_stays (r : LockoutReason) (held : ¬ s.undemanded c) : s.leaveLockout c r = s := by
  rw [State.leaveLockout, if_neg fun free => held (undemanded_iff.2 free)]

/-- R173: the channel that CHANNEL RESET leaves. -/
theorem resetChannel_eq {st : ChannelState} (left : ((∃ g, s.key g = some c) ∧ st = .lockedOut)
      ∨ (¬ (∃ g, s.key g = some c) ∧ st = .normal)) :
    s.resetChannel c =
      (((s.latchesCleared c).setChannel c
        { s.channel c with
          countdown := 0, countdownDue := false, soak := none, soakComplete := false, abortSeen := false
          flags := { (s.channel c).flags with confirmFailed := false }, phase := .idle, state := st }).silenced c
        (s.channel c).state).tells
        (s.event .channelReset (zone := (s.channel c).zone) (channel := some c)) := by
  have demand : (if s.keyDemand c then ChannelState.lockedOut else .normal) = st := by
    rcases left with ⟨key, rfl⟩ | ⟨free, rfl⟩
    · exact if_pos (keyDemand_iff.2 key)
    · exact if_neg fun key => free (keyDemand_iff.1 key)
  have silent : st.tone = .off := by rcases left with ⟨-, rfl⟩ | ⟨-, rfl⟩ <;> rfl
  have keys : (s.latchesCleared c).keyDemand c = s.keyDemand c := by simp only [State.keyDemand, key_latchesCleared]
  unfold State.resetChannel; dsimp only
  rw [clearLatches_eq, channel_latchesCleared, keys, demand]
  rw [toneOff_postSc (s := s.latchesCleared c) _ _ _ silent (by rw [channel_latchesCleared]), channel_latchesCleared,
    event_congr (csu_latchesCleared s c)]

end

end Sys2Proof.Machine
end

section
namespace Sys2Proof.Machine

/-! ## The commands of a channel -/

theorem channelAt_val {n : Nat} {c : ChannelId} (number : n = c.val) : channelAt n = some c := by
  subst number; exact dif_pos c.isLt

theorem channelAt_none {n : Nat} (outside : 6 ≤ n) : channelAt n = none := dif_neg (Nat.not_lt.2 outside)

section
variable {s t : State} {seq : BitVec 4} {n : Byte} {c : ChannelId} {r : ReplyCode}

theorem exec_channelReset_taken (taken : s.takesCommands) (answered : cmdChannelReset n s = (t, .now r [])) :
    exec (.channelReset seq n) s = .next (t.addReply seq (.ready [0x28, BitVec.ofNat 8 r.code])).settle :=
  takeCommand_now taken seq codeChannelReset answered

theorem exec_channelLockout_taken (taken : s.takesCommands) (answered : cmdChannelLockout n s = (t, .now r [])) :
    exec (.channelLockout seq n) s = .next (t.addReply seq (.ready [0x29, BitVec.ofNat 8 r.code])).settle :=
  takeCommand_now taken seq codeChannelLockout answered

theorem exec_channelRestore_taken (taken : s.takesCommands) (answered : cmdChannelRestore n s = (t, .now r [])) :
    exec (.channelRestore seq n) s = .next (t.addReply seq (.ready [0x2A, BitVec.ofNat 8 r.code])).settle :=
  takeCommand_now taken seq codeChannelRestore answered

theorem cmdChannelReset_of (at_n : channelAt n.toNat = some c) :
    cmdChannelReset n s = if (s.channel c).resettable then (s.resetChannel c).yes else s.no .refusedState := by
  simp only [cmdChannelReset, at_n]

theorem cmdChannelLockout_of (at_n : channelAt n.toNat = some c) :
    cmdChannelLockout n s =
      if (s.channel c).state = .releasing ∨ (s.channel c).state = .discharged then s.no .refusedState
      else ((s.setChannel c { s.channel c with stationLockout := true }).lockOut c .station).yes := by
  simp only [cmdChannelLockout, at_n]

theorem cmdChannelRestore_of (at_n : channelAt n.toNat = some c) :
    cmdChannelRestore n s =
      if (s.channel c).stationLockout then
        ((s.setChannel c { s.channel c with stationLockout := false }).leaveLockout c .station).yes
      else s.no .refusedState := by
  simp only [cmdChannelRestore, at_n]

/-- R173: the states that a CHANNEL RESET ends. -/
theorem resettable_iff {x : Channel} : x.resettable = true ↔
    x.state = .firstAlarm ∨ x.state = .preDischarge ∨ x.state = .held ∨ (x.state = .discharged ∧ x.soakComplete = true) := by
  cases state : x.state <;> simp [Channel.resettable, state]

/-- R174: the demand of the station locks the channel out. -/
theorem stationLockOut_eq (active : (s.channel c).state.locksOut = true) :
    (s.setChannel c { s.channel c with stationLockout := true }).lockOut c .station =
      ((s.setChannel c
          { s.channel c with
            stationLockout := true, state := .lockedOut, countdown := 0, countdownDue := false, abortSeen := false }).silenced c
          (s.channel c).state).tells
        (s.event .channelLockedOut (zone := (s.channel c).zone) (channel := some c) (reason := some 1)) := by
  rw [lockOut_eq (s := s.setChannel c { s.channel c with stationLockout := true }) .station
    (by rw [channel_setChannel_self]; exact active), channel_setChannel_self, setChannel_setChannel]
  rfl

/-- R175: the demand of the station ends, and no other is left. -/
theorem stationRestore_eq (lockedOut : (s.channel c).state = .lockedOut) (free : ∀ g, s.key g ≠ some c) :
    (s.setChannel c { s.channel c with stationLockout := false }).leaveLockout c .station =
      ((s.latchesCleared c).setChannel c
        { s.channel c with
          stationLockout := false, abortSeen := false
          state := match (s.channel c).zone with | some _ => .normal | none => .unused }).tells
        (s.event .channelRestored (zone := (s.channel c).zone) (channel := some c) (reason := some 1)) := by
  have undemanded : (s.setChannel c { s.channel c with stationLockout := false }).undemanded c := by
    refine ⟨?_, ?_, free⟩ <;> rw [channel_setChannel_self]
    exact lockedOut
  have cleared (x : Channel) : (s.setChannel c x).latchesCleared c = (s.latchesCleared c).setChannel c x := by
    unfold State.latchesCleared State.setChannel; rfl
  rw [leaveLockout_eq .station undemanded, channel_setChannel_self, cleared, setChannel_setChannel]
  rfl

/-- R175: another demand is left, or the channel was not LOCKED_OUT. -/
theorem stationRestore_stays (held : (∃ g, s.key g = some c) ∨ (s.channel c).state ≠ .lockedOut) :
    (s.setChannel c { s.channel c with stationLockout := false }).leaveLockout c .station =
      s.setChannel c { s.channel c with stationLockout := false } := by
  refine leaveLockout_stays .station fun ⟨lockedOut, _, free⟩ => ?_
  rw [channel_setChannel_self] at lockedOut
  rcases held with ⟨g, key⟩ | notLockedOut
  · exact free g key
  · exact notLockedOut lockedOut

end

end Sys2Proof.Machine
end

section
open Sys2Proof Sys2Proof.Machine

/-- Settles O43: each command is refused by the channel's state, or leaves the channel that the shared operations of R173 to R175
leave. -/
theorem channelCommandsResult : Obligations.ChannelCommandsResult := by
  intro s seq n taken answers
  refine ⟨fun outside => ?_, fun c number => ?_⟩
  · have none' := channelAt_none outside
    exact ⟨exec_channelReset_taken (r := .badIndex) taken (by simp only [cmdChannelReset, none']; rfl),
      exec_channelLockout_taken (r := .badIndex) taken (by simp only [cmdChannelLockout, none']; rfl),
      exec_channelRestore_taken (r := .badIndex) taken (by simp only [cmdChannelRestore, none']; rfl)⟩
  intro ch key done
  have at_n := channelAt_val number
  have resets := cmdChannelReset_of (s := s) at_n
  have locks := cmdChannelLockout_of (s := s) at_n
  have restores := cmdChannelRestore_of (s := s) at_n
  refine ⟨fun inert => ?_, fun active st left => ?_, fun released => ?_, fun lockedOut => ?_, fun active => ?_,
    fun unlocked => ?_, fun locked lockedOut free => ?_, fun locked held => ?_⟩
  · refine exec_channelReset_taken (r := .refusedState) taken (resets.trans (if_neg ?_))
    rw [resettable_iff]
    rcases inert with state | state | state | state | ⟨state, soaking⟩ <;> simp_all [ch]
  · refine exec_channelReset_taken (r := .accept) taken ((resets.trans (if_pos (resettable_iff.2 active))).trans ?_)
    rw [resetChannel_eq left]; rfl
  · exact exec_channelLockout_taken (r := .refusedState) taken (locks.trans (if_pos released))
  · refine exec_channelLockout_taken (r := .accept) taken ((locks.trans (if_neg ?_)).trans ?_)
    · rw [lockedOut]; decide
    · rw [lockOut_inert .station (by rw [channel_setChannel_self]; exact congrArg ChannelState.locksOut lockedOut)]; rfl
  · have locksOut : (s.channel c).state.locksOut = true ∧ ¬ ((s.channel c).state = .releasing ∨ (s.channel c).state = .discharged) := by
      rcases active with state | state | state | state | state <;> rw [state] <;> decide
    refine exec_channelLockout_taken (r := .accept) taken ((locks.trans (if_neg locksOut.2)).trans ?_)
    rw [stationLockOut_eq locksOut.1]; rfl
  · exact exec_channelRestore_taken (r := .refusedState) taken (restores.trans (if_neg (by rw [unlocked]; decide)))
  · refine exec_channelRestore_taken (r := .accept) taken ((restores.trans (if_pos locked)).trans ?_)
    rw [stationRestore_eq lockedOut fun g stands => free ⟨g, stands⟩]; rfl
  · refine exec_channelRestore_taken (r := .accept) taken ((restores.trans (if_pos locked)).trans ?_)
    rw [stationRestore_stays held]; rfl

end

section
namespace Sys2Proof.Machine

/-! ## A hold-cause set that is formed again, by the state of its channel -/

section
variable {s : State} {c : ChannelId}

/-- R160: where the set is only recorded. -/
theorem recompute_records (records : (s.channel c).state.onlyRecords
      ∨ ((s.channel c).state = .discharged ∧ (s.channel c).soakComplete = true)
      ∨ ((s.channel c).state = .preDischarge ∧ s.holdCauses c = .empty)) :
    s.recompute c = s.setChannel c { s.channel c with hold := s.holdCauses c } := by
  unfold State.recompute; dsimp only
  rcases records with (state | state | state | state) | ⟨state, soaked⟩ | ⟨state, none⟩
  · rw [state]
  · rw [state]
  · rw [state]
  · rw [state]
  · rw [state]; exact if_pos soaked
  · rw [state]; exact if_pos ((isEmpty_iff _).2 none)

/-- R167: a set that changes while HELD is reported. -/
theorem recompute_held (held : (s.channel c).state = .held) (standing : s.holdCauses c ≠ .empty) :
    s.recompute c =
      let v := s.setChannel c
        { s.channel c with
          hold := s.holdCauses c, abortSeen := (s.channel c).abortSeen || (s.holdCauses c).abort }
      if s.holdCauses c = (s.channel c).hold then v
      else v.tells (s.event .holdChanged (zone := (s.channel c).zone) (channel := some c)
        (reason := some (s.holdCauses c).bits)) := by
  have notEmpty : ¬ (s.holdCauses c).isEmpty = true := fun none => standing ((isEmpty_iff _).1 none)
  unfold State.recompute; dsimp only
  rw [held]; dsimp only
  rw [if_neg notEmpty, channel_setChannel_self, setChannel_setChannel, ← code_eq_bits]
  split
  · rfl
  · exact postSc_setChannel _ _ rfl

/-- R171: the causes that join while RELEASING or in an unfinished soak. -/
theorem recompute_joins (after : (s.channel c).state = .releasing
      ∨ ((s.channel c).state = .discharged ∧ (s.channel c).soakComplete = false)) :
    s.recompute c =
      (((s.holdCauses c).joined (s.channel c).hold).map (fun n =>
        s.event .holdAfterRelease (zone := (s.channel c).zone) (channel := some c) (reason := some n))).foldl State.tells
        (s.setChannel c { s.channel c with hold := s.holdCauses c }) := by
  have joins : (s.setChannel c { s.channel c with hold := s.holdCauses c }).postJoining c (s.holdCauses c) (s.channel c).hold =
      (((s.holdCauses c).joined (s.channel c).hold).map (fun n =>
        s.event .holdAfterRelease (zone := (s.channel c).zone) (channel := some c) (reason := some n))).foldl State.tells
        (s.setChannel c { s.channel c with hold := s.holdCauses c }) := by
    rw [postJoining_eq, channel_setChannel_self]; rfl
  rw [← joins]
  unfold State.recompute; dsimp only
  rcases after with state | ⟨state, soaking⟩
  · rw [state]
  · rw [state]; exact if_neg (by rw [soaking]; decide)

end

/-! ## An abort line settles -/

/-- R159: the state in which the level of an abort line has been taken, and the set is formed again. -/
def State.abortSettled (s : State) (c : ChannelId) (raw : Bool) : State :=
  (s.setLine (.abort c) { raw, qualifier := .level raw false }).setChannel c { s.channel c with abortLine := raw }

section
variable {s : State} {c : ChannelId} {raw old : Bool}

@[simp] theorem channel_abortSettled : (s.abortSettled c raw).channel c = { s.channel c with abortLine := raw } :=
  channel_setChannel_self ..

@[simp] theorem event_abortSettled (kind : EventKind) (door : Option DoorId) (zone : Option ZoneId)
    (channel : Option ChannelId) (subject : Option Subject) (reason : Option Nat) :
    (s.abortSettled c raw).event kind door zone channel subject reason = s.event kind door zone channel subject reason := rfl

/-- R180, R159: the settle time of an abort line ends. -/
theorem exec_settle_abort (settling : s.line (.abort c) = { raw, qualifier := .level old true }) :
    exec (.settleTimerExpiry (.abort c)) s = .next ((s.abortSettled c raw).recompute c).settle := by
  have settled : s.settleExpired (.abort c) = (s.abortSettled c raw).recompute c := by
    unfold State.settleExpired; dsimp only
    rw [settling]; rfl
  exact congrArg (fun t : State => t.done) settled

/-- R160: an active abort line is a cause at a channel with a zone. -/
theorem holdCauses_abort (zoned : (s.channel c).zone ≠ none) : ((s.abortSettled c true).holdCauses c).abort = true := by
  obtain ⟨z, zone⟩ := Option.ne_none_iff_exists'.1 zoned
  simp only [State.holdCauses, State.abortPresent, channel_abortSettled, zone, Bool.true_or]

end

end Sys2Proof.Machine
end

section
open Sys2Proof Sys2Proof.Machine

/-- Settles O41, from what forming the set again does in PRE_DISCHARGE and in HELD. -/
theorem abortHoldsCountdown : Obligations.AbortHoldsCountdown := by
  intro s c raw old settling ch u h settled
  have runs := exec_settle_abort settling
  have now : (s.abortSettled c raw).channel c = { s.channel c with abortLine := raw } := channel_abortSettled
  refine ⟨fun zoned active => ?_, fun counting standing => ?_, fun counting free => ?_, fun held free => ?_⟩
  · subst active; exact holdCauses_abort zoned
  · exact runs.trans (congrArg (fun t : State => t.done) (recompute_hold _ c (by rw [now]; exact counting) standing))
  · have causes : (s.abortSettled c raw).holdCauses c = .empty := free
    have recorded := recompute_records (s := s.abortSettled c raw) (.inr (.inr ⟨by rw [now]; exact counting, causes⟩))
    rw [now, causes] at recorded
    exact runs.trans (congrArg (fun t : State => t.done) recorded)
  · exact runs.trans (congrArg (fun t : State => t.done) (recompute_resume _ c (by rw [now]; exact held) free))

end

section
namespace Sys2Proof.Machine

/-! ## What the start of a countdown leaves alone -/

/-- `t` comes from `s` by work on channel `c`, its tones and events, and on DC. -/
structure State.ActsAt (s t : State) (c : ChannelId) : Prop where
  devs : t.sc.devs = s.sc.devs
  others : ∀ e, e ≠ c → t.channel e = s.channel e
  ru : t.ru = s.ru
  alarms : t.sau.alarms = s.sau.alarms
  front : s.keepsFront t

namespace State.ActsAt

variable {r s t : State} {c : ChannelId}

theorem refl (s : State) (c : ChannelId) : s.ActsAt s c := ⟨rfl, fun _ _ => rfl, rfl, rfl, rfl, rfl, rfl, rfl, rfl⟩

theorem trans (h : r.ActsAt s c) (k : s.ActsAt t c) : r.ActsAt t c := by
  obtain ⟨pending, fc, csu, csc, pe⟩ := h.front
  obtain ⟨pending', fc', csu', csc', pe'⟩ := k.front
  exact ⟨k.devs.trans h.devs, fun e other => (k.others e other).trans (h.others e other), k.ru.trans h.ru,
    k.alarms.trans h.alarms, pending'.trans pending, fc'.trans fc, csu'.trans csu, csc'.trans csc, pe'.trans pe⟩

theorem ite {p : Prop} [Decidable p] (h : r.ActsAt s c) (k : r.ActsAt t c) : r.ActsAt (if p then s else t) c := by
  split
  · exact h
  · exact k

theorem setChannel (s : State) (c : ChannelId) (x : Channel) : s.ActsAt (s.setChannel c x) c :=
  ⟨rfl, fun e other => by rw [channel_setChannel, if_neg other], rfl, rfl, rfl, rfl, rfl, rfl, rfl⟩

theorem postSc (s : State) (kind : EventKind) (c e : ChannelId) (reason : Option Nat) : s.ActsAt (s.postSc kind e reason) c :=
  ⟨rfl, fun _ _ => rfl, rfl, rfl, rfl, rfl, rfl, rfl, rfl⟩

theorem notifyLockout (s : State) (c : ChannelId) : s.ActsAt (s.notifyLockout c) c := by
  unfold State.notifyLockout; split
  · exact ⟨by simp, fun e _ => by simp [State.channel], by simp, by simp, by simp, by simp, by simp, by simp, by simp⟩
  · exact refl s c

/-- R177: a change of pattern moves the refresh of its channel, and SAU's record of the pattern. -/
theorem changeTone (s : State) (c : ChannelId) (old : Tone) : s.ActsAt (s.changeTone c old) c := by
  have told (u : State) (t : Tone) : u.ActsAt ((u.sendTone c t).notifyTone c t) c := by
    refine ⟨?_, fun e _ => ?_, ?_, ?_, ?_, ?_, ?_, ?_, ?_⟩ <;>
      unfold State.notifyTone State.toneNotice State.sauTone State.sendTone <;> dsimp only <;> (repeat' split) <;>
      simp [State.channel]
  unfold State.changeTone; dsimp only; split
  · exact refl s c
  · exact (setChannel s c _).trans (told _ _)

theorem startCountdown (s : State) (c : ChannelId) : s.ActsAt (s.startCountdown c) c := by
  unfold State.startCountdown; dsimp only
  split
  · exact (((setChannel s c _).trans (ite (postSc ..) (postSc ..))).trans (changeTone _ c _)).trans (notifyLockout _ c)
  · exact ((setChannel s c _).trans (ite (postSc ..) (postSc ..))).trans (changeTone _ c _)

theorem firstAlarm (s : State) (c : ChannelId) (g : Group) : s.ActsAt (s.firstAlarm c g) c := by
  unfold State.firstAlarm; dsimp only
  exact ((setChannel s c _).trans (postSc _ _ c c _)).trans (notifyLockout _ c)

theorem offerLatch (s : State) (c : ChannelId) (g : Group) : s.ActsAt (s.offerLatch c g) c := by
  unfold State.offerLatch; dsimp only; split
  · split
    · exact startCountdown s c
    · exact firstAlarm s c g
  · split
    · exact startCountdown s c
    · exact refl s c
  all_goals exact refl s c

end State.ActsAt

/-! ## A detector frame -/

section
variable {s : State} {d : DevIx} {c : ChannelId} {g : Group}

/-- R158: a level that differs from the last one is recorded and posted. -/
def State.levelReported (s : State) (d : DevIx) (c : ChannelId) (level : DetectorLevel) : State :=
  if (s.scDev d).level = some level then s
  else (s.postSc level.event c (some (addressOf d))).setScDev d { s.scDev d with level := some level }

theorem detectorReport_eq (level : DetectorLevel) :
    s.detectorReport d c g level =
      if level = .alarm ∧ ((s.levelReported d c level).channel c).state.latches = true then
        ((s.levelReported d c level).setScDev d { (s.levelReported d c level).scDev d with latch := true }).offerLatch c g
      else s.levelReported d c level := rfl

@[simp] theorem channel_levelReported (level : DetectorLevel) (e : ChannelId) :
    (s.levelReported d c level).channel e = s.channel e := by
  unfold State.levelReported; split <;> rfl

theorem levelReported_same {level : DetectorLevel} (same : (s.scDev d).level = some level) : s.levelReported d c level = s :=
  if_pos same

theorem levelReported_new {level : DetectorLevel} (new : (s.scDev d).level ≠ some level) :
    s.levelReported d c level =
      (s.setScDev d { s.scDev d with level := some level }).tells
        (s.event level.event (zone := (s.channel c).zone) (channel := some c) (reason := some (d.val + 1))) :=
  if_neg new

/-- R158: a level other than ALARM is reported and no more. -/
theorem detectorReport_quiet {level : DetectorLevel} (quiet : level ≠ .alarm) :
    s.detectorReport d c g level = s.levelReported d c level := by
  rw [detectorReport_eq, if_neg fun ⟨alarm, _⟩ => quiet alarm]

/-- R158: nor is more made of an ALARM in a state that keeps no latches. -/
theorem detectorReport_unlatching (inert : (s.channel c).state = .unused ∨ (s.channel c).state = .lockedOut) :
    s.detectorReport d c g .alarm = s.levelReported d c .alarm := by
  rw [detectorReport_eq, if_neg]
  rw [channel_levelReported]
  rcases inert with state | state <;> rw [state] <;> decide

theorem latches_of {st : ChannelState} (used : st ≠ .unused) (free : st ≠ .lockedOut) : st.latches = true := by
  cases st with
  | unused => exact absurd rfl used
  | lockedOut => exact absurd rfl free
  | _ => rfl

/-- R158: the state in which the ALARM has been recorded, posted if it is new, and the latch set. -/
def State.latched (s : State) (d : DevIx) (c : ChannelId) : State :=
  (if (s.scDev d).level = some .alarm then s
    else s.tells (s.event .detectorAlarm (zone := (s.channel c).zone) (channel := some c)
      (reason := some (d.val + 1)))).setScDev d { s.scDev d with level := some .alarm, latch := true }

theorem detectorReport_latching (used : (s.channel c).state ≠ .unused) (free : (s.channel c).state ≠ .lockedOut) :
    s.detectorReport d c g .alarm = (s.latched d c).offerLatch c g := by
  rw [detectorReport_eq, if_pos ⟨rfl, by rw [channel_levelReported]; exact latches_of used free⟩]
  refine congrArg (fun t : State => t.offerLatch c g) ?_
  unfold State.latched
  by_cases same : (s.scDev d).level = some .alarm
  · rw [levelReported_same same, if_pos same, ← same]
  · rw [levelReported_new same, if_neg same]
    simp [setScDev_tells, DetectorLevel.event]

@[simp] theorem channel_latched (e : ChannelId) : (s.latched d c).channel e = s.channel e := by
  unfold State.latched; split <;> rfl

theorem scDev_latched (e : DevIx) :
    (s.latched d c).scDev e = if e = d then { s.scDev d with level := some .alarm, latch := true } else s.scDev e := by
  unfold State.latched; rw [scDev_setScDev]
  split
  · rfl
  · split <;> rfl

theorem device_latched (e : DevIx) : (s.latched d c).device e = s.device e := by
  unfold State.latched; split <;> rfl

theorem latched_front : s.ru = (s.latched d c).ru ∧ s.sau = (s.latched d c).sau ∧ s.keepsFront (s.latched d c) := by
  unfold State.latched; split <;> exact ⟨rfl, rfl, rfl, rfl, rfl, rfl, rfl⟩

/-- R162: a group is in alarm when one of its detectors of the channel is latched, among them the one that reports. -/
theorem groupInAlarm_latched_iff (role : (s.device d).role = .detector c g) (h : Group) :
    (s.latched d c).groupInAlarm c h = true ↔
      h = g ∨ ∃ e : DevIx, e ≠ d ∧ (s.device e).role = .detector c h ∧ (s.scDev e).latch = true := by
  simp only [State.groupInAlarm, List.any_eq_true, Bool.and_eq_true, beq_iff_eq, device_latched, scDev_latched]
  constructor
  · rintro ⟨e, -, of, latch⟩
    by_cases own : e = d
    · subst own
      exact .inl (DevRole.detector.inj (of.symm.trans role)).2
    · rw [if_neg own] at latch
      exact .inr ⟨e, own, of, latch⟩
  · rintro (rfl | ⟨e, other, of, latch⟩)
    · exact ⟨d, List.mem_finRange d, role, by rw [if_pos rfl]⟩
    · exact ⟨e, List.mem_finRange e, of, by rw [if_neg other]; exact latch⟩

theorem both_iff (role : (s.device d).role = .detector c g) :
    ((s.latched d c).groupInAlarm c .groupA && (s.latched d c).groupInAlarm c .groupB) = true ↔
      ∀ h : Group, h = g ∨ ∃ e : DevIx, e ≠ d ∧ (s.device e).role = .detector c h ∧ (s.scDev e).latch = true := by
  rw [Bool.and_eq_true, groupInAlarm_latched_iff role, groupInAlarm_latched_iff role]
  exact ⟨fun ⟨a, b⟩ h => by cases h <;> assumption, fun all => ⟨all _, all _⟩⟩

end

/-! ## A latch is offered to detection -/

section
variable {s : State} {c : ChannelId} {g : Group}

/-- R162: the first group alone. -/
theorem offerLatch_firstAlarm (normal : (s.channel c).state = .normal) (coincidence : (s.channel c).coincidence = true)
    (one : ¬ (s.groupInAlarm c .groupA && s.groupInAlarm c .groupB) = true) :
    s.offerLatch c g =
      ((s.setChannel c { s.channel c with state := .firstAlarm }).tells
        (s.event .channelFirstAlarm (zone := (s.channel c).zone) (channel := some c)
          (reason := some (match g with | .groupA => 0 | .groupB => 1)))).lockoutSetEntered c := by
  have code : g.code = match g with | .groupA => 0 | .groupB => 1 := by cases g <;> rfl
  have offered : s.offerLatch c g = s.firstAlarm c g := by
    simp only [State.offerLatch, normal, coincidence, one]
    rfl
  rw [offered, ← code]
  exact congrArg (fun t : State => t.notifyLockout c) (postSc_setChannel _ _ rfl)

/-- R164, R165: the latch starts the countdown of a NORMAL channel. -/
theorem offerLatch_starts (normal : (s.channel c).state = .normal)
    (met : (s.channel c).coincidence = false ∨ (s.groupInAlarm c .groupA && s.groupInAlarm c .groupB) = true) :
    s.offerLatch c g = (s.countdownStarted c).lockoutSetEntered c := by
  have offered : s.offerLatch c g = s.startCountdown c := by
    rcases met with single | both
    · exact offerLatch_single normal single
    · simp only [State.offerLatch, normal, both, Bool.or_true, if_true]
  rw [offered, startCountdown_eq s c (.inl normal), if_pos normal]

/-- R164, R165: the second group starts the countdown. -/
theorem offerLatch_second (first : (s.channel c).state = .firstAlarm)
    (both : (s.groupInAlarm c .groupA && s.groupInAlarm c .groupB) = true) : s.offerLatch c g = s.countdownStarted c := by
  have offered : s.offerLatch c g = s.startCountdown c := by simp only [State.offerLatch, first, both, if_true]
  rw [offered, startCountdown_eq s c (.inr first), if_neg (by rw [first]; decide)]

theorem offerLatch_idle (notNormal : (s.channel c).state ≠ .normal)
    (still : (s.channel c).state ≠ .firstAlarm ∨ ¬ (s.groupInAlarm c .groupA && s.groupInAlarm c .groupB) = true) :
    s.offerLatch c g = s := by
  unfold State.offerLatch; dsimp only; split
  · next normal => exact absurd normal notNormal
  · next first => exact if_neg (still.resolve_left fun h => h first)
  all_goals rfl

end

end Sys2Proof.Machine
end

section
open Sys2Proof Sys2Proof.Machine

/-- Settles O39: the report, the latch, and what the latch is offered to. -/
theorem detectionResult : Obligations.DetectionResult := by
  intro s d c g role ch t told other both
  have bothAlarmed := both_iff role
  refine ⟨fun level quiet same => ?_, fun level kind paired new => ?_, fun inert new => ?_, fun inert same => ?_,
    fun used free => ?_⟩
  · exact (detectorReport_quiet quiet).trans (levelReported_same same)
  · have quiet : level ≠ .alarm ∧ level.event = kind := by rcases paired with ⟨rfl, rfl⟩ | ⟨rfl, rfl⟩ <;> decide
    refine (detectorReport_quiet quiet.1).trans ((levelReported_new new).trans ?_)
    rw [quiet.2]
  · exact (detectorReport_unlatching inert).trans (levelReported_new new)
  · exact (detectorReport_unlatching inert).trans (levelReported_same same)
  have latches : t .alarm = (s.latched d c).offerLatch c g := detectorReport_latching used free
  have at_c : (s.latched d c).channel c = s.channel c := channel_latched c
  obtain ⟨devs, others, ru, alarms, front⟩ := State.ActsAt.offerLatch (s.latched d c) c g
  obtain ⟨sameRu, sameSau, pending, fc, csu, csc, pe⟩ := latched_front (s := s) (d := d) (c := c)
  obtain ⟨pending', fc', csu', csc', pe'⟩ := front
  have scDev (e : DevIx) : (t .alarm).scDev e = (s.latched d c).scDev e := by rw [latches, State.scDev, devs]; rfl
  refine ⟨(scDev d).trans ((scDev_latched d).trans (if_pos rfl)),
    fun e elsewhere => (scDev e).trans ((scDev_latched e).trans (if_neg elsewhere)),
    fun e elsewhere => by rw [latches, others e elsewhere, channel_latched], by rw [latches, ru, sameRu],
    by rw [latches, alarms, sameSau], ?_, ?_, ?_, ?_, ?_⟩
  · rw [latches]
    exact ⟨pending'.trans pending, fc'.trans fc, csu'.trans csu, csc'.trans csc, pe'.trans pe⟩
  · intro normal coincidence one
    have first := offerLatch_firstAlarm (g := g) (by rw [at_c]; exact normal) (by rw [at_c]; exact coincidence)
      (mt bothAlarmed.1 one)
    rw [at_c, event_congr csu] at first
    exact latches.trans first
  · intro normal met
    exact latches.trans (offerLatch_starts (by rw [at_c]; exact normal)
      (by rw [at_c]; exact met.imp_right bothAlarmed.2))
  · intro first all
    exact latches.trans (offerLatch_second (by rw [at_c]; exact first) (bothAlarmed.2 all))
  · intro notNormal still
    exact latches.trans (offerLatch_idle (by rw [at_c]; exact notNormal)
      (by rw [at_c]; exact still.imp_right (mt bothAlarmed.1)))

end

section
namespace Sys2Proof.Machine

/-! ## A lockout key settles -/

section
variable {s : State} {c : ChannelId} {g : GiId} {raw old : Bool}

/-- R180, R174: the settle time of a LOCKOUT KEY line ends. -/
theorem exec_settle_key (settling : s.line (.general g) = { raw, qualifier := .level old true })
    (function : s.lineFunction g = .lockoutKey c) :
    exec (.settleTimerExpiry (.general g)) s =
      .next ((s.setLine (.general g) { raw, qualifier := .level raw false }).keyNotice g c raw).settle := by
  have settled : s.settleExpired (.general g) =
      (s.setLine (.general g) { raw, qualifier := .level raw false }).keyNotice g c raw := by
    have kept : (s.setLine (.general g) { raw, qualifier := .level raw false }).lineFunction g = .lockoutKey c := function
    unfold State.settleExpired; dsimp only
    rw [settling]; dsimp only
    unfold State.lineNotice; dsimp only
    rw [kept]
  exact congrArg (fun t : State => t.done) settled

/-- R175: a key that lets go. -/
theorem leaveLockout_key : s.leaveLockout c .key = s.keyLetGo c := by
  by_cases free : s.undemanded c
  · rw [leaveLockout_eq .key free, State.keyLetGo]
    exact (if_pos free).symm
  · rw [leaveLockout_stays .key free, State.keyLetGo]
    exact (if_neg free).symm

/-- R174: a key locks the channel out. -/
theorem keyLockOut_eq (active : (s.channel c).state.locksOut = true) :
    (s.setKey g (some c)).lockOut c .key =
      (((s.setKey g (some c)).setChannel c
          { s.channel c with
            state := .lockedOut, countdown := 0, countdownDue := false, abortSeen := false }).silenced c
          (s.channel c).state).tells
        (s.event .channelLockedOut (zone := (s.channel c).zone) (channel := some c) (reason := some 2)) :=
  lockOut_eq (s := s.setKey g (some c)) .key active

end

/-! ## The end of the OVERDUE alarm -/

section
variable (s : State)

@[simp] theorem changeTone_sau_alarms (c : ChannelId) (t : Tone) : (s.changeTone c t).sau.alarms = s.sau.alarms :=
  (State.ActsAt.changeTone s c t).alarms
@[simp] theorem recompute_sau_alarms (c : ChannelId) : (s.recompute c).sau.alarms = s.sau.alarms := by
  unfold State.recompute State.holdCountdown State.resumeCountdown; dsimp only; (repeat' split) <;> simp
@[simp] theorem scAlarmNotice_sau_alarms (z : ZoneId) (present : Bool) :
    (s.scAlarmNotice z present).sau.alarms = s.sau.alarms := by
  unfold State.scAlarmNotice State.recomputeZone; split <;> simp
@[simp] theorem alarmNotices_sau_alarms (b : State) : (b.alarmNotices s).sau.alarms = s.sau.alarms :=
  foldl_keeps (fun t => t.sau.alarms) _ (fun t z => by split <;> simp) _ _
@[simp] theorem goIdle_sau_alarms (z : ZoneId) : (s.goIdle z).sau.alarms = s.sau.alarms := by
  unfold State.goIdle State.sauTone; dsimp only; (repeat' split) <;> simp
@[simp] theorem leaveOverdue_sau_alarms (z : ZoneId) : (s.leaveOverdue z).sau.alarms = s.sau.alarms := by
  unfold State.leaveOverdue; (repeat' split) <;> simp [State.startRunning]
@[simp] theorem recordGone_sau_alarms (r : AlarmRecord) : (s.recordGone r).sau.alarms = s.sau.alarms := by
  unfold State.recordGone; split
  · exact foldl_keeps (fun t => t.sau.alarms) _ (fun t z => by split <;> simp) _ _
  all_goals rfl

end

section
variable {s t : State} {y z : ZoneId} {m : Nat}

/-- R194: the timer of one zone leaves OVERDUE. -/
theorem lone_leaveOverdue_other (other : y ≠ z) : (s.leaveOverdue z).lone y = s.lone y := by
  unfold State.leaveOverdue; split
  · split
    · rw [lone_startRunning, if_neg other]
    · rw [lone_goIdle, if_neg other]
  · rfl

theorem leaveOverdue_running (overdue : (s.lone z).state = .overdue) (alone : (s.lone z).condition = some m) :
    s.leaveOverdue z = s.startRunning z m := by
  rw [State.leaveOverdue, if_pos overdue, alone]

theorem leaveOverdue_other (elsewhere : (s.lone z).state ≠ .overdue) : s.leaveOverdue z = s := if_neg elsewhere

/-- R194: the timer of a zone that stands alone with the number leaves OVERDUE. -/
def State.overdueGone (m : Nat) (s : State) (z : ZoneId) : State :=
  if (s.lone z).condition = some m then s.leaveOverdue z else s

theorem overdueGone_other (other : y ≠ z) : (s.overdueGone m z).lone y = s.lone y := by
  unfold State.overdueGone; split
  · exact lone_leaveOverdue_other other
  · rfl

theorem overdueGone_idle (still : (s.lone z).condition ≠ some m ∨ (s.lone z).state ≠ .overdue) : s.overdueGone m z = s := by
  unfold State.overdueGone; split
  · next alone => exact leaveOverdue_other (still.resolve_left fun h => h alone)
  · rfl

theorem overdueGone_front : (s.overdueGone m z).csu = s.csu ∧ (s.overdueGone m z).csc = s.csc
    ∧ (s.overdueGone m z).ru = s.ru := by
  unfold State.overdueGone; split
  · simp
  · exact ⟨rfl, rfl, rfl⟩

/-- R194: a timer that is not OVERDUE, or that another number or none keeps, stays. -/
theorem lone_overdueGones_idle (l : List ZoneId) (still : (s.lone y).condition ≠ some m ∨ (s.lone y).state ≠ .overdue) :
    (l.foldl (State.overdueGone m) s).lone y = s.lone y := by
  induction l generalizing s with
  | nil => rfl
  | cons z l ih =>
    have step : (s.overdueGone m z).lone y = s.lone y := by
      by_cases here : y = z
      · subst here; rw [overdueGone_idle still]
      · exact overdueGone_other here
    exact (ih (by rw [step]; exact still)).trans step

theorem runningLone_congr (lone : t.lone z = s.lone z) (csu : t.csu = s.csu) (csc : t.csc = s.csc) (ru : t.ru = s.ru) :
    t.runningLone z m = s.runningLone z m := by
  simp only [State.runningLone, State.checkInInterval, State.after, State.zone, lone, csu, csc, ru]

/-- R191, R194: an OVERDUE timer that the number keeps starts RUNNING. -/
theorem lone_overdueGones (l : List ZoneId) (listed : z ∈ l) (overdue : (s.lone z).state = .overdue)
    (alone : (s.lone z).condition = some m) : (l.foldl (State.overdueGone m) s).lone z = s.runningLone z m := by
  induction l generalizing s with
  | nil => exact absurd listed List.not_mem_nil
  | cons x l ih =>
    rw [List.foldl_cons]
    by_cases here : z = x
    · subst here
      have step : (s.overdueGone m z).lone z = s.runningLone z m := by
        rw [State.overdueGone, if_pos alone, leaveOverdue_running overdue alone, lone_startRunning, if_pos rfl]
      exact (lone_overdueGones_idle l (.inr (by rw [step]; exact nofun))).trans step
    · have step : (s.overdueGone m x).lone z = s.lone z := overdueGone_other here
      obtain ⟨csu, csc, ru⟩ := overdueGone_front (s := s) (m := m) (z := x)
      refine (ih ((List.mem_cons.1 listed).resolve_left here) (by rw [step]; exact overdue) (by rw [step]; exact alone)).trans ?_
      exact runningLone_congr step csu csc ru

/-- R194: the record of an alarm goes: the OVERDUE alarm of the number takes its zones' timers out of OVERDUE. -/
theorem lone_recordGone (r : AlarmRecord) (tracked : z ≠ 0) (overdue : (s.lone z).state = .overdue)
    (alone : (s.lone z).condition = some m) :
    (s.recordGone r).lone z = (if r.identity = .overdue m then s.runningLone z m else s.lone z)
      ∧ ∀ y, (s.lone y).condition ≠ some m → r.identity = .overdue m → (s.recordGone r).lone y = s.lone y := by
  have gone {k : Nat} (identity : r.identity = .overdue k) : s.recordGone r = trackedZones.foldl (State.overdueGone k) s := by
    rw [State.recordGone, identity]; rfl
  refine ⟨?_, fun y apart identity => ?_⟩
  · split
    · next identity => rw [gone identity, lone_overdueGones _ (mem_trackedZones.2 tracked) overdue alone]
    · next other =>
      cases identity : r.identity with
      | overdue k =>
        rw [gone identity, lone_overdueGones_idle _ (.inl _)]
        rw [alone]
        exact fun same => other (identity.trans (congrArg AlarmIdentity.overdue (Option.some.inj same).symm))
      | _ => rw [State.recordGone, identity]
  · rw [gone identity, lone_overdueGones_idle _ (.inl apart)]

end

/-! ## ALARM CLEAR and ALARM CLEAR ZONE -/

section
variable {s t : State} {seq : BitVec 4} {n : Byte} {z : ZoneId} {m : Nat} {r : ReplyCode}

theorem exec_alarmClear_taken (taken : s.takesCommands) (answered : cmdAlarmClear n s = (t, .now r [])) :
    exec (.alarmClear seq n) s = .next (t.addReply seq (.ready (replyPayload codeAlarmClear r []))).settle :=
  takeCommand_now taken seq codeAlarmClear answered

theorem exec_alarmClearZone_taken (taken : s.takesCommands) (answered : cmdAlarmClearZone n s = (t, .now r [])) :
    exec (.alarmClearZone seq n) s = .next (t.addReply seq (.ready (replyPayload codeAlarmClearZone r []))).settle :=
  takeCommand_now taken seq codeAlarmClearZone answered

/-- R188: the first record of the number is found, and leaves the table. -/
theorem cmdAlarmClear_record {a b : List AlarmRecord} {x : AlarmRecord} (stands : s.sau.alarms = a ++ x :: b)
    (number : x.number = n.toNat) (earlier : ∀ y ∈ a, y.number ≠ n.toNat) (acked : x.acked ≠ none) :
    cmdAlarmClear n s = (s.clearAlarm a.length).yes ∧ s.sau.alarms[a.length]? = some x
      ∧ s.sau.alarms.eraseIdx a.length = a ++ b := by
  have index : s.alarmIndex n = some a.length := by
    rw [State.alarmIndex, stands, List.findIdx?_eq_some_iff_getElem]
    refine ⟨by simp, by simp [number], fun j before => ?_⟩
    have at_j := earlier _ (List.getElem_mem before)
    simpa [List.getElem_append_left before] using at_j
  have at_index : s.sau.alarms[a.length]? = some x := by rw [stands]; simp
  refine ⟨?_, at_index, by rw [stands]; simp [List.eraseIdx_append_of_length_le]⟩
  simp only [cmdAlarmClear, index, at_index]
  exact if_pos (Option.isSome_iff_ne_none.2 acked)

/-- R188, R194: what the clearing of a record makes of the table and of the timers. -/
theorem clearAlarm_result {i : Nat} {x : AlarmRecord} (at_i : s.sau.alarms[i]? = some x) (tracked : z ≠ 0)
    (overdue : (s.lone z).state = .overdue) (alone : (s.lone z).condition = some m) :
    (s.clearAlarm i).sau.alarms = s.sau.alarms.eraseIdx i
      ∧ (s.clearAlarm i).lone z = (if x.identity = .overdue m then s.runningLone z m else s.lone z)
      ∧ ∀ y, (s.lone y).condition ≠ some m → x.identity = .overdue m → (s.clearAlarm i).lone y = s.lone y := by
  have removed : s.removeAlarm i 2 = ((s.setAlarms (s.sau.alarms.eraseIdx i)).post .staffAlarmCleared
      (reason := some (paired 2 x.number))).recordGone x := by
    simp only [State.removeAlarm, at_i]
  have lone (y : ZoneId) : (s.clearAlarm i).lone y = (s.removeAlarm i 2).lone y := by simp [State.clearAlarm, State.lone]
  obtain ⟨own, others⟩ := lone_recordGone (s := (s.setAlarms (s.sau.alarms.eraseIdx i)).post .staffAlarmCleared
    (reason := some (paired 2 x.number))) x tracked overdue alone
  refine ⟨by simp [State.clearAlarm, removed], ?_, fun y apart identity => ?_⟩
  · rw [lone, removed]; exact own
  · rw [lone, removed]; exact others y apart identity

theorem cmdAlarmClearZone_overflow (number : n.toNat = z.val) (overflow : s.alarmOverflow z = true) :
    cmdAlarmClearZone n s = (s.clearOverflow z).yes := by
  have at_n : zoneOf n.toNat = some z := by rw [number]; exact dif_pos z.isLt
  simp only [cmdAlarmClearZone, at_n]
  exact if_pos overflow

theorem overdueUnheld_iff (alone : (s.lone z).condition = some m) :
    s.overdueUnheld z = true ↔ ¬ ∃ r ∈ s.sau.alarms, r.identity = .overdue m := by
  simp [State.overdueUnheld, alone]

/-- R189, R194: what the end of a zone's overflow makes of the timers. -/
theorem clearOverflow_result (overdue : (s.lone z).state = .overdue) (alone : (s.lone z).condition = some m) :
    (s.clearOverflow z).sau.alarms = s.sau.alarms
      ∧ (s.clearOverflow z).lone z = (if ∃ r ∈ s.sau.alarms, r.identity = .overdue m then s.lone z else s.runningLone z m)
      ∧ ∀ y, y ≠ z → (s.clearOverflow z).lone y = s.lone y := by
  have noticed (b u : State) (y : ZoneId) : (b.alarmNotices u).lone y = u.lone y := by simp [State.lone]
  have cleared : ∃ u : State, u.sau.alarms = s.sau.alarms ∧ (∀ y, u.lone y = s.lone y) ∧ u.runningLone z m = s.runningLone z m
      ∧ s.clearOverflow z = s.alarmNotices (if u.overdueUnheld z then u.leaveOverdue z else u) :=
    ⟨(s.setAlarmOverflow z false).post .alarmOverflowCleared (zone := some z), rfl, fun _ => rfl, rfl, rfl⟩
  obtain ⟨u, alarms, lone, running, ended⟩ := cleared
  have alone' : (u.lone z).condition = some m := by rw [lone]; exact alone
  have overdue' : (u.lone z).state = .overdue := by rw [lone]; exact overdue
  have unheld := overdueUnheld_iff alone'
  rw [alarms] at unheld
  rw [ended, alarmNotices_sau_alarms]
  by_cases held : ∃ r ∈ s.sau.alarms, r.identity = .overdue m
  · rw [if_neg (mt unheld.1 (not_not.2 held)), if_pos held]
    exact ⟨alarms, (noticed s u z).trans (lone z), fun y _ => (noticed s u y).trans (lone y)⟩
  · rw [if_pos (unheld.2 held), if_neg held, leaveOverdue_running overdue' alone']
    refine ⟨alarms, ?_, fun y other => ?_⟩
    · rw [noticed, lone_startRunning, if_pos rfl, running]
    · rw [noticed, lone_startRunning, if_neg other, lone]

end

end Sys2Proof.Machine
end

section
open Sys2Proof Sys2Proof.Machine

/-- Settles O48: the key's demand, the set of an abort line formed again, and the timer that the end of its alarm starts. -/
theorem keysHoldsAndOverdueResult : Obligations.KeysHoldsAndOverdueResult := by
  refine ⟨fun s raw old g c settling function => ?_, fun s c raw old settling => ?_,
    fun s seq n z m taken tracked overdue alone => ?_⟩
  · intro ch u settled told locked
    have runs := exec_settle_key settling function
    refine ⟨fun released => ?_, fun pressed => ⟨fun active => ?_, fun inert => ?_⟩⟩
    · subst released
      exact runs.trans (congrArg (fun t : State => t.done) leaveLockout_key)
    · subst pressed
      have locksOut : (s.channel c).state.locksOut = true := by
        rcases active with state | state | state | state | state <;> rw [state] <;> rfl
      have now : u.channel c = s.channel c := by simp [u, State.channel]
      have lockedOut := keyLockOut_eq (s := u) (g := g) (c := c) (by rw [now]; exact locksOut)
      rw [now, event_setLine] at lockedOut
      exact runs.trans (congrArg (fun t : State => t.done) lockedOut)
    · subst pressed
      have stays : (s.channel c).state.locksOut = false := by
        rcases inert with state | state | state <;> rw [state] <;> rfl
      have now : (u.setKey g (some c)).channel c = s.channel c := by simp [u, State.channel]
      exact runs.trans (congrArg (fun t : State => t.done) (lockOut_inert .key (by rw [now]; exact stays)))
  · intro ch u h settled told
    have runs := exec_settle_abort settling
    have now : (s.abortSettled c raw).channel c = { s.channel c with abortLine := raw } := channel_abortSettled
    refine ⟨fun held standing => ?_, fun after => ?_, fun records => ?_⟩
    · have formed := recompute_held (s := s.abortSettled c raw) (by rw [now]; exact held) standing
      rw [now, event_abortSettled] at formed
      exact ⟨fun same => runs.trans (congrArg (fun t : State => t.done) (formed.trans (if_pos same))),
        fun changed => runs.trans (congrArg (fun t : State => t.done) (formed.trans (if_neg changed)))⟩
    · have joins := recompute_joins (s := s.abortSettled c raw) (by rw [now]; exact after)
      rw [now] at joins
      exact runs.trans (congrArg (fun t : State => t.done) joins)
    · have recorded := recompute_records (s := s.abortSettled c raw)
        (records.imp (fun quiet => by rw [now]; exact quiet) fun soaked => .inl (by rw [now]; exact soaked))
      rw [now] at recorded
      exact runs.trans (congrArg (fun t : State => t.done) recorded)
  · intro l seconds running
    refine ⟨fun a r b stands number earlier acked => ?_, fun number overflow => ?_⟩
    · obtain ⟨answered, at_index, rest⟩ := cmdAlarmClear_record stands number earlier acked
      obtain ⟨alarms, own, others⟩ := clearAlarm_result at_index tracked overdue alone
      exact ⟨_, exec_alarmClear_taken taken answered, alarms.trans rest, own, others⟩
    · obtain ⟨alarms, own, others⟩ := clearOverflow_result overdue alone
      exact ⟨_, exec_alarmClearZone_taken taken (cmdAlarmClearZone_overflow number overflow), alarms, own, others⟩

end

section
namespace Sys2Proof.Machine

/-! ## TABLE WRITE of one entry -/

section
variable {s u : State} {l : List Byte} {seq : BitVec 4} {r : ReplyCode}

/-- R205: one entry is written at the cursor, and answered by its own code. -/
theorem exec_tableWrite_one (taken : s.takesCommands) (size : s.sp.cursorTable.writeSize = some l.length) (some' : l ≠ [])
    (inTable : s.sp.cursorIndex < s.sp.cursorTable.entries)
    (written : s.writeEntry s.sp.cursorTable s.sp.cursorIndex l = (u, r)) :
    exec (.tableWrite seq l) s =
      .next ((u.setCursor s.sp.cursorTable (s.sp.cursorIndex + 1)).addReply seq
        (.ready [0x03, BitVec.ofNat 8 r.code, BitVec.ofNat 8 r.code])).settle := by
  have positive : 0 < l.length := List.length_pos_iff.2 some'
  have one : l.length / l.length = 1 := Nat.div_self positive
  have whole : entriesOf l.length 1 l = [l] := by simp [entriesOf, slice]
  have next : Machine.writeNext s.sp.cursorTable (s, []) l = (u.setCursor s.sp.cursorTable (s.sp.cursorIndex + 1), [r]) := by
    unfold Machine.writeNext; dsimp only
    rw [if_pos inTable, written]; rfl
  have overall : overallCode [r] 1 = r := by
    unfold overallCode
    by_cases accepted : r = .accept <;> simp [accepted]
  have answered : cmdTableWrite l s =
      (u.setCursor s.sp.cursorTable (s.sp.cursorIndex + 1), .now r [BitVec.ofNat 8 r.code]) := by
    unfold Machine.cmdTableWrite; dsimp only
    rw [size]; dsimp only
    rw [one, whole, if_neg (by simp [some'])]
    simp only [List.foldl_cons, List.foldl_nil, next, overall, List.map_cons, List.map_nil]
  exact takeCommand_now taken seq codeTableWrite answered

/-- R203: the cursor moves past the entry. -/
theorem exec_tableWrite_moved {code : Byte} (taken : s.takesCommands) (size : s.sp.cursorTable.writeSize = some l.length)
    (some' : l ≠ []) (inTable : s.sp.cursorIndex < s.sp.cursorTable.entries)
    (written : s.writeEntry s.sp.cursorTable s.sp.cursorIndex l = (u, r)) (coded : BitVec.ofNat 8 r.code = code) :
    let v := u.setCursor s.sp.cursorTable (s.sp.cursorIndex + 1)
    exec (.tableWrite seq l) s =
      .next ({ v with sp := { v.sp with cursorIndex := s.sp.cursorIndex + 1 } }.addReply seq
        (.ready [0x03, code, code])).settle := by
  subst coded
  have ran := exec_tableWrite_one (seq := seq) taken size some' inTable written
  exact ran

/-- R203: the cursor stays at its table. -/
theorem setCursor_same (table : u.sp.cursorTable = s.sp.cursorTable) (n : Nat) :
    u.setCursor s.sp.cursorTable n = { u with sp := { u.sp with cursorIndex := n } } := by
  rw [State.setCursor, ← table]

end

section
variable {s u : State} {l : List Byte} {seq : BitVec 4} {r : ReplyCode} {code : Byte}

/-- R203, R205: the write of one entry that leaves the cursor's table as it is. -/
theorem exec_tableWrite_answers (taken : s.takesCommands) (written : s.writeEntry s.sp.cursorTable s.sp.cursorIndex l = (u, r))
    (size : s.sp.cursorTable.writeSize = some l.length) (some' : l.length ≠ 0)
    (inTable : s.sp.cursorIndex < s.sp.cursorTable.entries) (cursor : u.sp.cursorTable = s.sp.cursorTable)
    (coded : BitVec.ofNat 8 r.code = code) :
    exec (.tableWrite seq l) s =
      .next ({ u with sp := { u.sp with cursorIndex := s.sp.cursorIndex + 1 } }.addReply seq
        (.ready [0x03, code, code])).settle := by
  have ran := exec_tableWrite_one (seq := seq) taken size (fun none' => some' (by rw [none']; rfl)) inTable written
  rw [setCursor_same cursor, coded] at ran
  exact ran

end

/-! ### The fields of an entry -/

theorem clamp_eq {low high : Nat} (n : Nat) (range : low ≤ high) : clamp low high n = max low (min high n) := by
  unfold clamp; split
  · omega
  · split <;> omega

theorem outside_iff {low high : Nat} (n : Nat) (range : low ≤ high) :
    outside low high n = false ↔ max low (min high n) = n := by
  simp only [outside, Bool.or_eq_false_iff, decide_eq_false_iff_not]
  omega

/-- Table 11-5: a write that had to clamp no value is answered ACCEPT. -/
theorem clampCode_of_iff {clamped : Bool} {p : Prop} [Decidable p] (h : clamped = false ↔ p) :
    BitVec.ofNat 8 (clampCode clamped).code = if p then 0x00 else 0x01 := by
  rw [clampCode_code]
  by_cases whole : p
  · rw [if_pos whole, h.2 whole]; rfl
  · rw [if_neg whole, Bool.eq_true_of_not_eq_false (mt h.1 whole)]; rfl

theorem zoneOf_val {n : Nat} {z : ZoneId} (number : n = z.val) : zoneOf n = some z := by
  subst number; exact dif_pos z.isLt

/-! ### CHANNEL -/

section
variable {s : State} {c : ChannelId} {l : List Byte}

/-- Table 8-1: the zone that a byte of a channel's entry names, if it names one that may be written. -/
def State.bindsTo (s : State) (c : ChannelId) (n : Nat) (zone : Option ZoneId) : Prop :=
  (n = 255 ∧ zone = none)
    ∨ ∃ z, z ≠ 0 ∧ n = z.val ∧ zone = some z ∧ ∀ e, e ≠ c → (s.channel e).zone ≠ some z

theorem channelZoneOf_iff {n : Nat} {zone : Option ZoneId} : s.channelZoneOf c n = some zone ↔ s.bindsTo c n zone := by
  unfold State.channelZoneOf State.bindsTo
  by_cases none' : n = 0xFF
  · rw [if_pos none', Option.some.injEq]
    refine ⟨fun h => .inl ⟨none', h.symm⟩, fun h => ?_⟩
    rcases h with ⟨-, rfl⟩ | ⟨z, -, number, -⟩
    · rfl
    · have bound := z.isLt; omega
  · rw [if_neg none']
    cases found : trackedZoneOf n with
    | none =>
      refine ⟨nofun, fun h => ?_⟩
      rcases h with ⟨h, -⟩ | ⟨z, tracked, number, -⟩
      · exact absurd h none'
      · rw [trackedZoneOf_some.2 ⟨tracked, number⟩] at found; exact nomatch found
    | some z =>
      obtain ⟨tracked, number⟩ := trackedZoneOf_some.1 found
      have taken : allChannels.any (fun k => k != c && (s.channel k).zone == some z) = true ↔
          ¬ ∀ e, e ≠ c → (s.channel e).zone ≠ some z := by
        simp [List.any_eq_true, allChannels]
      dsimp only
      by_cases free : ∀ e, e ≠ c → (s.channel e).zone ≠ some z
      · rw [if_neg (fun any => taken.1 any free), Option.some.injEq]
        refine ⟨fun h => .inr ⟨z, tracked, number, h.symm, free⟩, fun h => ?_⟩
        rcases h with ⟨h, -⟩ | ⟨y, -, number', rfl, -⟩
        · exact absurd h none'
        · exact congrArg some (Fin.ext (number.symm.trans number'))
      · rw [if_pos (taken.2 free)]
        refine ⟨nofun, fun h => ?_⟩
        rcases h with ⟨h, -⟩ | ⟨y, -, number', -, free'⟩
        · exact absurd h none'
        · have same : y = z := Fin.ext (number'.symm.trans number)
          subst same; exact absurd free' free

theorem isQuiet_iff {st : ChannelState} : st.isQuiet = true ↔ st = .unused ∨ st = .normal ∨ st = .lockedOut := by
  cases st <;> simp [ChannelState.isQuiet]

/-- R156: a write to a channel that is at work is refused. -/
theorem writeChannel_refused (busy : ¬ (s.channel c).state.isQuiet = true) : s.writeChannel c l = (s, .refusedState) :=
  if_pos busy

/-- R156: a write of a value that no field takes is refused. -/
theorem writeChannel_bad (quiet : (s.channel c).state.isQuiet = true)
    (bad : 1 < field l 2 1 ∨ 1 < field l 3 1 ∨ s.channelZoneOf c (field l 0 1) = none) :
    s.writeChannel c l = (s, .badValue) := by
  unfold State.writeChannel; dsimp only
  rw [if_neg (not_not.2 quiet)]
  split
  · rfl
  · next good =>
    have unbound := (bad.resolve_left fun h => good (.inl h)).resolve_left fun h => good (.inr h)
    rw [unbound]

/-- R156: the channel that a write of a good entry leaves. -/
def State.writtenChannel (s : State) (c : ChannelId) (l : List Byte) (zone : Option ZoneId) : Channel :=
  { s.channel c with
    zone, countdownLength := clamp 10 120 (field l 1 1)
    abortMode := if field l 2 1 = 0 then .pause else .restart
    coincidence := decide (field l 3 1 = 0), driveTime := clamp 5 120 (field l 4 1)
    confirmTimeout := clamp 1 30 (field l 5 1), soakTime := clamp 300 7200 (field l 6 2)
    state := (s.channel c).state.afterWrite zone }

theorem writeChannel_stored {zone : Option ZoneId} (quiet : (s.channel c).state.isQuiet = true)
    (good : ¬ (1 < field l 2 1 ∨ 1 < field l 3 1)) (bound : s.channelZoneOf c (field l 0 1) = some zone) :
    s.writeChannel c l =
      ((s.setChannel c (s.writtenChannel c l zone)).recompute c,
        clampCode (outside 10 120 (field l 1 1) || outside 5 120 (field l 4 1) || outside 1 30 (field l 5 1)
          || outside 300 7200 (field l 6 2))) := by
  unfold State.writeChannel; dsimp only
  rw [if_neg (not_not.2 quiet), if_neg good, bound]; rfl

/-- R160: a channel that a write leaves is at rest, where a changed set is only recorded. -/
theorem recompute_writtenChannel (zone : Option ZoneId) :
    (s.setChannel c (s.writtenChannel c l zone)).recompute c =
      (s.setChannel c (s.writtenChannel c l zone)).setChannel c
        { s.writtenChannel c l zone with hold := (s.setChannel c (s.writtenChannel c l zone)).holdCauses c } := by
  have atRest : (s.writtenChannel c l zone).state.onlyRecords := by
    unfold State.writtenChannel ChannelState.afterWrite ChannelState.onlyRecords; dsimp only
    (repeat' split) <;> simp
  rw [recompute_records (.inl (by rw [channel_setChannel_self]; exact atRest)), channel_setChannel_self]

end

/-! ### ZONE -/

section
variable (s : State)

@[simp] theorem startRunning_sau_alarms (z : ZoneId) (n : Nat) : (s.startRunning z n).sau.alarms = s.sau.alarms := rfl
@[simp] theorem loneAfterHours_sau_alarms (z : ZoneId) (flag : Bool) :
    (s.loneAfterHours z flag).sau.alarms = s.sau.alarms := by
  unfold State.loneAfterHours State.loneChanged; dsimp only; (repeat' split) <;> simp
@[simp] theorem refreshAfterHours_sau_alarms : s.refreshAfterHours.sau.alarms = s.sau.alarms := by
  unfold State.refreshAfterHours
  exact foldl_keeps (fun u => u.sau.alarms) _ (fun u z => by dsimp only; split <;> simp) _ _

end

/-- R140, R46: a zone entry that names another staffed schedule. -/
theorem writeZone_staffed {s : State} {z : ZoneId} {l : List Byte} {n : SchedId} (tracked : z ≠ 0)
    (named : schedOf (field l 1 1) = some n) (other : n ≠ (s.zone z).staffed) :
    s.writeZone z l =
      ((s.setZone z { limit := clamp 1 64 (field l 0 1), staffed := n, checkIn := clamp 5 120 (field l 2 1)
                      grace := clamp 30 600 (field l 3 2) }).refreshAfterHours,
        clampCode (outside 1 64 (field l 0 1) || outside 5 120 (field l 2 1) || outside 30 600 (field l 3 2))) := by
  unfold State.writeZone; dsimp only
  rw [if_neg tracked, named]; dsimp only
  rw [if_neg other]

/-- R140, R46: what a zone's new entry and the flags that follow it leave. -/
theorem refreshed_setZone (s : State) (z : ZoneId) (e : ZoneEntry) (table : TableId) (k : Nat) :
    let u := (s.setZone z e).refreshAfterHours.setCursor table k
    u.zone z = e ∧ (∀ y, y ≠ z → u.zone y = s.zone y)
      ∧ (∀ y, u.afterHours y = !s.csu.covers (u.zone y).staffed) ∧ u.csu = { s.csu with afterHours := u.csu.afterHours }
      ∧ u.ru.rosters = s.ru.rosters ∧ u.ru.status = s.ru.status ∧ u.sau.alarms = s.sau.alarms
      ∧ u.pending = s.pending ∧ u.fc = s.fc ∧ u.csc = s.csc ∧ u.pe = s.pe ∧ u.dc = s.dc ∧ u.sc = s.sc := by
  have flags := refreshAfterHours_flag (s.setZone z e)
  have csu := refreshAfterHours_csu (s.setZone z e)
  have ru : (s.setZone z e).refreshAfterHours.ru = (s.setZone z e).ru := refreshAfterHours_ru _
  have rest : (s.setZone z e).refreshAfterHours.sau.alarms = s.sau.alarms
      ∧ (s.setZone z e).refreshAfterHours.pending = s.pending ∧ (s.setZone z e).refreshAfterHours.fc = s.fc
      ∧ (s.setZone z e).refreshAfterHours.csc = s.csc ∧ (s.setZone z e).refreshAfterHours.pe = s.pe
      ∧ (s.setZone z e).refreshAfterHours.dc = s.dc ∧ (s.setZone z e).refreshAfterHours.sc = s.sc := by simp
  generalize (s.setZone z e).refreshAfterHours = v at flags csu ru rest
  have zone (y : ZoneId) : v.zone y = if y = z then e else s.zone y := by
    rw [← zone_setZone]; simp only [State.zone, ru]
  have rosters : v.ru.rosters = s.ru.rosters ∧ v.ru.status = s.ru.status := by rw [ru]; exact ⟨rfl, rfl⟩
  refine ⟨(zone z).trans (if_pos rfl), fun y other => (zone y).trans (if_neg other), fun y => ?_, csu, rosters.1, rosters.2, rest⟩
  have entry : v.zone y = (s.setZone z e).zone y := by simp only [State.zone, ru]
  exact (flags y).trans (by rw [← entry]; rfl)

/-! ### LINE -/

section
variable {s : State} {g : GiId} {l : List Byte} {c : ChannelId}

/-- R183: the state in which the line's old function has ended: an ACTIVE LOCKOUT KEY has let go. -/
theorem endFunction_none (ended : ∀ c settling, s.lineFunction g = .lockoutKey c →
    (s.line (.general g)).qualifier ≠ .level true settling) : s.endFunction g = s := by
  unfold State.endFunction; split
  · next c settling function active => exact absurd active (ended c settling function)
  · rfl

theorem endFunction_key {settling : Bool} (function : s.lineFunction g = .lockoutKey c)
    (active : (s.line (.general g)).qualifier = .level true settling) :
    s.endFunction g = (s.setKey g none).keyLetGo c := by
  unfold State.endFunction
  rw [function, active]
  exact leaveLockout_key

theorem latchesCleared_sau_sp : (s.latchesCleared c).sau = s.sau ∧ (s.latchesCleared c).sp = s.sp := by
  simp only [State.latchesCleared, and_self]

theorem keyLetGo_sau : (s.keyLetGo c).sau = s.sau := by
  unfold State.keyLetGo; dsimp only; split
  · rw [tells_sau, setChannel_sau, latchesCleared_sau_sp.1]
  · rfl

theorem keyLetGo_cursor : (s.keyLetGo c).sp.cursorTable = s.sp.cursorTable := by
  unfold State.keyLetGo; dsimp only; split
  · rw [tells_sp, enqueue_cursorTable, setChannel_sp, latchesCleared_sau_sp.2]
  · rfl

theorem writeLine_bad (bad : lineFunctionOf (field l 0 1) (field l 1 1) = none) : s.writeLine g l = (s, .badValue) := by
  unfold State.writeLine; rw [bad]

/-- R183: the new function's qualifier starts from the raw level. -/
theorem writeLine_stored {v : State} {f : LineFunction} (ended : s.endFunction g = v) (sau : v.sau = s.sau)
    (good : lineFunctionOf (field l 0 1) (field l 1 1) = some f) :
    s.writeLine g l =
      ((v.setLineFunction g f).setLine (.general g)
        { raw := (s.line (.general g)).raw, qualifier := f.fresh (s.line (.general g)).raw }, .accept) := by
  have kept : (v.setLineFunction g f).line (.general g) = s.line (.general g) := by
    simp only [State.line, State.setLineFunction, sau]
  unfold State.writeLine
  rw [good, ended]; dsimp only
  rw [kept]

theorem lineFunctionOf_none {a b : Nat} (bad : 3 < a ∨ ((a = 1 ∨ a = 2) ∧ 11 < b) ∨ (a = 2 ∧ b = 0) ∨ (a = 3 ∧ 5 < b)) :
    lineFunctionOf a b = none := by
  rcases bad with unknown | ⟨rfl | rfl, outside⟩ | ⟨rfl, rfl⟩ | ⟨rfl, outside⟩
  · unfold lineFunctionOf; split <;> first | omega | rfl
  · simp [lineFunctionOf, zoneOf, show ¬ b < 12 by omega]
  · simp [lineFunctionOf, trackedZoneOf_none.2 (.inr outside)]
  · simp [lineFunctionOf, trackedZoneOf]
  · simp [lineFunctionOf, channelAt_none outside]

end

end Sys2Proof.Machine
end

section
open Sys2Proof Sys2Proof.Machine

/-- Settles O58: one entry is written at the cursor, and each of the three writes is the checks of its fields and what it stores. -/
theorem otherWritesResult : Obligations.OtherWritesResult := by
  intro s seq l taken i b given within answers
  have one (n : Nat) : field l n 1 = b n := field_one l n
  refine ⟨fun c table at_i length => ?_, fun z table tracked at_i length n named other => ?_, fun g table at_i length => ?_⟩
  · intro ch quiet bound
    have entry : s.writeEntry s.sp.cursorTable i l = s.writeChannel c l := by
      rw [table, State.writeEntry, channelAt_val at_i]
    have wrote {u : State} {r : ReplyCode} {code : Byte} (written : s.writeChannel c l = (u, r))
        (cursor : u.sp.cursorTable = s.sp.cursorTable) (coded : BitVec.ofNat 8 r.code = code) : answers u code :=
      exec_tableWrite_answers taken (entry.trans written) (by rw [table, length]; rfl) (by rw [length]; decide)
        (by rw [table]; exact lt_of_eq_of_lt at_i c.isLt) cursor coded
    refine ⟨fun busy => ?_, fun quiet bad => ?_, fun zone quiet two three bound => ?_⟩
    · exact wrote (writeChannel_refused (mt isQuiet_iff.1 busy)) rfl rfl
    · refine wrote (writeChannel_bad (isQuiet_iff.2 quiet) ?_) rfl rfl
      rw [one, one, one]
      refine bad.imp_right (Or.imp_right fun unbound => ?_)
      cases found : s.channelZoneOf c (b 0) with
      | none => rfl
      | some zone => exact absurd (channelZoneOf_iff.1 found) (unbound zone)
    · intro y u
      have soak : field l 6 2 = given 6 := field_two (by rw [length]; decide)
      have left : s.writtenChannel c l zone = y := by
        unfold State.writtenChannel ChannelState.afterWrite
        rw [one, one, one, one, one, soak, clamp_eq _ (by decide), clamp_eq _ (by decide), clamp_eq _ (by decide),
          clamp_eq _ (by decide)]
        cases zone <;> rfl
      have stored := writeChannel_stored (isQuiet_iff.2 quiet)
        (by rw [one, one]; exact not_or.2 ⟨Nat.not_lt.2 two, Nat.not_lt.2 three⟩)
        (by rw [one]; exact channelZoneOf_iff.2 bound)
      rw [recompute_writtenChannel, left, one, one, one, soak] at stored
      refine wrote stored rfl (clampCode_of_iff ?_)
      simp only [Bool.or_eq_false_iff, outside_iff _ (show 10 ≤ 120 by decide), outside_iff _ (show 5 ≤ 120 by decide),
        outside_iff _ (show 1 ≤ 30 by decide), outside_iff _ (show 300 ≤ 7200 by decide), and_assoc]
      exact Iff.rfl
  · have entry : s.writeEntry s.sp.cursorTable i l = s.writeZone z l := by
      rw [table, State.writeEntry, zoneOf_val at_i]
    have grace : field l 3 2 = given 3 := field_two (by rw [length]; decide)
    have sched : schedOf (field l 1 1) = some n := by rw [one, named]; exact dif_pos n.isLt
    have stored := writeZone_staffed tracked sched other
    rw [one, one, grace, clamp_eq _ (by decide), clamp_eq _ (by decide), clamp_eq _ (by decide)] at stored
    have unclamped : (outside 1 64 (b 0) || outside 5 120 (b 2) || outside 30 600 (given 3)) = false ↔
        within 1 64 (b 0) = b 0 ∧ within 5 120 (b 2) = b 2 ∧ within 30 600 (given 3) = given 3 := by
      simp only [Bool.or_eq_false_iff, outside_iff _ (show 1 ≤ 64 by decide), outside_iff _ (show 5 ≤ 120 by decide),
        outside_iff _ (show 30 ≤ 600 by decide), and_assoc]
      exact Iff.rfl
    obtain ⟨e, entered⟩ : ∃ e : ZoneEntry, e =
        { limit := within 1 64 (b 0), staffed := n, checkIn := within 5 120 (b 2), grace := within 30 600 (given 3) } := ⟨_, rfl⟩
    have stored' : s.writeZone z l = ((s.setZone z e).refreshAfterHours,
        clampCode (outside 1 64 (b 0) || outside 5 120 (b 2) || outside 30 600 (given 3))) := by
      rw [entered]; exact stored
    have ran := exec_tableWrite_moved (seq := seq) taken (by rw [table, length]; rfl)
      (List.ne_nil_of_length_pos (by rw [length]; decide)) (by rw [table]; exact lt_of_eq_of_lt at_i z.isLt)
      (entry.trans stored') (clampCode_of_iff unclamped)
    obtain ⟨own, others, flags, rest⟩ := refreshed_setZone s z e s.sp.cursorTable (i + 1)
    refine ⟨_, _, ran, own.trans entered, others, ?_, ?_, flags, rest⟩
    · split <;> simp [*]
    · split
      · exact .inl rfl
      · exact .inr rfl
  · have entry : s.writeEntry s.sp.cursorTable i l = s.writeLine g l := by
      have at_g : inputOf i = some g := by rw [at_i]; exact dif_pos g.isLt
      rw [table, State.writeEntry, at_g]
    have wrote {u : State} {r : ReplyCode} {code : Byte} (written : s.writeLine g l = (u, r))
        (cursor : u.sp.cursorTable = s.sp.cursorTable) (coded : BitVec.ofNat 8 r.code = code) : answers u code :=
      exec_tableWrite_answers taken (entry.trans written) (by rw [table, length]; rfl) (by rw [length]; decide)
        (by rw [table]; exact lt_of_eq_of_lt at_i g.isLt) cursor coded
    intro raw written
    have stores {v : State} (ended : s.endFunction g = v) (sau : v.sau = s.sau)
        (cursor : v.sp.cursorTable = s.sp.cursorTable) : written v := by
      have good {f : LineFunction} (named : lineFunctionOf (b 0) (b 1) = some f) :
          answers ((v.setLineFunction g f).setLine (.general g) { raw, qualifier := f.fresh raw }) 0x00 :=
        wrote (writeLine_stored ended sau (by rw [one, one]; exact named)) cursor rfl
      refine ⟨fun bad => ?_, fun zero => ?_, fun z first at_z => ?_, fun z second tracked at_z => ?_, fun c third at_c => ?_⟩
      · exact wrote (writeLine_bad (by rw [one, one]; exact lineFunctionOf_none bad)) rfl rfl
      · exact good (by rw [zero]; rfl)
      · exact good (f := .staffButton z) (by rw [first, at_z]; simp [lineFunctionOf, zoneOf_val rfl])
      · exact good (f := .zoneClearKey z) (by
          rw [second, at_z]; simp [lineFunctionOf, trackedZoneOf_some.2 ⟨tracked, rfl⟩])
      · exact good (f := .lockoutKey c) (by rw [third, at_c]; simp [lineFunctionOf, channelAt_val rfl])
    refine ⟨fun ended => stores (endFunction_none ended) rfl rfl, fun c settling function active => ?_⟩
    exact stores (endFunction_key function active) keyLetGo_sau keyLetGo_cursor

end
